-- ==== Sys2Proof/Word.lean ====
section
/-! DEFINITION. The plain words of the model: bytes, token codes, site time, lanes, and the four-fold record that
holds one thing for each lane or deck. -/

namespace Sys2Proof

/-- One byte of the office link, of a token frame or of the printer bus. -/
abbrev Byte := BitVec 8

/-- A token code: eight bytes, most significant first (R92, R120). -/
abbrev Token := BitVec 64

/-- Site time: a count of seconds from 0 to 4,294,967,295 (R199). -/
abbrev SiteTime := BitVec 32

/-- The four lanes; deck n, loops n, readers n, barrier n and heads n all belong to lane n (00_scope.md). -/
inductive Lane where
  | one | two | three | four
  deriving DecidableEq, Repr

/-- The lanes in number order. -/
def Lane.all : List Lane := [.one, .two, .three, .four]

/-- A lane's number, 1 to 4. -/
def Lane.number : Lane → Nat
  | .one => 1
  | .two => 2
  | .three => 3
  | .four => 4

/-- The lane of a number, where it names one. -/
def Lane.ofNumber : Nat → Option Lane
  | 1 => some .one
  | 2 => some .two
  | 3 => some .three
  | 4 => some .four
  | _ => none

/-- One thing for each of the four lanes or decks. -/
structure Quad (α : Type) where
  one : α
  two : α
  three : α
  four : α
  deriving DecidableEq, Repr

variable {α β : Type}

/-- The lane's own member. -/
def Quad.get (q : Quad α) : Lane → α
  | .one => q.one
  | .two => q.two
  | .three => q.three
  | .four => q.four

/-- Replaces one lane's member. -/
def Quad.set (q : Quad α) (n : Lane) (a : α) : Quad α :=
  match n with
  | .one => { q with one := a }
  | .two => { q with two := a }
  | .three => { q with three := a }
  | .four => { q with four := a }

/-- Changes one lane's member. -/
def Quad.upd (q : Quad α) (n : Lane) (f : α → α) : Quad α := q.set n (f (q.get n))

/-- The same thing for every lane. -/
def Quad.fill (a : α) : Quad α := ⟨a, a, a, a⟩

/-- One thing for each lane, made from the lane. -/
def Quad.ofFn (f : Lane → α) : Quad α := ⟨f .one, f .two, f .three, f .four⟩

/-- Changes every lane's member. -/
def Quad.map (q : Quad α) (f : α → β) : Quad β := ⟨f q.one, f q.two, f q.three, f q.four⟩

/-- The members in lane order. -/
def Quad.toList (q : Quad α) : List α := [q.one, q.two, q.three, q.four]

@[simp] theorem Quad.get_set_self (q : Quad α) (n : Lane) (a : α) : (q.set n a).get n = a := by
  cases n <;> rfl

theorem Quad.get_set_ne (q : Quad α) (n m : Lane) (a : α) (h : m ≠ n) : (q.set n a).get m = q.get m := by
  cases n <;> cases m <;> first | rfl | exact absurd rfl h

theorem Quad.get_set (q : Quad α) (n m : Lane) (a : α) :
    (q.set n a).get m = if m = n then a else q.get m := by
  cases n <;> cases m <;> rfl

@[simp] theorem Quad.get_upd_self (q : Quad α) (n : Lane) (f : α → α) : (q.upd n f).get n = f (q.get n) := by
  cases n <;> rfl

theorem Quad.get_upd (q : Quad α) (n m : Lane) (f : α → α) :
    (q.upd n f).get m = if m = n then f (q.get m) else q.get m := by
  cases n <;> cases m <;> rfl

@[simp] theorem Quad.get_fill (a : α) (n : Lane) : (Quad.fill a).get n = a := by
  cases n <;> rfl

@[simp] theorem Quad.get_ofFn (f : Lane → α) (n : Lane) : (Quad.ofFn f).get n = f n := by
  cases n <;> rfl

@[simp] theorem Quad.get_map (q : Quad α) (f : α → β) (n : Lane) : (q.map f).get n = f (q.get n) := by
  cases n <;> rfl

@[simp] theorem Quad.upd_upd (q : Quad α) (n : Lane) (f g : α → α) :
    (q.upd n f).upd n g = q.upd n (fun a => g (f a)) := by
  cases n <;> rfl

@[ext] theorem Quad.ext_get {p q : Quad α} (h : ∀ n, p.get n = q.get n) : p = q := by
  cases p; cases q
  have h1 := h .one; have h2 := h .two; have h3 := h .three; have h4 := h .four
  simp only [Quad.get] at h1 h2 h3 h4
  subst h1; subst h2; subst h3; subst h4; rfl

end Sys2Proof
end

