-- ==== Sys2Proof/Syntax.lean ====
section
/-! DEFINITION. The commands of the block: one constructor of `Instr` for each row of the table of operations and
events. A record of the host carries how its header was received and its fields as the bytes of the office link give
them, not yet checked against their ranges (R203, R204). -/

namespace Sys2Proof

/-- The two loops of a lane (00_scope.md). -/
inductive LoopSide where
  | entry | clear
  deriving DecidableEq, Repr

/-- The two token readers of a lane (R92). -/
inductive ReaderSide where
  | approach | deck
  deriving DecidableEq, Repr

/-- The two limit switches of a barrier (R80). -/
inductive SwitchSide where
  | down | up
  deriving DecidableEq, Repr

/-- The channel of an executed record: 0 is the site, 1 to 4 are the lanes (R191). -/
inductive Chan where
  | site
  | lane (n : Lane)
  deriving DecidableEq, Repr

/-- The channel type of a kind, item or target (R191). -/
inductive ChanType where
  | site | lane | any
  deriving DecidableEq, Repr

/-- How a record's header was received: its channel, and whether one damaged bit was put right (R188). -/
structure RecHead where
  chan : Chan
  corrected : Bool
  deriving DecidableEq, Repr

/-- The payload of a long record: its fields, or bytes that do not fit the layout of R204. -/
inductive Body (α : Type) where
  | misfit
  | item (a : α)
  deriving DecidableEq, Repr

/-- What the header of a record adds to the errors as it is read, apart from the error that ends the record (R186,
R188). -/
structure HeaderMarks where
  corrected : Bool
  kindUnknown : Bool
  channelBad : Bool
  deriving DecidableEq, Repr

/-- A header that adds nothing, or of which too little came to be judged. -/
def HeaderMarks.none : HeaderMarks := ⟨false, false, false⟩

/-- A header that ends the reading of a transmission (R186, R188): one past mending, or one of a long kind whose
length is 0 or above 1,024, with what its header adds beside. -/
inductive HeaderFault where
  | bad
  | length (m : HeaderMarks)
  deriving DecidableEq, Repr

/-- A record that completes without the effect of a row of its own. -/
inductive NotExecuted where
  /-- CHECKSUM, KIND_UNKNOWN or CHANNEL_BAD (R190), with HEADER_CORRECTED where it was found too; `turn` says that the
  record is a TURN, which gives the turn although it is not executed (R193). -/
  | damaged (corrected checksum kindUnknown channelBad turn : Bool)
  /-- A clean record whose argument, item, target or operation code names nothing (R202, R204). -/
  | unlisted (h : RecHead) (t : ChanType)
  deriving DecidableEq, Repr

/-- What a read transfer of a printer's status gives: no acknowledge, or the status byte (R179). -/
inductive StatusRead where
  | noAck
  | byte (b : Byte)
  deriving DecidableEq, Repr

/-- What the update copy held as a reset took the part (R209): nothing, an update not yet marked complete, or one
marked complete. -/
inductive Caught where
  | empty | incomplete | complete
  deriving DecidableEq, Repr

/-- A set of the five retained sections, in the order of R206. -/
structure SectionSet where
  calibration : Bool
  settings : Bool
  identities : Bool
  traffic : Bool
  tickets : Bool
  deriving DecidableEq, Repr

/-- How the checks of retained memory read as the part leaves reset (R209, R210): for each section, and for the update
copy, the bits in which its check as found differs from the check as held. -/
structure CheckDamage where
  calibration : BitVec 32
  settings : BitVec 32
  identities : BitVec 32
  traffic : BitVec 32
  tickets : BitVec 32
  copy : BitVec 32
  deriving DecidableEq, Repr

/-- Every check reads as it is held. -/
def CheckDamage.none : CheckDamage := ⟨0, 0, 0, 0, 0, 0⟩

/-- What the part finds as it leaves reset (R207, R209, R184, R55, R91): the supply in millivolts, the two rate straps
(set when tied), the level of CAL ENABLE, the levels of the limit switches and comparators, and the damage of the
checks. -/
structure StartEnv where
  supplyMv : Nat
  strapA : Bool
  strapB : Bool
  calEnable : Bool
  downSwitch : Quad Bool
  upSwitch : Quad Bool
  comparator : Quad Bool
  damage : CheckDamage
  deriving DecidableEq, Repr

/-- SETUP deck settling (R204 code 4). -/
structure SettlingItem where
  band : BitVec 16
  tTent : Byte
  tSettle : Byte
  tLock : Byte
  tDrop : Byte
  deriving DecidableEq, Repr

/-- SETUP loop (R204 code 7). -/
structure LoopItem where
  loop : Byte
  onThr : BitVec 16
  offThr : BitVec 16
  limit : BitVec 16
  relearn : Byte
  deriving DecidableEq, Repr

/-- SETUP barrier (R204 code 8). -/
structure BarrierItem where
  start : Byte
  run : Byte
  step : Byte
  travel : Byte
  deriving DecidableEq, Repr

/-- SETUP lane policy (R204 code 9). -/
structure PolicyItem where
  direction : Byte
  admitting : Byte
  account : Byte
  cls : Byte
  stream : Byte
  passTimeout : BitVec 16
  deriving DecidableEq, Repr

/-- SETUP waiting list (R204 code 10). -/
structure ListItem where
  depths : Quad Byte
  age : Byte
  deriving DecidableEq, Repr

/-- SETUP vehicle table (R204 code 11). -/
structure VehicleTableItem where
  learnLimit : BitVec 16
  provAge : BitVec 16
  tareAge : BitVec 16
  deriving DecidableEq, Repr

/-- SETUP class (R204 code 12). -/
structure ClassItem where
  cls : Byte
  parts : Byte
  tare : BitVec 32
  gross : BitVec 32
  tolerance : BitVec 16
  learning : Byte
  deriving DecidableEq, Repr

/-- SETUP stream (R204 code 13). -/
structure StreamItem where
  stream : Byte
  capacity : BitVec 32
  state : Byte
  level1 : BitVec 32
  level2 : BitVec 32
  level3 : BitVec 32
  level4 : BitVec 32
  deriving DecidableEq, Repr

/-- SETUP admission (R204 code 14). -/
structure AdmissionItem where
  timeout : BitVec 16
  cap : BitVec 32
  deriving DecidableEq, Repr

/-- SETUP printer (R204 code 15). -/
structure PrinterItem where
  address : Byte
  printFirst : Byte
  deriving DecidableEq, Repr

/-- SETUP link (R204 code 16). -/
structure LinkItem where
  replyLimit : BitVec 16
  timeout : Byte
  deriving DecidableEq, Repr

/-- VEHICLE WRITE (R204). -/
structure VehicleItem where
  token : Token
  account : Byte
  cls : Byte
  kind : Byte
  stream : Byte
  gross : BitVec 32
  mask : Byte
  barred : Byte
  tareChoice : Byte
  tare : BitVec 32
  deriving DecidableEq, Repr

/-- ACCOUNT WRITE (R204). -/
structure AccountItem where
  account : Byte
  state : Byte
  allowance : BitVec 32
  limitKind : Byte
  approval : Byte
  stream : Byte
  deriving DecidableEq, Repr

/-- IDENT (R204). -/
structure IdentItem where
  token : Token
  stream : Byte
  kind : Byte
  deriving DecidableEq, Repr

/-- One pair of a TRIM (R204): cell and trim. -/
structure TrimPair where
  cell : Byte
  trim : BitVec 32
  deriving DecidableEq, Repr

/-- CAL RANGE (R204). -/
structure RangeItem where
  max : BitVec 32
  d : Byte
  deriving DecidableEq, Repr

/-- TICKETS REPRINT (R204). -/
structure ReprintItem where
  ticket : BitVec 32
  lane : Byte
  deriving DecidableEq, Repr

/-- STOCK (R204). -/
structure StockItem where
  stream : Byte
  stock : BitVec 32
  deriving DecidableEq, Repr

/-- READ of the vehicle table (R205). -/
structure VehicleStart where
  token : Token
  single : Byte
  deriving DecidableEq, Repr

/-- READ of the visit table (R205). -/
structure VisitStart where
  number : BitVec 16
  single : Byte
  deriving DecidableEq, Repr

/-- The commands: one constructor for each row of spec/opcode_table.json, in the table's order. -/
inductive Instr where
  /-- FRAME_START (R1). -/
  | frameStart
  /-- DECK_SAMPLE (R8): the end of a slot, numbered from 0, with the raw cell counts and the reference count. -/
  | deckSample (slot : Fin 16) (cells : List Int) (ref : Int)
  /-- ZERO_CAPTURE_COMPLETE (R59): the slot's sample is the sixty-fourth its deck's zero capture counts. -/
  | zeroCaptureComplete (slot : Fin 16) (cells : List Int) (ref : Int)
  /-- SPAN_CAPTURE_COMPLETE (R61): the slot's sample is the sixty-fourth its deck's span capture counts. -/
  | spanCaptureComplete (slot : Fin 16) (cells : List Int) (ref : Int)
  /-- SITE_TIME_ADVANCE (R199). -/
  | siteTimeAdvance
  /-- LOOP_STUCK (R74). -/
  | loopStuck (n : Lane) (side : LoopSide)
  /-- APPROVAL_TIMEOUT (R150) of the visit numbered. -/
  | approvalTimeout (visit : Nat)
  /-- PASS_TIMEOUT (R111). -/
  | passTimeout (n : Lane)
  /-- MINUTE_SWEEP (R100, R130). -/
  | minuteSweep
  /-- LINK_LOST (R196). -/
  | linkLost
  /-- LOOP_MEASUREMENT (R69): a measurement ends with this period count. -/
  | loopMeasurement (n : Lane) (side : LoopSide) (p : Nat)
  /-- LEARNING_END (R71). -/
  | learningEnd (n : Lane) (side : LoopSide)
  /-- LIMIT_SWITCH_CHANGE (R80): a switch takes this level. -/
  | limitSwitchChange (n : Lane) (side : SwitchSide) (active : Bool)
  /-- COMPARATOR_TRIP (R83). -/
  | comparatorTrip (n : Lane)
  /-- COMPARATOR_BLANKING_END (R83). -/
  | comparatorBlankingEnd (n : Lane)
  /-- BARRIER_RAMP_STEP (R78). -/
  | barrierRampStep (n : Lane)
  /-- TRAVEL_TIMEOUT (R81). -/
  | travelTimeout (n : Lane)
  /-- REVERSING_PAUSE_END (R79). -/
  | reversingPauseEnd (n : Lane)
  /-- TOKEN_FRAME (R92): the bytes a reader sends, at most nine at a time. -/
  | tokenFrame (n : Lane) (side : ReaderSide) (bytes : List Byte)
  /-- TOKEN_FRAME_GAP (R92). -/
  | tokenFrameGap (n : Lane) (side : ReaderSide)
  /-- ADMISSION_PROCEDURE (R142) called by a lane. -/
  | admissionProcedure (n : Lane)
  /-- EXIT_PROCEDURE (R154) called by a lane. -/
  | exitProcedure (n : Lane)
  /-- CLOSE (R159) of the visit a lane handles. -/
  | close (n : Lane)
  /-- PRINT_LINE_TRANSFER (R177): the next write transfer, acknowledged throughout or not. -/
  | printLineTransfer (acked : Bool)
  /-- PRINTER_STATUS_READ (R179). -/
  | printerStatusRead (r : StatusRead)
  /-- PRINT_TIMEOUT (R179). -/
  | printTimeout
  /-- TRANSMISSION_END (R185): an idle gap; `cut` is present where it falls inside a record, with what that record's
  header adds. -/
  | transmissionEnd (cut : Option HeaderMarks)
  /-- REPLY_COMPLETE (R193). -/
  | replyComplete
  /-- HEADER_BAD (R186, R188). -/
  | headerBad (f : HeaderFault)
  /-- RECORD_NOT_EXECUTED (R190, R202, R204). -/
  | recordNotExecuted (r : NotExecuted)
  /-- TURN (R193). -/
  | turn (h : RecHead)
  /-- SITE OPEN (R117). -/
  | siteOpen (h : RecHead)
  /-- SITE CLOSE (R117). -/
  | siteClose (h : RecHead)
  /-- LANE OPEN (R116). -/
  | laneOpen (h : RecHead)
  /-- LANE CLOSE (R116). -/
  | laneClose (h : RecHead)
  /-- LANE CLEAR (R113). -/
  | laneClear (h : RecHead)
  /-- BARRIER RAISE (R114). -/
  | barrierRaise (h : RecHead)
  /-- BARRIER LOWER (R114). -/
  | barrierLower (h : RecHead)
  /-- BARRIER RESET (R85). -/
  | barrierReset (h : RecHead)
  /-- APPROVE (R149, R150, R157). -/
  | approve (h : RecHead) (visit : BitVec 16)
  /-- DECLINE (R149, R150). -/
  | decline (h : RecHead) (visit : BitVec 16)
  /-- RETURN (R149, R155). -/
  | returnVisit (h : RecHead) (visit : BitVec 16)
  /-- ZERO (R43). -/
  | zero (h : RecHead)
  /-- DAY (R163). -/
  | day (h : RecHead)
  /-- RESET LINK (R212). -/
  | resetLink (h : RecHead)
  /-- RESET LANES (R212). -/
  | resetLanes (h : RecHead)
  /-- RESET ALL (R212). -/
  | resetAll (h : RecHead)
  /-- TIME (R199). -/
  | time (h : RecHead) (b : Body SiteTime)
  /-- VEHICLE WRITE (R124, R125). -/
  | vehicleWrite (h : RecHead) (b : Body VehicleItem)
  /-- VEHICLE DELETE (R126). -/
  | vehicleDelete (h : RecHead) (b : Body Token)
  /-- ACCOUNT WRITE (R133). -/
  | accountWrite (h : RecHead) (b : Body AccountItem)
  /-- ACCOUNT PERIOD RESET (R135). -/
  | accountPeriodReset (h : RecHead) (b : Body (BitVec 16))
  /-- IDENT (R106). -/
  | ident (h : RecHead) (b : Body IdentItem)
  /-- CAL ZERO CAPTURE (R58). -/
  | zeroCapture (h : RecHead) (b : Body Unit)
  /-- CAL SPAN CAPTURE (R60). -/
  | spanCapture (h : RecHead) (b : Body (BitVec 32))
  /-- CAL TRIM (R62). -/
  | trim (h : RecHead) (b : Body (List TrimPair))
  /-- CAL RANGE (R63). -/
  | range (h : RecHead) (b : Body RangeItem)
  /-- CAL ABORT (R64). -/
  | abort (h : RecHead)
  /-- TICKETS RELEASE (R171). -/
  | ticketsRelease (h : RecHead) (b : Body (BitVec 32))
  /-- TICKETS REPRINT (R175). -/
  | ticketsReprint (h : RecHead) (b : Body ReprintItem)
  /-- STOCK (R162). -/
  | stock (h : RecHead) (b : Body StockItem)
  /-- SETUP slot plan (R3). -/
  | setupSlotPlan (h : RecHead) (b : Body (Vector Byte 16))
  /-- SETUP deck cells (R5). -/
  | setupDeckCells (h : RecHead) (b : Body Byte)
  /-- SETUP deck filter (R25). -/
  | setupDeckFilter (h : RecHead) (b : Body Byte)
  /-- SETUP deck settling (R35). -/
  | setupDeckSettling (h : RecHead) (b : Body SettlingItem)
  /-- SETUP occupancy level (R44). -/
  | setupOccupancyLevel (h : RecHead) (b : Body (BitVec 16))
  /-- SETUP part age (R50). -/
  | setupPartAge (h : RecHead) (b : Body (BitVec 16))
  /-- SETUP loop (R75). -/
  | setupLoop (h : RecHead) (b : Body LoopItem)
  /-- SETUP barrier (R86). -/
  | setupBarrier (h : RecHead) (b : Body BarrierItem)
  /-- SETUP lane policy (R94). -/
  | setupLanePolicy (h : RecHead) (b : Body PolicyItem)
  /-- SETUP waiting list (R97). -/
  | setupWaitingList (h : RecHead) (b : Body ListItem)
  /-- SETUP vehicle table (R123). -/
  | setupVehicleTable (h : RecHead) (b : Body VehicleTableItem)
  /-- SETUP class (R131). -/
  | setupClass (h : RecHead) (b : Body ClassItem)
  /-- SETUP stream (R160). -/
  | setupStream (h : RecHead) (b : Body StreamItem)
  /-- SETUP admission (R164). -/
  | setupAdmission (h : RecHead) (b : Body AdmissionItem)
  /-- SETUP printer (R173). -/
  | setupPrinter (h : RecHead) (b : Body PrinterItem)
  /-- SETUP link (R195). -/
  | setupLink (h : RecHead) (b : Body LinkItem)
  /-- SETUP supply (R207), with the supply in millivolts as it stands when the record is executed. -/
  | setupSupply (h : RecHead) (b : Body Byte) (supplyMv : Nat)
  /-- READ acquisition state (R15). -/
  | readAcquisitionState (h : RecHead) (b : Body Unit)
  /-- READ deck readings (R33). -/
  | readDeckReadings (h : RecHead) (b : Body Unit)
  /-- READ capture state (R53). -/
  | readCaptureState (h : RecHead) (b : Body Unit)
  /-- READ calibration state (R66). -/
  | readCalibrationState (h : RecHead) (b : Body Unit)
  /-- READ lane devices (R89). -/
  | readLaneDevices (h : RecHead) (b : Body Unit)
  /-- READ lane state (R118). -/
  | readLaneState (h : RecHead) (b : Body Unit)
  /-- READ waiting lists (R118), from an entry index. -/
  | readWaitingLists (h : RecHead) (b : Body Byte)
  /-- READ vehicle table (R137). -/
  | readVehicleTable (h : RecHead) (b : Body VehicleStart)
  /-- READ class table (R138). -/
  | readClassTable (h : RecHead) (b : Body Unit)
  /-- READ account table (R138), from an account number. -/
  | readAccountTable (h : RecHead) (b : Body Byte)
  /-- READ visit table (R165). -/
  | readVisitTable (h : RecHead) (b : Body VisitStart)
  /-- READ streams (R166). -/
  | readStreams (h : RecHead) (b : Body Unit)
  /-- READ journal (R172), from a ticket number. -/
  | readJournal (h : RecHead) (b : Body (BitVec 32))
  /-- READ printers (R182). -/
  | readPrinters (h : RecHead) (b : Body Unit)
  /-- READ events (R198). -/
  | readEvents (h : RecHead) (b : Body Unit)
  /-- READ link (R200). -/
  | readLink (h : RecHead) (b : Body Unit)
  /-- READ supply and retained memory (R213). -/
  | readSupply (h : RecHead) (b : Body Unit)
  /-- CAL_ENABLE_RISE (R55). -/
  | calEnableRise
  /-- CAL_ENABLE_FALL (R64). -/
  | calEnableFall
  /-- SUPPLY_WARNING_ENTER (R207, R208): the supply, in millivolts, has fallen to this. -/
  | supplyWarningEnter (supplyMv : Nat)
  /-- SUPPLY_WARNING_END (R207, R208): the supply, in millivolts, has risen to this. -/
  | supplyWarningEnd (supplyMv : Nat)
  /-- BROWN_OUT_RESET (R207): the supply, in millivolts, has fallen to this; what the update copy then held. -/
  | brownOutReset (supplyMv : Nat) (caught : Caught)
  /-- RESET_LINE (R210): the reset line holds the part; what the update copy then held. -/
  | resetLine (caught : Caught)
  /-- START_UP (R210): the part leaves reset and finds this. -/
  | startUp (env : StartEnv)
  /-- COMPARATOR_CLEAR (R83). -/
  | comparatorClear (n : Lane)
  /-- IDLE_GAP_AT_RELEASE (R185). -/
  | idleGapAtRelease
  deriving DecidableEq, Repr

end Sys2Proof
end

