-- ==== Sys2Proof/Decode.lean ====
section
/-! DEFINITION. The commands that a word spells by the bits of the table of operations and events. The table gives no
row any bits, so no word spells a command; the bytes of the office link are read in `Sys2Proof.Machine.Wire`. -/

namespace Sys2Proof

/-- The command whose bits are the word's: the table gives bits to no row. -/
def decodeTableWord (_nbits _w : Nat) : Option Instr := none

end Sys2Proof
end

