-- ==== Sys2Proof/Machine/Rounding.lean ====
section
/-! DEFINITION. The roundings of the manual (00_scope.md, Conventions). -/

namespace Sys2Proof.Machine

/-- The quotient rounded to the nearest integer, halves away from zero (R18). -/
def roundDiv (a : Int) (b : Nat) : Int :=
  if 0 ≤ a then (2 * a + b) / (2 * b) else -((2 * (-a) + b) / (2 * b))

/-- The quotient rounded up (R145). -/
def ceilDiv (a b : Nat) : Nat := (a + (b - 1)) / b

/-- A value held within two limits. -/
def clampInt (lo hi a : Int) : Int := if a < lo then lo else if hi < a then hi else a

/-- The seconds from one site time to another; a negative difference counts as 0 (R129). -/
def elapsed (since now : SiteTime) : Nat := now.toNat - since.toNat

end Sys2Proof.Machine
end

