-- ==== Sys2Proof/Config.lean ====
section
/-! DEFINITION. What every Y440 fixes: the sizes of its tables and the fixed limits of the manual. -/

namespace Sys2Proof.Config

/-- Entries of the vehicle table (R120). -/
def vehicleMax : Nat := 512
/-- Open visits (R140). -/
def visitMax : Nat := 64
/-- Tickets of the journal (R170). -/
def journalMax : Nat := 128
/-- Entries of the waiting-list pool (R96). -/
def poolMax : Nat := 32
/-- Events of the event queue (R197). -/
def eventMax : Nat := 64
/-- Jobs of the print queue, and copy jobs among them (R174). -/
def printMax : Nat := 8
def copyMax : Nat := 4
/-- Values of W a filter history holds (R24). -/
def historyMax : Nat := 16
/-- Samples a capture counts (R55). -/
def captureSamples : Nat := 64
/-- The stability limit of a capture, in counts (R58, R60). -/
def stability : Nat := 2000
/-- Bytes of the reply buffer (R194). -/
def replyBuffer : Nat := 4096
/-- The greatest consumed amount, stock and accepted tonnage, kg (R134, R159). -/
def tonnageMax : Nat := 4000000000
/-- The greatest ticket number (R169). -/
def ticketMax : Nat := 999999
/-- The greatest visit number (R141). -/
def visitNumberMax : Nat := 65535
/-- The greatest calibration counter (R55). -/
def counterMax : Nat := 65535
/-- The end values of the converter (R6). -/
def rawMin : Int := -2097152
def rawMax : Int := 2097151
/-- The limit of a span weight W, in fine units (R22). -/
def weightMax : Int := 2000000000
/-- Reset entry and reset release of the supply, in millivolts (R207). -/
def resetEntryMv : Nat := 16000
def resetReleaseMv : Nat := 17000
/-- The warning release stands this far above the warning level, in millivolts (R207). -/
def warningReleaseMv : Nat := 500

/-- The 32-bit check formed over the contents of a section, or over those of the update copy (R209). The manual gives no
formula for it, so it is a free function of the contents (log 7). -/
opaque sectionCheck {α : Type} (contents : α) : BitVec 32

end Sys2Proof.Config
end

