-- ==== Sys2Proof/Machine/State.lean ====
section
/-! DEFINITION. The state of the Y440 as plain data: the five retained sections (R209), the volatile state of every
block of the block diagram, and the queue of commands that wait. Reset values stand in `State.reset`. -/

namespace Sys2Proof.Machine

/-! ### Codes (R206 and the owning rules) -/

/-- Result codes, from 0 in this order (R206). -/
inductive ResultCode where
  | ok | wrongState | badArgument | wrongChannel | notFound | inUse | full | limit | tooLate | calLocked | busy
  | unstable | spanTooSmall | counterFull | noReplySpace
  deriving DecidableEq, Repr

/-- Refusal reasons, from 1 in this order (R206). -/
inductive Reason where
  | siteClosed | laneClosed | wrongDirection | unknownVehicle | tableFull | learnLimit | barred | laneNotPermitted
  | visitOpen | accountStopped | noStream | streamClosed | siteFull | streamCapacity | permitCap | allowance
  | linkLost | noVisit | wrongState | overweight | declined | approvalTimeout | passTimeout
  deriving DecidableEq, Repr

/-- Event kinds, from 1 in this order (R206). -/
inductive EventKind where
  | started | vehicleAdmitted | vehicleRefused | held | visitClosed | precheckFail | queueSkipped | queueExpired
  | queueFull | partDiscarded | weighingDiscarded | passTimeout | unexpectedPass | manualPass | barrierObstructed
  | barrierFault | loopFault | loopStuck | deckInvalid | deckValid | zeroLimit | tareLearned | tareExpired
  | entryExpired | streamLevel | overweightOut | journalFull | printDone | printFailed | linkLost | linkRestored
  | outOfHours | powerWarning | calDone | calAborted | eventsLost
  deriving DecidableEq, Repr

/-- Vehicle kinds (R120). -/
inductive Kind where
  | delivery | collection
  deriving DecidableEq, Repr

/-- The direction a token is judged by (R95). -/
inductive Direction where
  | entry | exit
  deriving DecidableEq, Repr

/-- A lane's direction mode (R94). -/
inductive DirMode where
  | inward | outward | both
  deriving DecidableEq, Repr

/-- OPEN or CLOSED: the site mode (R117) and a stream's state (R160). -/
inductive OpenState where
  | opened | closed
  deriving DecidableEq, Repr

/-- An account's state (R132). -/
inductive AccountState where
  | active | onStop | closed
  deriving DecidableEq, Repr

/-- An account's limit kind (R132). -/
inductive LimitKind where
  | hard | soft
  deriving DecidableEq, Repr

/-- LOADED or LEARNED (R120). -/
inductive TareOrigin where
  | loaded | learned
  deriving DecidableEq, Repr

/-- LOADED or PROVISIONAL (R120). -/
inductive EntryOrigin where
  | loaded | provisional
  deriving DecidableEq, Repr

/-- Visit states (R140). -/
inductive VisitState where
  | heldIn | entering | onSite | heldOut | overweight
  deriving DecidableEq, Repr

/-- Hold reasons of a lane (R101). -/
inductive HoldReason where
  | approval | journal | print | overweight | barrier
  deriving DecidableEq, Repr

/-- Lane states (R101); a held lane carries its hold reason. -/
inductive LaneState where
  | closed | idle | occupied | weighing | held (r : HoldReason) | passing | clearing | refused | manual | suspended
  deriving DecidableEq, Repr

/-- Range statuses (R28). -/
inductive RangeStatus where
  | over | under | normal
  deriving DecidableEq, Repr

/-- Settling states (R35). -/
inductive SettleState where
  | unsettled | tentative | settled | locked
  deriving DecidableEq, Repr

/-- A deck's occupancy (R44). -/
inductive Occupancy where
  | occupied | empty | neither
  deriving DecidableEq, Repr

/-- Calibration subcommands that finish on a deck (R55). -/
inductive CalSub where
  | zeroCapture | trim | spanCapture | range
  deriving DecidableEq, Repr

/-- The causes that end an operation early (R64). -/
inductive AbortCause where
  | enable | invalid | warning | command | unstable | spanTooSmall | badArgument
  deriving DecidableEq, Repr

/-- The outcome of a subcommand (R55). -/
inductive CalOutcome where
  | done
  | aborted (c : AbortCause)
  deriving DecidableEq, Repr

/-- Conditions of a loop detector (R68). -/
inductive LoopCondition where
  | start | learning | free | occupied | faulted
  deriving DecidableEq, Repr

/-- The value a detector reports (R68). -/
inductive LoopReport where
  | free | occupied | faulted
  deriving DecidableEq, Repr

/-- The detail of LOOP_FAULT (R70). -/
inductive LoopFaultKind where
  | short | opened | recovered
  deriving DecidableEq, Repr

/-- Fault reasons of a barrier (R76). -/
inductive BarrierFault where
  | travel | switch | stall | obstruction
  deriving DecidableEq, Repr

/-- Barrier states (R76); a fault carries its reason. -/
inductive BarrierState where
  | down | raising | up | lowering | reversing | unknown | fault (r : BarrierFault)
  deriving DecidableEq, Repr

/-- The position a barrier is asked for (R76), and the direction of its drive. -/
inductive Toward where
  | down | up
  deriving DecidableEq, Repr

/-- How the vehicle was identified (R101). -/
inductive Source where
  | deckReader | ident
  deriving DecidableEq, Repr

/-- Print states of a ticket (R168). -/
inductive PrintState where
  | none | queued | printed | failed
  deriving DecidableEq, Repr

/-- Failure reasons of a print job (R168). -/
inductive PrintFailure where
  | paperOut | headFault | noAnswer | timeout | laneBusy | restart
  deriving DecidableEq, Repr

/-- Supply states (R207). -/
inductive SupplyState where
  | normal | warning | reset
  deriving DecidableEq, Repr

/-- The cause of a start-up (R206, R210). -/
inductive StartCause where
  | power | line | record
  deriving DecidableEq, Repr

/-- How the update copy was found at a start-up (R213). -/
inductive CopyFound where
  | empty | applied | discarded
  deriving DecidableEq, Repr

/-- The side of the zero limit reached (R42). -/
inductive LimitSide where
  | upper | lower
  deriving DecidableEq, Repr

/-- A deck's reason set, from bit 0 (R206). -/
structure ReasonSet where
  uncalibrated : Bool
  noSlots : Bool
  cellSaturated : Bool
  excitation : Bool
  deriving DecidableEq, Repr

/-! ### Events (R197) -/

/-- The subject of an event (R206). -/
inductive Subject where
  | none
  | visit (number : Nat)
  | ticket (number : Nat)
  | token (t : Token)
  | stream (s : Fin 8)
  deriving DecidableEq, Repr

/-- The detail of an event, as its posting rule names it (R206). -/
inductive Detail where
  | none
  | started (cause : StartCause) (failed : SectionSet) (unconfirmed : Nat)
  | blocks (b : Nat)
  | reason (r : Reason)
  | hold (r : HoldReason)
  | ticket (number : Nat)
  | parts (count : Nat)
  | token (t : Token)
  | laneState (st : LaneState)
  | obstructions (count : Nat)
  | barrierFault (r : BarrierFault)
  | loopFault (side : LoopSide) (k : LoopFaultKind)
  | stuck (side : LoopSide) (limit : Nat)
  | loop (side : LoopSide)
  | reasons (r : ReasonSet)
  | limitSide (s : LimitSide)
  | weight (kg : Nat)
  | days (n : Nat)
  | level (kg : Nat) (upward : Bool)
  | copyMark (copy : Bool)
  | jobFailed (copy : Bool) (r : PrintFailure)
  | notQueued (r : PrintFailure)
  | warning (entered : Bool)
  | calDone (sub : CalSub) (counter : Nat)
  | calAborted (sub : CalSub) (cause : AbortCause)
  | lost (dropped : Nat)
  deriving DecidableEq, Repr

/-- An event (R197). -/
structure Event where
  kind : EventKind
  lane : Option Lane
  time : SiteTime
  subject : Subject
  detail : Detail
  deriving DecidableEq, Repr

/-- The event queue, oldest first (R197). -/
structure EventQueue where
  queue : List Event
  overflow : Bool
  dropped : Nat
  deriving DecidableEq, Repr

/-! ### Weighings, visits and tickets -/

/-- One captured part (R49). -/
structure Part where
  value : Nat
  deck : Lane
  time : SiteTime
  counter : Nat
  unset : Bool
  deriving DecidableEq, Repr

/-- A completed weighing (R49). -/
structure Weighing where
  value : Nat
  lane : Lane
  time : SiteTime
  parts : List Part
  unset : Bool
  deriving DecidableEq, Repr

/-- The flags of a visit and of its ticket, in the order of R168. -/
structure VisitFlags where
  overweightIn : Bool
  tareDeviation : Bool
  allowanceExceeded : Bool
  negativeNet : Bool
  stockUnderrun : Bool
  timeUnset : Bool
  approvedIn : Bool
  deriving DecidableEq, Repr

/-- An open visit (R140). `approvalDue` is the model's own: the last advance found the timer above the timeout, and
APPROVAL_TIMEOUT has not been taken. -/
structure Visit where
  number : Nat
  token : Token
  account : Fin 256
  cls : Fin 16
  stream : Fin 8
  kind : Kind
  state : VisitState
  entryLane : Lane
  exitLane : Option Lane
  entry : Weighing
  exit : Option Weighing
  estimate : Nat
  blocks : Nat
  net : Option Nat
  flags : VisitFlags
  timer : Nat
  approvalDue : Bool
  deriving DecidableEq, Repr

/-- A ticket (R168). -/
structure Ticket where
  number : Nat
  visit : Nat
  issued : SiteTime
  kind : Kind
  token : Token
  account : Fin 256
  cls : Fin 16
  stream : Fin 8
  entry : Weighing
  exit : Weighing
  net : Nat
  flags : VisitFlags
  print : PrintState
  failure : Option PrintFailure
  copies : Nat
  deriving DecidableEq, Repr

/-! ### Retained memory (R209) -/

/-- The calibration section's part for one deck (R17, R55). -/
structure DeckCal where
  zeros : Vector Int 8
  trims : Vector Nat 8
  eCal : Nat
  k : Nat
  max : Nat
  d : Nat
  z : Int
  zeroDone : Bool
  spanDone : Bool
  counter : Nat
  deriving DecidableEq, Repr

/-- Settings of one loop (R68). -/
structure LoopSettings where
  onThr : Nat
  offThr : Nat
  limit : Nat
  deriving DecidableEq, Repr

/-- Settings of one barrier (R76). -/
structure BarrierSettings where
  start : Nat
  run : Nat
  step : Nat
  travel : Nat
  deriving DecidableEq, Repr

/-- A deck's settings (R5, R25, R35). -/
structure DeckSettings where
  cells : Nat
  depth : Nat
  band : Nat
  tTent : Nat
  tSettle : Nat
  tLock : Nat
  tDrop : Nat
  deriving DecidableEq, Repr

/-- A lane's policy settings (R94). -/
structure Policy where
  direction : DirMode
  admitUnknown : Bool
  account : Fin 256
  cls : Fin 16
  stream : Option (Fin 8)
  passTimeout : Nat
  deriving DecidableEq, Repr

/-- A lane's settings (R44, R50, R68, R76, R94, R96, R101, R173). A printer address n is held as n - 1. -/
structure LaneSettings where
  occupancy : Nat
  partAge : Nat
  entryLoop : LoopSettings
  clearLoop : LoopSettings
  barrier : BarrierSettings
  policy : Policy
  closed : Bool
  depth : Nat
  printer : Option (Fin 8)
  printFirst : Bool
  deriving DecidableEq, Repr

/-- One vehicle class (R131). -/
structure ClassEntry where
  parts : Nat
  tare : Nat
  gross : Nat
  tolerance : Nat
  learning : Bool
  deriving DecidableEq, Repr

/-- The settings of one stream (R160). Stream n is held under n - 1. -/
structure StreamSettings where
  capacity : Nat
  state : OpenState
  levels : Quad (Option Nat)
  deriving DecidableEq, Repr

/-- The settings section (R209). -/
structure Settings where
  slotPlan : Vector (Option Lane) 16
  decks : Quad DeckSettings
  lanes : Quad LaneSettings
  siteMode : OpenState
  listAge : Nat
  learnLimit : Nat
  provAge : Nat
  tareAge : Nat
  classes : Vector ClassEntry 16
  streams : Vector StreamSettings 8
  approvalTimeout : Nat
  permitCap : Option Nat
  replyLimit : Nat
  linkTimeout : Nat
  warnLevel : Nat
  deriving DecidableEq, Repr

/-- A stored tare with its origin and set time (R120). -/
structure Tare where
  value : Nat
  origin : TareOrigin
  setTime : SiteTime
  deriving DecidableEq, Repr

/-- A lane mask (R120): the lanes a vehicle may use. -/
abbrev LaneMask := Quad Bool

/-- A vehicle entry (R120). -/
structure Vehicle where
  token : Token
  account : Fin 256
  cls : Fin 16
  kind : Kind
  stream : Option (Fin 8)
  gross : Option Nat
  tare : Option Tare
  mask : Option LaneMask
  barred : Bool
  origin : EntryOrigin
  lastUse : SiteTime
  deriving DecidableEq, Repr

/-- An account (R132). -/
structure Account where
  state : AccountState
  allowance : Option Nat
  limitKind : LimitKind
  consumed : Nat
  pending : Nat
  approval : Bool
  stream : Option (Fin 8)
  deriving DecidableEq, Repr

/-- The identities section: the vehicle table in token order with its PROVISIONAL count, and the accounts (R209). -/
structure Identities where
  vehicles : List Vehicle
  provisional : Nat
  accounts : Vector Account 256
  deriving DecidableEq, Repr

/-- A stream's stock and reserved blocks (R160). -/
structure StreamTotals where
  stock : Nat
  reserved : Nat
  deriving DecidableEq, Repr

/-- The traffic section; the open visits stand in number order (R209). -/
structure Traffic where
  visits : List Visit
  counter : Nat
  streams : Vector StreamTotals 8
  accepted : Nat
  lastTime : SiteTime
  deriving DecidableEq, Repr

/-- The tickets section: the journal, oldest first, and the ticket counter (R209). -/
structure TicketSection where
  journal : List Ticket
  counter : Nat
  deriving DecidableEq, Repr

/-- The five sections of retained memory (R209). -/
structure Retained where
  cal : Quad DeckCal
  settings : Settings
  ident : Identities
  traffic : Traffic
  tickets : TicketSection
  deriving DecidableEq, Repr

/-- The checks of the five sections, as written with their contents (R209). -/
structure SectionChecks where
  calibration : BitVec 32
  settings : BitVec 32
  identities : BitVec 32
  traffic : BitVec 32
  tickets : BitVec 32
  deriving DecidableEq, Repr

/-- The checks formed over the contents of the five sections (R209). -/
def Retained.checks (r : Retained) : SectionChecks where
  calibration := Config.sectionCheck r.cal
  settings := Config.sectionCheck r.settings
  identities := Config.sectionCheck r.ident
  traffic := Config.sectionCheck r.traffic
  tickets := Config.sectionCheck r.tickets

/-- The update copy (R209): empty, not yet marked complete, or complete with the new contents and a check of its own. -/
inductive UpdateCopy where
  | empty
  | incomplete
  | complete (contents : Retained) (check : BitVec 32)
  deriving DecidableEq, Repr

/-! ### Volatile state -/

/-- The acquisition sequencer (R1): the active plan and the position in the frame, slot 1 held as 0. -/
structure Acquisition where
  active : Vector (Option Lane) 16
  position : Nat
  deriving DecidableEq, Repr

/-- The last sample converted for a deck (R15). -/
structure LastSample where
  cells : List Int
  ref : Int
  time : SiteTime
  good : Bool
  deriving DecidableEq, Repr

/-- A deck's reading (R29), with the minimum weighing, in kilograms, that governs it (R30). -/
structure Reading where
  w : Int
  g : Int
  f : Int
  d : Int
  range : RangeStatus
  entries : Nat
  time : SiteTime
  minimum : Nat
  deriving DecidableEq, Repr

/-- The settling monitor (R35). -/
structure Settling where
  state : SettleState
  anchor : Option Int
  run : Nat
  out : Nat
  deriving DecidableEq, Repr

/-- An operation in flight (R55). -/
inductive CalOp where
  | zero (taken : Nat) (first : Option (List Int)) (sums : List Int) (refSum : Int)
  | span (load : Nat) (taken : Nat) (first : Option Int) (sum : Int)
  deriving DecidableEq, Repr

/-- The last outcome on a deck (R55). -/
structure LastOutcome where
  sub : CalSub
  outcome : CalOutcome
  time : SiteTime
  deriving DecidableEq, Repr

/-- The volatile state of a deck's weight engine (R9 to R15, R24, R29, R35, R42, R44, R55). The reason UNCALIBRATED
follows from the marks of the calibration section and is not stored again (R9). `heldLimit` is present from a RANGE to
the deck's next sample: the zero limit, in fine units, as last formed (R63). -/
structure Deck where
  noSlots : Bool
  saturated : Bool
  excitation : Bool
  good : Nat
  history : List Int
  reading : Option Reading
  settling : Settling
  zeroMarker : Bool
  heldLimit : Option Nat
  occupancy : Occupancy
  lastSample : Option LastSample
  op : Option CalOp
  lastOutcome : Option LastOutcome
  deriving DecidableEq, Repr

/-- A loop detector (R68). `learnTimer` is running in LEARNING; `stuckDue` is the model's own: the last advance found
the presence timer above the limit with the marker clear, and LOOP_STUCK has not been taken. -/
structure Loop where
  condition : LoopCondition
  baseline : Option Nat
  latest : Option Nat
  learnTimer : Option Nat
  recovery : Nat
  presence : Nat
  stuck : Bool
  stuckDue : Bool
  deriving DecidableEq, Repr

/-- The two detectors of a lane. -/
structure LoopPair where
  entry : Loop
  clear : Loop
  deriving DecidableEq, Repr

/-- A barrier driver with its inputs (R76, R80, R83). `motionMs` is absent while the motion time is stopped; `blanked`
is set through the first 200 ms of a motion; `ramp` holds the settings the present motion began with (R78). -/
structure Barrier where
  state : BarrierState
  target : Toward
  duty : Nat
  direction : Option Toward
  motionMs : Option Nat
  blanked : Bool
  obstructions : Nat
  ramp : BarrierSettings
  downSwitch : Bool
  upSwitch : Bool
  comparator : Bool
  deriving DecidableEq, Repr

/-- A reader port (R92, R93). -/
structure ReaderPort where
  gathered : List Byte
  last : Option Token
  lockout : Nat
  deriving DecidableEq, Repr

/-- The two reader ports of a lane. -/
structure ReaderPair where
  approach : ReaderPort
  deck : ReaderPort
  deriving DecidableEq, Repr

/-- A waiting-list entry (R96); an absent result is OK. -/
structure WaitEntry where
  token : Token
  joined : SiteTime
  age : Nat
  direction : Direction
  result : Option Reason
  deriving DecidableEq, Repr

/-- A lane's current identity (R101). -/
structure Identity where
  token : Token
  direction : Direction
  stream : Option (Fin 8)
  kind : Option Kind
  source : Source
  deriving DecidableEq, Repr

/-- A lane's capture state (R45). -/
structure Capture where
  required : Option Nat
  parts : List Part
  moved : Bool
  age : Option Nat
  deriving DecidableEq, Repr

/-- A lane sequencer (R101, R149, R181), with its capture state. `flashLit` is the red lamp of a REFUSED lane's deck
head (R88). `passLimit` is the entry pass timeout as it stood at the entry to PASSING (R94). `passDue`
is the model's own: the pass timeout has been reached and PASS_TIMEOUT has not been taken (log 4). -/
structure LaneSeq where
  state : LaneState
  identity : Option Identity
  visit : Option Nat
  heldWeighing : Option Weighing
  postponed : Bool
  passTimer : Option Nat
  passLimit : Nat
  passDue : Bool
  closePending : Bool
  cycle : Option Bool
  lastRefusal : Option Reason
  lateNumber : Option Nat
  heldTicket : Option Nat
  flashLit : Bool
  capture : Capture
  deriving DecidableEq, Repr

/-- Site time, the time-unset mark and the minute sweep (R199, R100). `sweepDue` is the model's own: a sixtieth
advance has come and MINUTE_SWEEP has not been taken. -/
structure Clock where
  siteTime : SiteTime
  unset : Bool
  sweep : Nat
  sweepDue : Bool
  deriving DecidableEq, Repr

/-- The link error set, from bit 0 (R206). -/
structure LinkErrors where
  headerCorrected : Bool
  headerBad : Bool
  checksum : Bool
  kindUnknown : Bool
  channelBad : Bool
  lengthBad : Bool
  cutShort : Bool
  deriving DecidableEq, Repr

/-- The empty link error set. -/
def LinkErrors.none : LinkErrors := ⟨false, false, false, false, false, false, false⟩

/-- A reply held in the reply buffer (R192): RESULT, DATA, ERRORS or END. -/
inductive Reply where
  | result (c : Chan) (code : ResultCode)
  | data (c : Chan) (payload : List Byte)
  | errors (set : LinkErrors)
  | finish (events : Nat)
  deriving DecidableEq, Repr

/-- The condition of the receiving side (R185): before the idle gap that follows a release, WAITING, RECEIVING,
DISCARDING, and the time in which the controller holds the line. -/
inductive PortCondition where
  | awaitIdle | waiting | receiving | discarding | sending
  deriving DecidableEq, Repr

/-- The office link port (R184 to R196). `turn` is set when the transmission gives the turn; `resetAll` waits for the
END of a RESET ALL (R212); `lostDue` is the model's own: the last advance found the silence count above the timeout,
and LINK_LOST has not been taken. -/
structure LinkPort where
  port : PortCondition
  turn : Bool
  resetAll : Bool
  errors : LinkErrors
  replies : List Reply
  live : Bool
  silence : Nat
  lostDue : Bool
  bitRate : Nat
  deriving DecidableEq, Repr

/-- The state of a print job (R174): QUEUED, SENDING with the transfers completed, PRINTING with the status reads
made. -/
inductive JobState where
  | queued
  | sending (transfers : Nat)
  | printing (reads : Nat)
  deriving DecidableEq, Repr

/-- A print job (R174). -/
structure PrintJob where
  ticket : Nat
  lane : Lane
  address : Fin 8
  copy : Bool
  state : JobState
  deriving DecidableEq, Repr

/-- A transfer as it stood on the printer bus (R177, R179, R206): its first byte, which holds the address and the
direction, and the bytes after it, sent to the printer in a write and given by it in a read. -/
structure BusTransfer where
  first : Byte
  data : List Byte
  deriving DecidableEq, Repr

/-- The printer bus controller (R174 to R182). `lastTransfer` is the model's own: the last transfer put on the bus, kept
so that the bus can be seen (log 25). -/
structure Printing where
  queue : List PrintJob
  lastStatus : Vector (Option (Byte × SiteTime)) 8
  lastTransfer : Option BusTransfer
  deriving DecidableEq, Repr

/-- The supply monitor and what the last start-up found (R207, R213), and CAL ENABLE (R55).
`held` is present while the part is held in reset, with the cause the start-up will name. -/
structure Power where
  supply : SupplyState
  held : Option StartCause
  cause : StartCause
  failed : SectionSet
  copyFound : CopyFound
  unconfirmed : Nat
  calEnable : Bool
  deriving DecidableEq, Repr

/-- The whole machine, with the commands that wait, oldest first. `checks` and `copy` are the checks of the sections and
the update copy beside them (R209). `journalOrder` holds the lanes in the order in which they entered HELD with reason
JOURNAL (R158). -/
structure State where
  ret : Retained
  checks : SectionChecks
  copy : UpdateCopy
  acq : Acquisition
  decks : Quad Deck
  loops : Quad LoopPair
  barriers : Quad Barrier
  readers : Quad ReaderPair
  lists : Quad (List WaitEntry)
  lanes : Quad LaneSeq
  journalOrder : List Lane
  clock : Clock
  link : LinkPort
  events : EventQueue
  printing : Printing
  power : Power
  pending : List Instr
  deriving DecidableEq, Repr

/-- What stops the machine with a fault: nothing. The spec gives every command an effect or none, so no constructor
stands here and no step answers a fault (safe: nothing is left to a stop). -/
inductive Fault where
  deriving DecidableEq, Repr

/-- Why a command is refused. -/
inductive Refusal where
  /-- Raised by an arm of `exec` whose command has no meaning yet; safe, and no arm raises it now. -/
  | notModelled (mnemonic : String)
  deriving DecidableEq, Repr

/-! ### Factory contents (R210) -/

/-- A deck's calibration at factory contents (R17, R210). -/
def factoryCal : DeckCal where
  zeros := Vector.replicate 8 0
  trims := Vector.replicate 8 65536
  eCal := 1048576
  k := 65536
  max := 60000
  d := 20
  z := 0
  zeroDone := false
  spanDone := false
  counter := 0

/-- The factory slot plan (R16). -/
def factoryPlan : Vector (Option Lane) 16 :=
  #v[some .one, some .two, some .three, some .four, some .one, some .two, some .three, some .four,
     some .one, some .two, some .three, some .four, some .one, some .two, some .three, some .four]

/-- Factory loop settings (R68). -/
def factoryLoop : LoopSettings := ⟨400, 200, 600⟩

/-- Factory barrier settings (R76). -/
def factoryBarrier : BarrierSettings := ⟨80, 200, 10, 8⟩

/-- Factory deck settings (R5, R25, R35). -/
def factoryDeck : DeckSettings := ⟨4, 4, 100, 4, 8, 12, 3⟩

/-- Factory lane policy (R94). -/
def factoryPolicy : Policy := ⟨.both, false, 0, 0, none, 60⟩

/-- Factory lane settings, with the lane's own printer address (R44, R50, R96, R173) and the lane closed (R210). -/
def factoryLane (address : Fin 8) : LaneSettings where
  occupancy := 400
  partAge := 120
  entryLoop := factoryLoop
  clearLoop := factoryLoop
  barrier := factoryBarrier
  policy := factoryPolicy
  closed := true
  depth := 8
  printer := some address
  printFirst := true

/-- The factory settings section (R210). -/
def factorySettings : Settings where
  slotPlan := factoryPlan
  decks := Quad.fill factoryDeck
  lanes := ⟨factoryLane 0, factoryLane 1, factoryLane 2, factoryLane 3⟩
  siteMode := .opened
  listAge := 30
  learnLimit := 128
  provAge := 0
  tareAge := 0
  classes := Vector.replicate 16 ⟨1, 0, 44000, 200, true⟩
  streams := Vector.replicate 8 ⟨1000000, .opened, Quad.fill none⟩
  approvalTimeout := 120
  permitCap := none
  replyLimit := 256
  linkTimeout := 30
  warnLevel := 20

/-- A factory account; account 0 requires approval (R132). -/
def factoryAccount (approval : Bool) : Account := ⟨.active, none, .hard, 0, 0, approval, none⟩

/-- The factory identities section (R139, R210). -/
def factoryIdentities : Identities where
  vehicles := []
  provisional := 0
  accounts := (Vector.replicate 256 (factoryAccount false)).set 0 (factoryAccount true)

/-- The factory traffic section (R167, R210). -/
def factoryTraffic : Traffic where
  visits := []
  counter := 0
  streams := Vector.replicate 8 ⟨0, 0⟩
  accepted := 0
  lastTime := 0

/-- The factory tickets section (R183, R210). -/
def factoryTickets : TicketSection := ⟨[], 1⟩

/-- Retained memory with every section at factory contents. -/
def factoryRetained : Retained where
  cal := Quad.fill factoryCal
  settings := factorySettings
  ident := factoryIdentities
  traffic := factoryTraffic
  tickets := factoryTickets

/-! ### Volatile reset values -/

/-- A cleared settling monitor (R40, R54). -/
def clearedSettling : Settling := ⟨.unsettled, none, 0, 0⟩

/-- A deck's weight engine after a start-up, with its NO_SLOTS reason as decided (R16, R34, R54, R67). -/
def startDeck (noSlots : Bool) : Deck where
  noSlots := noSlots
  saturated := false
  excitation := false
  good := 0
  history := []
  reading := none
  settling := clearedSettling
  zeroMarker := false
  heldLimit := none
  occupancy := .neither
  lastSample := none
  op := none
  lastOutcome := none

/-- A loop detector in START (R90). -/
def startLoop : Loop := ⟨.start, none, none, none, 0, 0, false, false⟩

/-- A barrier driver after a start-up, in the state its switches give (R91). -/
def startBarrier (st : BarrierState) (ramp : BarrierSettings) (down up comp : Bool) : Barrier where
  state := st
  target := .down
  duty := 0
  direction := none
  motionMs := none
  blanked := false
  obstructions := 0
  ramp := ramp
  downSwitch := down
  upSwitch := up
  comparator := comp

/-- A reader port after a start-up (R119). -/
def startReader : ReaderPort := ⟨[], none, 10⟩

/-- An empty capture state (R54). -/
def emptyCapture : Capture := ⟨none, [], false, none⟩

/-- A lane sequencer restarted in the given state (R119, R167, R183). -/
def startLane (st : LaneState) : LaneSeq where
  state := st
  identity := none
  visit := none
  heldWeighing := none
  postponed := false
  passTimer := none
  passLimit := 60
  passDue := false
  closePending := false
  cycle := none
  lastRefusal := none
  lateNumber := none
  heldTicket := none
  flashLit := false
  capture := emptyCapture

/-- The link port after a start-up (R201). -/
def startLink (bitRate : Nat) : LinkPort where
  port := .awaitIdle
  turn := false
  resetAll := false
  errors := LinkErrors.none
  replies := []
  live := false
  silence := 0
  lostDue := false
  bitRate := bitRate

/-- The printer bus after a start-up (R183). -/
def startPrinting : Printing := ⟨[], Vector.replicate 8 none, none⟩

/-- Every section failed. -/
def SectionSet.all : SectionSet := ⟨true, true, true, true, true⟩

/-- No section failed. -/
def SectionSet.none : SectionSet := ⟨false, false, false, false, false⟩

/-- The machine after its first power-on, its start-up taken: retained memory fails every check and takes factory
contents, every lane is CLOSED, every deck holds UNCALIBRATED, the loops are in START, and STARTED stands first in the
event queue (R16, R34, R54, R67, R90, R91, R119, R139, R167, R183, R201, R210). DESIGN CHOICE: what retained memory holds
before its first use, each section taken as failing its check and the update copy as found EMPTY (log 1), and the levels
of the inputs (log 2). -/
def State.reset : State where
  ret := factoryRetained
  checks := factoryRetained.checks
  copy := .empty
  acq := ⟨factoryPlan, 0⟩
  decks := Quad.fill (startDeck false)
  loops := Quad.fill ⟨startLoop, startLoop⟩
  barriers := Quad.fill (startBarrier .down factoryBarrier true false false)
  readers := Quad.fill ⟨startReader, startReader⟩
  lists := Quad.fill []
  lanes := Quad.fill (startLane .closed)
  journalOrder := []
  clock := ⟨0, true, 0, false⟩
  link := startLink 19200
  events := ⟨[⟨.started, none, 0, .none, .started .power SectionSet.all 0⟩], false, 0⟩
  printing := startPrinting
  power := ⟨.normal, none, .power, SectionSet.all, .empty, 0, false⟩
  pending := []

end Sys2Proof.Machine
end

