-- ==== Sys2Proof/Machine/Ops.lean ====
section
/-! DEFINITION. The named operations over the state: one updater for each part of it, the posting of an event (R197),
and the lookups of the tables. -/

namespace Sys2Proof.Machine

/-! ### Retained updates (R209) -/

/-- The new contents are written into the update copy with a check of its own, and the copy is marked complete. -/
def State.writeCopy (s : State) (r : Retained) : State := { s with copy := .complete r (Config.sectionCheck r) }

/-- The contents of a complete copy are written into the sections, and their checks formed afresh. -/
def State.writeSections (s : State) : State :=
  match s.copy with
  | .complete r _ => { s with ret := r, checks := r.checks }
  | .empty => s
  | .incomplete => s

/-- The copy is marked empty. -/
def State.emptyCopy (s : State) : State := { s with copy := .empty }

/-- A retained update (R209): the copy, then the sections with their checks, then the copy marked empty. A section that
an update leaves as it is is written as it stands (log 8). -/
def State.retain (s : State) (r : Retained) : State := ((s.writeCopy r).writeSections).emptyCopy

/-! ### Updaters -/

def State.modDeck (s : State) (n : Lane) (f : Deck → Deck) : State := { s with decks := s.decks.upd n f }
def State.modLane (s : State) (n : Lane) (f : LaneSeq → LaneSeq) : State := { s with lanes := s.lanes.upd n f }
def State.modBarrier (s : State) (n : Lane) (f : Barrier → Barrier) : State :=
  { s with barriers := s.barriers.upd n f }
def State.modLoops (s : State) (n : Lane) (f : LoopPair → LoopPair) : State := { s with loops := s.loops.upd n f }
def State.modReaders (s : State) (n : Lane) (f : ReaderPair → ReaderPair) : State :=
  { s with readers := s.readers.upd n f }
def State.modList (s : State) (n : Lane) (f : List WaitEntry → List WaitEntry) : State :=
  { s with lists := s.lists.upd n f }
def State.modCal (s : State) (n : Lane) (f : DeckCal → DeckCal) : State :=
  s.retain { s.ret with cal := s.ret.cal.upd n f }
def State.modSettings (s : State) (f : Settings → Settings) : State :=
  s.retain { s.ret with settings := f s.ret.settings }
def State.modLaneSettings (s : State) (n : Lane) (f : LaneSettings → LaneSettings) : State :=
  s.modSettings fun t => { t with lanes := t.lanes.upd n f }
def State.modDeckSettings (s : State) (n : Lane) (f : DeckSettings → DeckSettings) : State :=
  s.modSettings fun t => { t with decks := t.decks.upd n f }
def State.modIdent (s : State) (f : Identities → Identities) : State :=
  s.retain { s.ret with ident := f s.ret.ident }
def State.modTraffic (s : State) (f : Traffic → Traffic) : State :=
  s.retain { s.ret with traffic := f s.ret.traffic }
def State.modTickets (s : State) (f : TicketSection → TicketSection) : State :=
  s.retain { s.ret with tickets := f s.ret.tickets }
def State.modLink (s : State) (f : LinkPort → LinkPort) : State := { s with link := f s.link }
def State.modClock (s : State) (f : Clock → Clock) : State := { s with clock := f s.clock }
def State.modPower (s : State) (f : Power → Power) : State := { s with power := f s.power }
def State.modPrinting (s : State) (f : Printing → Printing) : State := { s with printing := f s.printing }
def State.modAcq (s : State) (f : Acquisition → Acquisition) : State := { s with acq := f s.acq }

/-- Does one thing for each lane, lane 1 first. -/
def State.eachLane (s : State) (f : State → Lane → State) : State := f (f (f (f s .one) .two) .three) .four

/-! ### Views -/

def State.deck (s : State) (n : Lane) : Deck := s.decks.get n
def State.lane (s : State) (n : Lane) : LaneSeq := s.lanes.get n
def State.barrier (s : State) (n : Lane) : Barrier := s.barriers.get n
def State.cal (s : State) (n : Lane) : DeckCal := s.ret.cal.get n
def State.laneSettings (s : State) (n : Lane) : LaneSettings := s.ret.settings.lanes.get n
def State.deckSettings (s : State) (n : Lane) : DeckSettings := s.ret.settings.decks.get n
def State.list (s : State) (n : Lane) : List WaitEntry := s.lists.get n
def State.now (s : State) : SiteTime := s.clock.siteTime

/-- One loop of a lane. -/
def State.loop (s : State) (n : Lane) : LoopSide → Loop
  | .entry => (s.loops.get n).entry
  | .clear => (s.loops.get n).clear

/-- Changes one loop of a lane. -/
def State.modLoop (s : State) (n : Lane) (side : LoopSide) (f : Loop → Loop) : State :=
  s.modLoops n fun p =>
    match side with
    | .entry => { p with entry := f p.entry }
    | .clear => { p with clear := f p.clear }

/-- The settings of one loop (R68). -/
def State.loopSettings (s : State) (n : Lane) : LoopSide → LoopSettings
  | .entry => (s.laneSettings n).entryLoop
  | .clear => (s.laneSettings n).clearLoop

/-- The value a detector reports (R68). -/
def Loop.report (l : Loop) : LoopReport :=
  match l.condition with
  | .free => .free
  | .faulted => .faulted
  | .start => .occupied
  | .learning => .occupied
  | .occupied => .occupied

/-- A deck's reason set (R9 to R12). -/
def State.reasons (s : State) (n : Lane) : ReasonSet where
  uncalibrated := !((s.cal n).zeroDone && (s.cal n).spanDone)
  noSlots := (s.deck n).noSlots
  cellSaturated := (s.deck n).saturated
  excitation := (s.deck n).excitation

/-- An empty reason set. -/
def ReasonSet.isEmpty (r : ReasonSet) : Bool :=
  !r.uncalibrated && !r.noSlots && !r.cellSaturated && !r.excitation

/-- A reason set with no reason other than UNCALIBRATED. -/
def ReasonSet.onlyUncalibrated (r : ReasonSet) : Bool := !r.noSlots && !r.cellSaturated && !r.excitation

/-- How many reasons stand in the second set and not in the first. -/
def ReasonSet.joined (before after : ReasonSet) : Nat :=
  (if !before.uncalibrated && after.uncalibrated then 1 else 0)
    + (if !before.noSlots && after.noSlots then 1 else 0)
    + (if !before.cellSaturated && after.cellSaturated then 1 else 0)
    + (if !before.excitation && after.excitation then 1 else 0)

/-- A reason other than UNCALIBRATED has joined. -/
def ReasonSet.faultJoined (before after : ReasonSet) : Bool :=
  (!before.noSlots && after.noSlots) || (!before.cellSaturated && after.cellSaturated)
    || (!before.excitation && after.excitation)

/-- A deck is VALID exactly when its reason set is empty (chapter Deck acquisition). -/
def State.deckValid (s : State) (n : Lane) : Bool := (s.reasons n).isEmpty

/-- The supply is in WARNING. -/
def State.warning (s : State) : Bool := decide (s.power.supply = .warning)

/-- The site mode is CLOSED. -/
def State.siteClosed (s : State) : Bool := decide (s.ret.settings.siteMode = .closed)

/-- The part is out of reset. -/
def State.running (s : State) : Bool := s.power.held.isNone

/-- What a command of the yard does is done only while the part is out of reset (R207). -/
def State.whileRunning (s t : State) : State := if s.running then t else s

/-- A plan gives a deck a slot (R10). -/
def planGives (plan : Vector (Option Lane) 16) (n : Lane) : Bool := plan.toList.any fun e => e == some n

/-! ### Events (R197) -/

/-- Posts an event: appended to a queue of fewer than 64, and otherwise dropped and counted (R197). -/
def State.post (s : State) (kind : EventKind) (lane : Option Lane) (subject : Subject) (detail : Detail) : State :=
  { s with events :=
      if s.events.queue.length < Config.eventMax then
        { s.events with queue := s.events.queue ++ [⟨kind, lane, s.clock.siteTime, subject, detail⟩] }
      else { s.events with overflow := true, dropped := min (s.events.dropped + 1) 65535 } }

/-! ### Tables -/

/-- The visit of a number, where one is open. -/
def State.visitNumbered (s : State) (k : Nat) : Option Visit :=
  s.ret.traffic.visits.find? fun v => v.number == k

/-- The open visit that names a token, where one does (R95, R140). -/
def State.visitNaming (s : State) (t : Token) : Option Visit :=
  s.ret.traffic.visits.find? fun v => v.token == t

/-- The vehicle entry of a token, where the table has one (R120). -/
def State.vehicleOf (s : State) (t : Token) : Option Vehicle :=
  s.ret.ident.vehicles.find? fun v => v.token == t

/-- The table with an entry set at its token's place in token order (R120). -/
def putVehicle (v : Vehicle) : List Vehicle → List Vehicle
  | [] => [v]
  | u :: us =>
    if u.token = v.token then v :: us
    else if v.token.toNat < u.token.toNat then v :: u :: us
    else u :: putVehicle v us

/-- The table without a token's entry. -/
def dropVehicle (t : Token) (vs : List Vehicle) : List Vehicle := vs.filter fun v => v.token != t

/-- The visits with one more, at its number's place. -/
def insertVisit (v : Visit) : List Visit → List Visit
  | [] => [v]
  | u :: us => if v.number < u.number then v :: u :: us else u :: insertVisit v us

/-- The visits with one changed. -/
def changeVisit (k : Nat) (f : Visit → Visit) (vs : List Visit) : List Visit :=
  vs.map fun v => if v.number = k then f v else v

/-- The visits without one. -/
def dropVisit (k : Nat) (vs : List Visit) : List Visit := vs.filter fun v => v.number != k

/-- Changes one open visit. -/
def State.modVisit (s : State) (k : Nat) (f : Visit → Visit) : State :=
  s.modTraffic fun t => { t with visits := changeVisit k f t.visits }

/-- Changes one vehicle entry, where the table has it. -/
def State.modVehicle (s : State) (t : Token) (f : Vehicle → Vehicle) : State :=
  s.modIdent fun i => { i with vehicles := i.vehicles.map fun v => if v.token = t then f v else v }

/-- Changes one account. -/
def State.modAccount (s : State) (a : Fin 256) (f : Account → Account) : State :=
  s.modIdent fun i => { i with accounts := i.accounts.set a (f (i.accounts.get a)) }

/-- One account. -/
def State.account (s : State) (a : Fin 256) : Account := s.ret.ident.accounts.get a

/-- One class. -/
def State.cls (s : State) (c : Fin 16) : ClassEntry := s.ret.settings.classes.get c

/-- Some lane holds the token as its current identity. -/
def State.isIdentity (s : State) (t : Token) : Bool :=
  s.lanes.toList.any fun l => match l.identity with
    | some i => i.token == t
    | none => false

/-- The ticket of a number, where the journal has it (R170). -/
def State.ticketNumbered (s : State) (k : Nat) : Option Ticket :=
  s.ret.tickets.journal.find? fun t => t.number == k

/-- Changes the ticket of a number in the journal. -/
def State.modTicket (s : State) (k : Nat) (f : Ticket → Ticket) : State :=
  s.modTickets fun j => { j with journal := j.journal.map fun t => if t.number = k then f t else t }

/-- The journal holds 128 tickets (R170). -/
def State.journalFull (s : State) : Bool := decide (Config.journalMax ≤ s.ret.tickets.journal.length)

end Sys2Proof.Machine
end

