-- ==== Sys2Proof/Machine/BarrierDrive.lean ====
section
/-! DEFINITION. What a barrier driver does of its own: beginning and ending a motion, seeking its target, and taking a
RAISE or LOWER command (R76 to R79). Nothing here reaches the lane sequencer. -/

namespace Sys2Proof.Machine

/-- The value a lane's clear loop reports. -/
def State.clearReport (s : State) (n : Lane) : LoopReport := (s.loop n .clear).report

/-- The motor stopped: the duty 0 and the motion time stopped (R78). -/
def stopMotor (b : Barrier) : Barrier :=
  { b with duty := 0, direction := none, motionMs := none, blanked := false }

/-- A motion begins, at the start duty of the settings it begins with (R78). -/
def beginMotion (cfg : BarrierSettings) (dir : Toward) (b : Barrier) : Barrier :=
  { b with
    state := match dir with
      | .up => .raising
      | .down => .lowering
    duty := cfg.start, direction := some dir, motionMs := some 0, blanked := true, ramp := cfg }

/-- RAISING or LOWERING begins (R78). -/
def State.startMotion (s : State) (n : Lane) (dir : Toward) : State :=
  s.modBarrier n (beginMotion (s.laneSettings n).barrier dir)

/-- A barrier at rest seeks its target (R77): up at once, down only while the clear loop is FREE (R79). -/
def State.seek (s : State) (n : Lane) : State :=
  match (s.barrier n).state, (s.barrier n).target with
  | .down, .up => s.startMotion n .up
  | .unknown, .up => s.startMotion n .up
  | .up, .down => if s.clearReport n = .free then s.startMotion n .down else s
  | .unknown, .down => if s.clearReport n = .free then s.startMotion n .down else s
  | _, _ => s

/-- A lowering stops and the reversal pause begins (R79). -/
def State.reverse (s : State) (n : Lane) : State :=
  s.modBarrier n fun b => { stopMotor b with state := .reversing }

/-- A RAISE or LOWER command (R77). -/
def State.command (s : State) (n : Lane) (target : Toward) : State :=
  if (s.barrier n).target = target then s
  else
    let s1 := s.modBarrier n fun b => { b with target := target }
    match (s.barrier n).state, target with
    | .lowering, .up => s1.reverse n
    | _, _ => s1.seek n

/-- Both limit switches' reading as a state (R85, R91); both active is a fault. -/
def switchState (down up : Bool) : BarrierState :=
  match down, up with
  | true, false => .down
  | false, true => .up
  | false, false => .unknown
  | true, true => .fault .switch

end Sys2Proof.Machine
end

