-- ==== Sys2Proof/Machine/LaneMoves.lean ====
section
/-! DEFINITION. The lane sequencer's entries into its states (R101, R102, R109, R110, R113, R115), with the command
each gives its barrier, and what a lane does when its deck's occupancy changes. -/

namespace Sys2Proof.Machine

/-- The barrier is in FAULT. -/
def State.barrierFaulted (s : State) (n : Lane) : Bool :=
  match (s.barrier n).state with
  | .fault _ => true
  | _ => false

/-- A lane has a suspend cause (R115). -/
def State.suspendCause (s : State) (n : Lane) : Bool :=
  s.barrierFaulted n || !s.deckValid n || decide ((s.loop n .entry).report = .faulted)
    || decide ((s.loop n .clear).report = .faulted)

/-- Puts a lane in a state, with no other effect. -/
def State.setLaneState (s : State) (n : Lane) (st : LaneState) : State := s.modLane n fun l => { l with state := st }

/-- The capture state emptied, its required count kept (R49, R51). -/
def clearedParts (c : Capture) : Capture := { c with parts := [], moved := false, age := none }

/-- The lane's clear-loop cycle loses its mark (R110). -/
def unmarkedCycle (c : Option Bool) : Option Bool := c.map fun _ => false

/-- Entry into HELD: the event is posted, and BARRIER gives RAISE (R101, R109). DESIGN CHOICE: a pass timer that stops, as
it does on every way out of PASSING, is absent (log 45). -/
def State.enterHeld (s : State) (n : Lane) (r : HoldReason) : State :=
  let s1 := (s.modLane n fun l => { l with state := .held r, passTimer := none, passDue := false }).post .held (some n)
    (match (s.lane n).visit with
      | some k => .visit k
      | none => .none)
    (.hold r)
  if r = .barrier then s1.command n .up else s1

/-- Entry into CLOSED: the closed flag is written and LOWER is given (R101). -/
def State.enterClosed (s : State) (n : Lane) : State :=
  ((s.setLaneState n .closed).modLaneSettings n fun t => { t with closed := true }).command n .down

/-- What entry to IDLE clears (R102). -/
def idleLane (l : LaneSeq) : LaneSeq :=
  { l with state := .idle, identity := none, visit := none, heldWeighing := none, postponed := false,
           passTimer := none, passDue := false }

/-- Entry into IDLE, examined at once (R102). -/
def State.enterIdle (s : State) (n : Lane) : State :=
  let s1 := s.modLane n idleLane
  if (s.lane n).closePending || s.siteClosed then
    (s1.modLane n fun l => { l with closePending := false }).enterClosed n
  else if s1.suspendCause n then s1.setLaneState n .suspended
  else if (s1.deck n).occupancy = .occupied then s1.setLaneState n .occupied
  else s1

/-- An IDLE lane is examined again, and a SUSPENDED lane whose last cause has ended enters IDLE (R102, R115). -/
def State.laneSettle (s : State) (n : Lane) : State :=
  match (s.lane n).state with
  | .idle =>
    if s.suspendCause n then s.setLaneState n .suspended
    else if (s.deck n).occupancy = .occupied then s.setLaneState n .occupied
    else s
  | .suspended => if s.suspendCause n then s else s.enterIdle n
  | _ => s

/-- Entry into REFUSED with a reason: the red lamp is lit, LOWER is given, and an empty deck is judged at once
(R88, R101, R113). -/
def State.enterRefused (s : State) (n : Lane) (r : Reason) : State :=
  let s1 := (s.modLane n fun l =>
    { l with state := .refused, lastRefusal := some r, flashLit := true, passTimer := none, passDue := false,
             heldWeighing := none, postponed := false }).command n .down
  if (s1.deck n).occupancy = .empty then s1.enterIdle n else s1

/-- The lane is let go: PASSING with RAISE, an ENTRY's pass timer from 0, or HELD with reason BARRIER where the barrier
is in FAULT (R109, R110). -/
def State.letGo (s : State) (n : Lane) : State :=
  if s.barrierFaulted n then s.enterHeld n .barrier
  else
    (s.modLane n fun l =>
      { l with
        state := .passing
        passTimer := match l.identity with
          | some i => if i.direction = .entry then some 0 else none
          | none => none
        passLimit := (s.laneSettings n).policy.passTimeout
        passDue := false }).command n .up

/-- Entry into CLEARING, which gives LOWER (R101). -/
def State.enterClearing (s : State) (n : Lane) : State :=
  (s.modLane n fun l => { l with state := .clearing, passTimer := none, passDue := false }).command n .down

/-- A vehicle is refused: VEHICLE_REFUSED with the lane, the token and the reason (R105, R142, R152). -/
def State.postRefused (s : State) (n : Lane) (t : Token) (r : Reason) : State :=
  s.post .vehicleRefused (some n) (.token t) (.reason r)

/-- The deck becomes empty while the lane is WEIGHING: the parts, or a held weighing that is postponed, are discarded
and the lane enters IDLE; a decision that has been called is not undone (R107, R108). -/
def State.weighingEmptied (s : State) (n : Lane) : State :=
  let l := s.lane n
  let gone (k : Nat) : State :=
    ((s.modLane n fun l => { l with capture := emptyCapture }).post .weighingDiscarded (some n) .none (.parts k)).enterIdle n
  match l.heldWeighing, l.postponed with
  | none, _ => gone l.capture.parts.length
  | some w, true => gone w.parts.length
  | some _, false => s

/-- A change of the deck's occupancy reaches the lane sequencer (R102, R103, R107, R108, R113). -/
def State.occupancyChanged (s : State) (n : Lane) : State :=
  match (s.lane n).state, (s.deck n).occupancy with
  | .idle, _ => s.laneSettle n
  | .occupied, .empty => s.enterIdle n
  | .weighing, .empty => s.weighingEmptied n
  | .refused, .empty => s.enterIdle n
  | _, _ => s

/-- The deck's occupancy as judged; a change is reported (R44). -/
def State.setOccupancy (s : State) (n : Lane) (o : Occupancy) : State :=
  if (s.deck n).occupancy = o then s else (s.modDeck n fun d => { d with occupancy := o }).occupancyChanged n

/-- The barrier enters FAULT: the motor stops, BARRIER_FAULT is posted, a PASSING lane is HELD with reason BARRIER, and
an IDLE lane is SUSPENDED (R85, R110, R115). DESIGN CHOICE: BARRIER_FAULT is posted before HELD (log 42). -/
def State.enterFault (s : State) (n : Lane) (r : BarrierFault) : State :=
  let s1 := (s.modBarrier n fun b => { stopMotor b with state := .fault r }).post .barrierFault (some n) .none
    (.barrierFault r)
  match (s.lane n).state with
  | .passing => (s1.modLane n fun l => { l with cycle := unmarkedCycle l.cycle }).enterHeld n .barrier
  | _ => s1.laneSettle n

/-- The barrier comes to rest in DOWN, UP or UNKNOWN: a CLEARING lane whose barrier enters DOWN enters IDLE, and the
barrier then seeks its target (R77, R80, R112). -/
def State.barrierRests (s : State) (n : Lane) (st : BarrierState) : State :=
  let s1 := s.modBarrier n fun b => { stopMotor b with state := st }
  let s2 := if (s.lane n).state = .clearing ∧ st = .down then s1.enterIdle n else s1
  s2.seek n

end Sys2Proof.Machine
end

