-- ==== Sys2Proof/Machine/Settling.lean ====
section
/-! DEFINITION. The settling monitor (R35 to R40). -/

namespace Sys2Proof.Machine

/-- A reading in band (R36), the anchor given. -/
def inBand (cfg : DeckSettings) (anchor : Int) (r : Reading) : Bool :=
  decide (r.range = .normal) && decide ((r.f - anchor).natAbs ≤ cfg.band)

/-- The monitor dropped to UNSETTLED with its anchor at the reading's F (R38). -/
def droppedSettling (f : Int) : Settling := ⟨.unsettled, some f, 0, 0⟩

/-- A reading out of band in TENTATIVE, SETTLED or LOCKED (R38, R39). -/
def outOfBand (cfg : DeckSettings) (m : Settling) (f : Int) : Settling :=
  if cfg.tDrop ≤ m.out + 1 then droppedSettling f else { m with out := m.out + 1 }

/-- The run count at which the next state is reached (R37, R38). -/
def lockRun (cfg : DeckSettings) : SettleState → Nat
  | .unsettled => cfg.tTent
  | .tentative => cfg.tTent + cfg.tSettle
  | .settled => cfg.tTent + cfg.tSettle + cfg.tLock
  | .locked => cfg.tTent + cfg.tSettle + cfg.tLock

/-- The state that follows in the grading. -/
def nextGrade : SettleState → SettleState
  | .unsettled => .tentative
  | .tentative => .settled
  | .settled => .locked
  | .locked => .locked

/-- A reading in band in UNSETTLED, TENTATIVE or SETTLED adds one to the run count and may move the state on
(R37, R38). -/
def countedIn (cfg : DeckSettings) (m : Settling) : Settling :=
  { m with state := if lockRun cfg m.state ≤ m.run + 1 then nextGrade m.state else m.state, run := m.run + 1, out := 0 }

/-- The monitor judges one reading (R36 to R39). -/
def judgeReading (cfg : DeckSettings) (m : Settling) (r : Reading) : Settling :=
  match m.anchor with
  | none => droppedSettling r.f
  | some a =>
    match m.state, inBand cfg a r with
    | .unsettled, true => countedIn cfg m
    | .unsettled, false => { m with anchor := some r.f, run := 0 }
    | .tentative, true => countedIn cfg m
    | .tentative, false => outOfBand cfg m r.f
    | .settled, true => countedIn cfg m
    | .settled, false => outOfBand cfg m r.f
    | .locked, true => { m with out := 0 }
    | .locked, false => outOfBand cfg m r.f

/-- A rise of the zero offset by `dz` lowers the anchor by as much (R40). -/
def shiftAnchor (m : Settling) (dz : Int) : Settling := { m with anchor := m.anchor.map (fun a => a - dz) }

end Sys2Proof.Machine
end

