-- ==== Sys2Proof/Machine/Weight.lean ====
section
/-! DEFINITION. The weight arithmetic: the checks of a sample (R6, R7), the seven stages from raw counts to displayed
kilograms (R18 to R27), the range status (R28), and the figures that follow from d and Max (R30, R31). -/

namespace Sys2Proof.Machine

/-- A saturated cell count (R6). -/
def saturatedCount (c : Int) : Bool := decide (c ≤ Config.rawMin) || decide (Config.rawMax ≤ c)

/-- A saturated sample (R6). -/
def saturatedSample (cells : List Int) : Bool := cells.any saturatedCount

/-- A reference count valid by R6. -/
def validRef (e : Int) : Bool := decide (1 ≤ e) && decide (e < Config.rawMax)

/-- A reference count in tolerance by R6 and R7. -/
def refInTolerance (c : DeckCal) (e : Int) : Bool :=
  validRef e && (!c.zeroDone || decide ((e - c.eCal).natAbs ≤ c.eCal / 16))

/-- A good sample (R8). -/
def goodSample (c : DeckCal) (cells : List Int) (e : Int) : Bool :=
  !saturatedSample cells && refInTolerance c e

/-- Stage 1 (R19): the cell counts. -/
def cellCounts (c : DeckCal) (cells : List Int) : List Int :=
  List.zipWith (fun raw zero => raw - zero) cells c.zeros.toList

/-- Stage 2 (R20): the trimmed sum S. -/
def trimmedSum (c : DeckCal) (cells : List Int) : Int :=
  roundDiv (List.zipWith (fun ci (g : Nat) => ci * (g : Int)) (cellCounts c cells) c.trims.toList).sum 65536

/-- Stage 3 (R21): the corrected sum Sr. -/
def correctedSum (c : DeckCal) (cells : List Int) (e : Int) : Int :=
  roundDiv (trimmedSum c cells * c.eCal) e.toNat

/-- Stage 4 (R22): the span weight W. -/
def spanWeight (c : DeckCal) (cells : List Int) (e : Int) : Int :=
  clampInt (-Config.weightMax) Config.weightMax (roundDiv (correctedSum c cells e * c.k) 65536)

/-- The filter history with one more value of W, the newest last, of at most sixteen (R24). -/
def pushHistory (history : List Int) (w : Int) : List Int :=
  let h := history ++ [w]
  h.drop (h.length - Config.historyMax)

/-- The newest values of the history that a depth averages (R26). -/
def averaged (depth : Nat) (history : List Int) : List Int := history.drop (history.length - depth)

/-- Stage 6 (R26): the filtered weight F. -/
def filteredWeight (c : DeckCal) (depth : Nat) (history : List Int) : Int :=
  let vs := averaged depth history
  roundDiv vs.sum vs.length - c.z

/-- Stage 7 (R27): the displayed weight D. -/
def displayedWeight (c : DeckCal) (f : Int) : Int := c.d * roundDiv f (10 * c.d)

/-- The range status (R28). -/
def rangeStatus (c : DeckCal) (f : Int) : RangeStatus :=
  if ((c.max + 9 * c.d) * 10 : Nat) < f then .over
  else if f < -(200 * c.d : Nat) then .under
  else .normal

/-- The minimum weighing, in kilograms (R30). -/
def minimumWeighing (c : DeckCal) : Nat := 20 * c.d

/-- The reading made from a sample, given the history with its W appended (R18, R29). -/
def makeReading (c : DeckCal) (depth : Nat) (history : List Int) (w : Int) (t : SiteTime) : Reading :=
  let f := filteredWeight c depth history
  { w := w, g := w - c.z, f := f, d := displayedWeight c f, range := rangeStatus c f,
    entries := (averaged depth history).length, time := t, minimum := minimumWeighing c }

/-- A reading that meets the minimum weighing it was made under (R30): a change of d governs from the next reading. -/
def meetsMinimum (r : Reading) : Bool := decide (r.range = .normal) && decide ((r.minimum : Int) ≤ r.d)

/-- The zero limit that a deck's Max gives, in fine units (R31). -/
def zeroLimit (c : DeckCal) : Nat := c.max / 5

/-- A weight in fine units as whole kilograms, rounded (R33, R53). -/
def fineToKg (f : Int) : Int := roundDiv f 10

end Sys2Proof.Machine
end

