-- ==== Sys2Proof/Machine/DeckState.lean ====
section
/-! DEFINITION. Deck validity (R9 to R14), the ending of a calibration operation (R64), the zero offset (R40 to R43),
and the capture of parts (R45 to R51). -/

namespace Sys2Proof.Machine

/-- The settling monitor takes a new state; a move out of LOCKED sets the moved mark of a WEIGHING lane (R39, R47). -/
def State.setSettling (s : State) (n : Lane) (m : Settling) : State :=
  let s1 := s.modDeck n fun d => { d with settling := m }
  if (s.deck n).settling.state = .locked ∧ m.state ≠ .locked ∧ (s.lane n).state = .weighing then
    s1.modLane n fun l => { l with capture := { l.capture with moved := true } }
  else s1

/-- The deck of a WEIGHING lane becomes INVALID: its parts are discarded, with PART_DISCARDED when there were any
(R51). -/
def State.dropParts (s : State) (n : Lane) : State :=
  let l := s.lane n
  if l.state = .weighing then
    let s1 := s.modLane n fun l => { l with capture := clearedParts l.capture }
    if l.capture.parts = [] then s1
    else s1.post .partDiscarded (some n) .none (.parts l.capture.parts.length)
  else s

/-- A deck's reason set has become non-empty (R13): the filter history is emptied, the reading is absent, the monitor is
cleared, the lane is told, and DECK_INVALID is posted. -/
def State.becomeInvalid (s : State) (n : Lane) : State :=
  let s1 := (s.modDeck n fun d => { d with history := [], reading := none }).setSettling n clearedSettling
  let s2 := ((s1.dropParts n).setOccupancy n .neither).laneSettle n
  s2.post .deckInvalid (some n) .none (.reasons (s.reasons n))

/-- DECK_INVALID posted so many times with the whole set (R13). -/
def State.postInvalid (s : State) (n : Lane) : Nat → State
  | 0 => s
  | k + 1 => (s.post .deckInvalid (some n) .none (.reasons (s.reasons n))).postInvalid n k

/-- The subcommand of an operation in flight. -/
def CalOp.sub : CalOp → CalSub
  | .zero .. => .zeroCapture
  | .span .. => .spanCapture

/-- An operation in flight ends early: it is discarded, the last outcome is the cause, and CAL_ABORTED is posted
(R64). With none in flight nothing happens. -/
def State.abortOp (s : State) (n : Lane) (c : AbortCause) : State :=
  match (s.deck n).op with
  | none => s
  | some op =>
    (s.modDeck n fun d => { d with op := none, lastOutcome := some ⟨op.sub, .aborted c, s.now⟩ }).post .calAborted
      (some n) .none (.calAborted op.sub c)

/-- What follows a change of a deck's reason set from the one given (R13, R14, R64). -/
def State.afterReasons (s : State) (n : Lane) (before : ReasonSet) : State :=
  let after := s.reasons n
  let s1 :=
    if before.isEmpty && !after.isEmpty then s.becomeInvalid n
    else if !before.isEmpty && after.isEmpty then (s.post .deckValid (some n) .none .none).laneSettle n
    else s.postInvalid n (before.joined after)
  if before.faultJoined after then s1.abortOp n .invalid else s1

/-! ### Zero (R40 to R43) -/

/-- A deck's zero limit as it stands, in fine units: that of its Max (R31), or, between a RANGE and the deck's next
sample, the one formed before the RANGE (R63). -/
def State.zeroLimitNow (s : State) (n : Lane) : Nat := (s.deck n).heldLimit.getD (zeroLimit (s.cal n))

/-- How far Z may stand from 0: the zero limit as it stands, and never more than Max/5, within which R31 holds Z at all
times. DESIGN CHOICE: where a RANGE lowers Max, Max/5 bounds Z before the next sample too (log 39). -/
def State.zeroBound (s : State) (n : Lane) : Nat := min (s.zeroLimitNow n) (zeroLimit (s.cal n))

/-- The zero offset moves to a value, the anchor moving with it in the opposite sense (R40); the zero-limit marker is
cleared by a value strictly within the limit (R42). -/
def State.moveZero (s : State) (n : Lane) (z : Int) : State :=
  let dz := z - (s.cal n).z
  let s1 := (s.modCal n fun c => { c with z := z }).modDeck n fun d => { d with settling := shiftAnchor d.settling dz }
  if z.natAbs < s.zeroBound n then s1.modDeck n fun d => { d with zeroMarker := false } else s1

/-- The conditions of a zero tracking step (R41), with the current reading; a step whose F is 0 changes nothing.
DESIGN CHOICE: the half division 5·d is that of the present d, so between a RANGE and the deck's next sample it is that of
the new d, which R17 and R63 leave open (log 39). -/
def State.tracks (s : State) (n : Lane) (r : Reading) : Bool :=
  s.deckValid n && decide ((s.deck n).settling.state = .locked)
    && (decide ((s.lane n).state = .idle) || decide ((s.lane n).state = .closed))
    && (s.deck n).op.isNone && decide (r.f.natAbs ≤ 5 * (s.cal n).d) && decide (r.f ≠ 0)

/-- A zero tracking step, held at the zero limit (R41, R42). -/
def State.trackZero (s : State) (n : Lane) : State :=
  match (s.deck n).reading with
  | none => s
  | some r =>
    if s.tracks n r then
      let lim : Int := s.zeroBound n
      let z := (s.cal n).z + r.f
      if z < -lim ∨ lim < z then
        let s1 := s.moveZero n (clampInt (-lim) lim z)
        if (s.deck n).zeroMarker then s1
        else (s1.modDeck n fun d => { d with zeroMarker := true }).post .zeroLimit (some n) .none
          (.limitSide (if lim < z then .upper else .lower))
      else s.moveZero n z
    else s

/-! ### Capture of parts (R45 to R50) -/

/-- The conditions of R46 for the next part, with the current reading. -/
def State.captureReady (s : State) (n : Lane) (r : Reading) : Bool :=
  let l := s.lane n
  decide (l.state = .weighing) && l.heldWeighing.isNone && s.deckValid n
    && decide ((s.deck n).settling.state = .locked) && meetsMinimum r
    && (l.capture.parts.isEmpty || l.capture.moved)
    && (decide (l.capture.required ≠ some (l.capture.parts.length + 1)) || decide ((s.loop n .entry).report = .free))

/-- The part a reading gives (R49). -/
def State.partOf (s : State) (n : Lane) (r : Reading) : Part :=
  ⟨r.d.toNat, n, s.now, (s.cal n).counter, s.clock.unset⟩

/-- The weighing its parts form (R49). -/
def weighingOf (n : Lane) (parts : List Part) : Weighing where
  value := (parts.map (·.value)).sum
  lane := n
  time := match parts.getLast? with
    | some p => p.time
    | none => 0
  parts := parts
  unset := parts.any (·.unset)

/-- A part is appended; the part that completes the weighing forms it and empties the capture state, and the decision
is postponed while the supply is in WARNING (R49, R108). -/
def State.appendPart (s : State) (n : Lane) (r : Reading) : State :=
  let c := (s.lane n).capture
  let parts := c.parts ++ [s.partOf n r]
  if c.required = some parts.length then
    s.modLane n fun l =>
      { l with capture := clearedParts c, heldWeighing := some (weighingOf n parts), postponed := s.warning }
  else
    s.modLane n fun l =>
      { l with capture := { c with parts := parts, moved := false, age := if c.parts = [] then some 0 else c.age } }

/-- The parts of a list older than the part age limit are discarded, with WEIGHING_DISCARDED (R50). -/
def State.discardAged (s : State) (n : Lane) : State :=
  (s.modLane n fun l => { l with capture := clearedParts l.capture }).post .weighingDiscarded (some n) .none
    (.parts (s.lane n).capture.parts.length)

/-- The parts list is older than the part age limit (R50). -/
def State.partsAged (s : State) (n : Lane) : Bool :=
  match (s.lane n).capture.parts, (s.lane n).capture.age with
  | _ :: _, some a => decide ((s.laneSettings n).partAge < a)
  | _, _ => false

/-- The conditions of a capture are examined (R46), the list's age first (R50). -/
def State.examineCapture (s : State) (n : Lane) : State :=
  match (s.deck n).reading with
  | none => s
  | some r =>
    if s.captureReady n r then
      if s.partsAged n then
        let s1 := s.discardAged n
        if s1.captureReady n r then s1.appendPart n r else s1
      else s.appendPart n r
    else s

/-! ### A reading (R18, R29, R44) -/

/-- The occupancy a reading gives (R44). -/
def occupancyOf (level : Nat) (f : Int) : Occupancy := if ((level * 10 : Nat) : Int) ≤ f then .occupied else .empty

/-- A good sample of a VALID deck is worked: the reading is made, the settling monitor judges it, the occupancy is
judged, and a capture is examined (R18, R29, R36, R44, R46). DESIGN CHOICE: at one reading the occupancy reaches the lane
before a capture is examined (log 41). -/
def State.workSample (s : State) (n : Lane) (cells : List Int) (e : Int) : State :=
  let c := s.cal n
  let w := spanWeight c cells e
  let history := pushHistory (s.deck n).history w
  let r := makeReading c (s.deckSettings n).depth history w s.now
  let s1 := s.modDeck n fun d => { d with history := history, reading := some r }
  let s2 := s1.setSettling n (judgeReading (s.deckSettings n) (s.deck n).settling r)
  (s2.setOccupancy n (occupancyOf (s.laneSettings n).occupancy r.f)).examineCapture n

end Sys2Proof.Machine
end

