-- ==== Sys2Proof/Machine/Calibration.lean ====
section
/-! DEFINITION. Captures in flight and what ends them (R57 to R61, R64), and the sample path of a slot (R2, R5, R8). -/

namespace Sys2Proof.Machine

/-- A subcommand succeeds: the constants change and the counter rises by one in one retained update, the last outcome
becomes DONE, and CAL_DONE is posted with the new counter (R57, R59, R61, R62, R63). -/
def State.calSucceeds (s : State) (n : Lane) (sub : CalSub) (f : DeckCal → DeckCal) : State :=
  let s1 := (s.modCal n fun c => { f c with counter := c.counter + 1 }).modDeck n fun d =>
    { d with lastOutcome := some ⟨sub, .done, s.now⟩ }
  s1.post .calDone (some n) .none (.calDone sub ((s.cal n).counter + 1))

/-- A success that changes zero_i, g_i, E_cal or K empties the filter history and clears the monitor (R32, R40). -/
def State.emptyFilter (s : State) (n : Lane) : State :=
  (s.modDeck n fun d => { d with history := [] }).setSettling n clearedSettling

/-- The operation in flight becomes absent. -/
def State.endOp (s : State) (n : Lane) : State := s.modDeck n fun d => { d with op := none }

/-- The list with its first values replaced. -/
def overwrite {k : Nat} (v : Vector Int k) (new : List Int) : Vector Int k :=
  Vector.ofFn fun i => match new[i.val]? with
    | some a => a
    | none => v.get i

/-- A zero capture's constants (R59): each cell's sum and the reference sum divided by 64 and rounded, and Z at 0. -/
def zeroConstants (sums : List Int) (refSum : Int) (c : DeckCal) : DeckCal :=
  { c with
    zeros := overwrite c.zeros (sums.map fun t => roundDiv t Config.captureSamples)
    eCal := (roundDiv refSum Config.captureSamples).toNat
    z := 0
    zeroDone := true }

/-- A zero capture ends successfully (R59). -/
def State.zeroSucceeds (s : State) (n : Lane) (sums : List Int) (refSum : Int) : State :=
  let s1 := (s.endOp n).calSucceeds n .zeroCapture (zeroConstants sums refSum)
  let s2 := (s1.emptyFilter n).modDeck n fun d => { d with zeroMarker := false }
  s2.afterReasons n (s.reasons n)

/-- The span coefficient of a test load and an average corrected sum (R61). -/
def spanCoefficient (load : Nat) (average : Int) : Int := roundDiv ((load * 655360 : Nat) : Int) average.toNat

/-- A span capture ends at its sixty-fourth counted sample (R61). -/
def State.spanEnds (s : State) (n : Lane) (load : Nat) (sum : Int) : State :=
  let average := roundDiv sum Config.captureSamples
  if average < 10000 then s.abortOp n .spanTooSmall
  else
    let k := spanCoefficient load average
    if k < 1 ∨ 16777215 < k then s.abortOp n .badArgument
    else
      let s1 := (s.endOp n).calSucceeds n .spanCapture fun c => { c with k := k.toNat, spanDone := true }
      (s1.emptyFilter n).afterReasons n (s.reasons n)

/-- Some cell of a sample differs from the first sample's by more than the stability limit (R58). -/
def unstableCells (first cells : List Int) : Bool :=
  (List.zipWith (fun a b => decide (Config.stability < (b - a).natAbs)) first cells).any id

/-- The running sums with one sample's counts added (R58). -/
def addCells (sums cells : List Int) : List Int :=
  match sums with
  | [] => cells
  | _ => List.zipWith (· + ·) sums cells

/-- The operation in flight with one counted sample more; at the sixty-fourth it ends (R58 to R61). -/
def State.countSample (s : State) (n : Lane) (op : CalOp) (cells : List Int) (e : Int) : State :=
  match op with
  | .zero taken first sums refSum =>
    let first := first.getD cells
    if unstableCells first cells then s.abortOp n .unstable
    else if taken + 1 = Config.captureSamples then s.zeroSucceeds n (addCells sums cells) (refSum + e)
    else s.modDeck n fun d => { d with op := some (.zero (taken + 1) (some first) (addCells sums cells) (refSum + e)) }
  | .span load taken first sum =>
    let sr := correctedSum (s.cal n) cells e
    let first := first.getD sr
    if Config.stability < (sr - first).natAbs then s.abortOp n .unstable
    else if taken + 1 = Config.captureSamples then s.spanEnds n load (sum + sr)
    else s.modDeck n fun d => { d with op := some (.span load (taken + 1) (some first) (sum + sr)) }

/-- A good sample is handed to the operation in flight when the reason set holds none other than UNCALIBRATED (R8). -/
def State.calSample (s : State) (n : Lane) (cells : List Int) (e : Int) : State :=
  match (s.deck n).op with
  | none => s
  | some op => if (s.reasons n).onlyUncalibrated then s.countSample n op cells e else s

/-- A deck's sample reasons and good-sample count after a sample (R11, R12). -/
def judgedDeck (sat refBad : Bool) (d : Deck) : Deck :=
  if sat || refBad then
    { d with saturated := d.saturated || sat, excitation := d.excitation || refBad, good := 0 }
  else if d.saturated || d.excitation then
    if d.good + 1 = 4 then { d with saturated := false, excitation := false, good := 0 }
    else { d with good := d.good + 1 }
  else d

/-- A deck sample is delivered (R8): the zero limit is that of the present Max from here on (R63), the reasons and
good-sample count are brought up to date, and a good sample is handed to the weight arithmetic and then to the calibration operation. DESIGN CHOICE: the settling monitor and the
occupancy judge the reading of a VALID deck before the same sample is handed to the operation (log 41). -/
def State.deliverSample (s : State) (n : Lane) (cells : List Int) (e : Int) : State :=
  let sat := saturatedSample cells
  let refBad := !refInTolerance (s.cal n) e
  let good := !(sat || refBad)
  let s1 := s.modDeck n fun d =>
    { judgedDeck sat refBad d with lastSample := some ⟨cells, e, s.now, good⟩, heldLimit := none }
  let s2 := s1.afterReasons n (s.reasons n)
  if good then
    let s3 := if s2.deckValid n then s2.workSample n cells e else s2
    s3.calSample n cells e
  else s2

/-- The end of a slot (R2, R5): the position moves on, and the sample of the deck that owns the slot is delivered, unless
its list of cell counts does not match the deck's cell count. -/
def State.slotEnds (s : State) (slot : Fin 16) (cells : List Int) (e : Int) : State :=
  let s1 := s.modAcq fun a => { a with position := (slot.val + 1) % 16 }
  match s.acq.active.get slot with
  | none => s1
  | some n => if cells.length = (s.deckSettings n).cells then s1.deliverSample n cells e else s1

/-- The deck whose slot it is, its sample of matching length, and the operation in flight on it. -/
def State.slotOp (s : State) (slot : Fin 16) (cells : List Int) : Option (Lane × CalOp) :=
  match s.acq.active.get slot with
  | none => none
  | some n =>
    if cells.length = (s.deckSettings n).cells then (s.deck n).op.map fun op => (n, op) else none

/-- The sample is good and would be handed to the operation in flight on the deck (R8): the deck's reasons, brought up
to date by it, hold none other than UNCALIBRATED. -/
def State.wouldCount (s : State) (n : Lane) (cells : List Int) (e : Int) : Bool :=
  goodSample (s.cal n) cells e && !(s.deck n).noSlots
    && !(judgedDeck false false (s.deck n)).saturated && !(judgedDeck false false (s.deck n)).excitation

end Sys2Proof.Machine
end

