-- ==== Sys2Proof/Machine/Acquisition.lean ====
section
/-! DEFINITION. The meanings of the acquisition family: the frame start, the end of a slot, and the completion of a
capture at a slot's end (R1 to R14, R57 to R61). -/

namespace Sys2Proof.Machine

/-- A deck's NO_SLOTS reason is decided from the active plan (R10). -/
def State.decideSlots (s : State) (n : Lane) : State :=
  (s.modDeck n fun d => { d with noSlots := !planGives s.acq.active n }).afterReasons n (s.reasons n)

/-- A frame start (R1, R10): the stored plan becomes the active plan, and NO_SLOTS is decided for each deck. DESIGN
CHOICE: the decks are decided, and their events posted, deck 1 first (log 42). -/
def State.frameStarts (s : State) : State :=
  (s.modAcq fun _ => ⟨s.ret.settings.slotPlan, 0⟩).eachLane State.decideSlots

/-- The sample at a slot's end is the sixty-fourth that the deck's zero capture counts (R58, R59). -/
def State.completesZero (s : State) (slot : Fin 16) (cells : List Int) (e : Int) : Bool :=
  match s.slotOp slot cells with
  | some (n, .zero taken first _ _) =>
    decide (taken + 1 = Config.captureSamples) && s.wouldCount n cells e && !unstableCells (first.getD cells) cells
  | _ => false

/-- The sample at a slot's end is the sixty-fourth that the deck's span capture counts (R60, R61). -/
def State.completesSpan (s : State) (slot : Fin 16) (cells : List Int) (e : Int) : Bool :=
  match s.slotOp slot cells with
  | some (n, .span _ taken first _) =>
    let sr := correctedSum (s.cal n) cells e
    decide (taken + 1 = Config.captureSamples) && s.wouldCount n cells e
      && decide ((sr - first.getD sr).natAbs ≤ Config.stability)
  | _ => false

/-- FRAME_START (R1). -/
def execFrameStart (s : State) : Host.Outcome State Fault Refusal := .next (s.whileRunning s.frameStarts)

/-- DECK_SAMPLE (R8). -/
def execDeckSample (slot : Fin 16) (cells : List Int) (e : Int) (s : State) : Host.Outcome State Fault Refusal :=
  .next (s.whileRunning (s.slotEnds slot cells e))

/-- ZERO_CAPTURE_COMPLETE (R59): the slot's end, where its sample completes a zero capture. -/
def execZeroCaptureComplete (slot : Fin 16) (cells : List Int) (e : Int) (s : State) :
    Host.Outcome State Fault Refusal :=
  .next (s.whileRunning (if s.completesZero slot cells e then s.slotEnds slot cells e else s))

/-- SPAN_CAPTURE_COMPLETE (R61): the slot's end, where its sample completes a span capture. -/
def execSpanCaptureComplete (slot : Fin 16) (cells : List Int) (e : Int) (s : State) :
    Host.Outcome State Fault Refusal :=
  .next (s.whileRunning (if s.completesSpan slot cells e then s.slotEnds slot cells e else s))

end Sys2Proof.Machine
end

