-- ==== Sys2Proof/Machine/Bytes.lean ====
section
/-! DEFINITION. How values are written on the office link (R203) and the codes of the enumerations and sets (R202, R203,
R206, and the order in which the owning rules list their values). -/

namespace Sys2Proof.Machine

/-! ### Numbers, flags, sets and absence (R203) -/

/-- A one-byte number. -/
def u8 (n : Nat) : List Byte := [BitVec.ofNat 8 n]

/-- A two-byte number, most significant byte first. -/
def u16 (n : Nat) : List Byte := [BitVec.ofNat 8 (n / 256), BitVec.ofNat 8 n]

/-- A four-byte number, most significant byte first. -/
def u32 (n : Nat) : List Byte :=
  [BitVec.ofNat 8 (n / 16777216), BitVec.ofNat 8 (n / 65536), BitVec.ofNat 8 (n / 256), BitVec.ofNat 8 n]

/-- A four-byte number in two's complement. -/
def i32 (a : Int) : List Byte := u32 (BitVec.ofInt 32 a).toNat

/-- A token code, its eight bytes as read. -/
def tokenBytes (t : Token) : List Byte := u32 (t.toNat / 4294967296) ++ u32 t.toNat

/-- A site time. -/
def timeBytes (t : SiteTime) : List Byte := u32 t.toNat

/-- A flag. -/
def flag (b : Bool) : List Byte := [if b then 1 else 0]

/-- A set: bit k is the k-th member. -/
def bitsValue : List Bool → Nat
  | [] => 0
  | b :: bs => (if b then 1 else 0) + 2 * bitsValue bs

/-- A set of up to eight members. -/
def set8 (bs : List Bool) : List Byte := u8 (bitsValue bs)

/-- A byte that is 255, two bytes 65,535 or four bytes of all ones when absent. -/
def optU8 (o : Option Nat) : List Byte := u8 (o.getD 255)
def optU16 (o : Option Nat) : List Byte := u16 (o.getD 65535)
def optU32 (o : Option Nat) : List Byte := u32 (o.getD 4294967295)

/-- A four-byte number whose range is not stated, or reaches all ones, when it may be absent. -/
def presentU32 (o : Option Nat) : List Byte :=
  match o with
  | none => [0, 0, 0, 0, 0]
  | some n => 1 :: u32 n
def presentI32 (o : Option Int) : List Byte :=
  match o with
  | none => [0, 0, 0, 0, 0]
  | some a => 1 :: i32 a

/-- A two-byte number whose range reaches 65,535, when it may be absent. -/
def presentU16 (o : Option Nat) : List Byte :=
  match o with
  | none => [0, 0, 0]
  | some n => 1 :: u16 n

/-- An optional site time and an optional token code. -/
def presentTime (o : Option SiteTime) : List Byte := presentU32 (o.map (·.toNat))
def presentToken (o : Option Token) : List Byte :=
  match o with
  | none => [0, 0, 0, 0, 0, 0, 0, 0, 0]
  | some t => 1 :: tokenBytes t

/-! ### Enumerations -/

def ResultCode.code : ResultCode → Nat
  | .ok => 0 | .wrongState => 1 | .badArgument => 2 | .wrongChannel => 3 | .notFound => 4 | .inUse => 5 | .full => 6
  | .limit => 7 | .tooLate => 8 | .calLocked => 9 | .busy => 10 | .unstable => 11 | .spanTooSmall => 12
  | .counterFull => 13 | .noReplySpace => 14

def Reason.code : Reason → Nat
  | .siteClosed => 1 | .laneClosed => 2 | .wrongDirection => 3 | .unknownVehicle => 4 | .tableFull => 5
  | .learnLimit => 6 | .barred => 7 | .laneNotPermitted => 8 | .visitOpen => 9 | .accountStopped => 10
  | .noStream => 11 | .streamClosed => 12 | .siteFull => 13 | .streamCapacity => 14 | .permitCap => 15
  | .allowance => 16 | .linkLost => 17 | .noVisit => 18 | .wrongState => 19 | .overweight => 20 | .declined => 21
  | .approvalTimeout => 22 | .passTimeout => 23

def EventKind.code : EventKind → Nat
  | .started => 1 | .vehicleAdmitted => 2 | .vehicleRefused => 3 | .held => 4 | .visitClosed => 5 | .precheckFail => 6
  | .queueSkipped => 7 | .queueExpired => 8 | .queueFull => 9 | .partDiscarded => 10 | .weighingDiscarded => 11
  | .passTimeout => 12 | .unexpectedPass => 13 | .manualPass => 14 | .barrierObstructed => 15 | .barrierFault => 16
  | .loopFault => 17 | .loopStuck => 18 | .deckInvalid => 19 | .deckValid => 20 | .zeroLimit => 21
  | .tareLearned => 22 | .tareExpired => 23 | .entryExpired => 24 | .streamLevel => 25 | .overweightOut => 26
  | .journalFull => 27 | .printDone => 28 | .printFailed => 29 | .linkLost => 30 | .linkRestored => 31
  | .outOfHours => 32 | .powerWarning => 33 | .calDone => 34 | .calAborted => 35 | .eventsLost => 36

def Kind.code : Kind → Nat | .delivery => 1 | .collection => 2
def Direction.code : Direction → Nat | .entry => 1 | .exit => 2
def DirMode.code : DirMode → Nat | .inward => 1 | .outward => 2 | .both => 3
def OpenState.code : OpenState → Nat | .opened => 1 | .closed => 2
def AccountState.code : AccountState → Nat | .active => 1 | .onStop => 2 | .closed => 3
def LimitKind.code : LimitKind → Nat | .hard => 1 | .soft => 2
def TareOrigin.code : TareOrigin → Nat | .loaded => 1 | .learned => 2
def EntryOrigin.code : EntryOrigin → Nat | .loaded => 1 | .provisional => 2
def VisitState.code : VisitState → Nat
  | .heldIn => 1 | .entering => 2 | .onSite => 3 | .heldOut => 4 | .overweight => 5
def HoldReason.code : HoldReason → Nat
  | .approval => 1 | .journal => 2 | .print => 3 | .overweight => 4 | .barrier => 5
def LaneState.code : LaneState → Nat
  | .closed => 1 | .idle => 2 | .occupied => 3 | .weighing => 4 | .held _ => 5 | .passing => 6 | .clearing => 7
  | .refused => 8 | .manual => 9 | .suspended => 10
def RangeStatus.code : RangeStatus → Nat | .over => 1 | .under => 2 | .normal => 3
def SettleState.code : SettleState → Nat | .unsettled => 1 | .tentative => 2 | .settled => 3 | .locked => 4
def Occupancy.code : Occupancy → Nat | .occupied => 1 | .empty => 2 | .neither => 3

/-- A calibration subcommand under its operation code (R204). -/
def CalSub.code : CalSub → Nat | .zeroCapture => 1 | .trim => 2 | .spanCapture => 3 | .range => 4
def AbortCause.code : AbortCause → Nat
  | .enable => 1 | .invalid => 2 | .warning => 3 | .command => 4 | .unstable => 5 | .spanTooSmall => 6
  | .badArgument => 7

/-- An outcome: DONE, then the causes of R64 (R55). -/
def CalOutcome.code : CalOutcome → Nat | .done => 1 | .aborted c => c.code + 1
def LoopCondition.code : LoopCondition → Nat
  | .start => 1 | .learning => 2 | .free => 3 | .occupied => 4 | .faulted => 5

/-- The reported values in the order in which R68 names them: FREE, FAULTED, OCCUPIED. -/
def LoopReport.code : LoopReport → Nat | .free => 1 | .faulted => 2 | .occupied => 3
def LoopFaultKind.code : LoopFaultKind → Nat | .short => 1 | .opened => 2 | .recovered => 3
def loopCode : LoopSide → Nat | .entry => 1 | .clear => 2
def BarrierFault.code : BarrierFault → Nat | .travel => 1 | .switch => 2 | .stall => 3 | .obstruction => 4
def BarrierState.code : BarrierState → Nat
  | .down => 1 | .raising => 2 | .up => 3 | .lowering => 4 | .reversing => 5 | .unknown => 6 | .fault _ => 7

/-- The target's values are listed DOWN, UP (R76). -/
def Toward.code : Toward → Nat | .down => 1 | .up => 2

/-- The direction of drive's values are listed up, down (R76). -/
def Toward.driveCode : Toward → Nat | .up => 1 | .down => 2
def Source.code : Source → Nat | .deckReader => 1 | .ident => 2
def PrintState.code : PrintState → Nat | .none => 1 | .queued => 2 | .printed => 3 | .failed => 4
def PrintFailure.code : PrintFailure → Nat
  | .paperOut => 1 | .headFault => 2 | .noAnswer => 3 | .timeout => 4 | .laneBusy => 5 | .restart => 6
def JobState.code : JobState → Nat | .queued => 1 | .sending _ => 2 | .printing _ => 3
def SupplyState.code : SupplyState → Nat | .normal => 1 | .warning => 2 | .reset => 3
def StartCause.code : StartCause → Nat | .power => 1 | .line => 2 | .record => 3
def CopyFound.code : CopyFound → Nat | .empty => 1 | .applied => 2 | .discarded => 3
def LimitSide.code : LimitSide → Nat | .upper => 1 | .lower => 2

/-- An optional enumeration: code 0 when absent (R203). -/
def optCode (o : Option Nat) : List Byte := u8 (o.getD 0)

/-- A stream number, 255 when absent (R203). -/
def streamByte (k : Fin 8) : List Byte := u8 (k.val + 1)
def optStream (o : Option (Fin 8)) : List Byte := optU8 (o.map fun k => k.val + 1)

/-- A printer address, 255 when absent (R203). -/
def optAddress (o : Option (Fin 8)) : List Byte := optU8 (o.map fun k => k.val + 1)

/-! ### Sets -/

def ReasonSet.byte (r : ReasonSet) : List Byte := set8 [r.uncalibrated, r.noSlots, r.cellSaturated, r.excitation]
def sectionByte (x : SectionSet) : List Byte :=
  set8 [x.calibration, x.settings, x.identities, x.traffic, x.tickets]
def VisitFlags.byte (f : VisitFlags) : List Byte :=
  set8 [f.overweightIn, f.tareDeviation, f.allowanceExceeded, f.negativeNet, f.stockUnderrun, f.timeUnset, f.approvedIn]
def LinkErrors.byte (e : LinkErrors) : List Byte :=
  set8 [e.headerCorrected, e.headerBad, e.checksum, e.kindUnknown, e.channelBad, e.lengthBad, e.cutShort]

/-- A lane mask: lanes 1 to 4 in bits 0 to 3, 255 when absent (R204). -/
def maskByte : Option LaneMask → List Byte
  | none => u8 255
  | some m => set8 m.toList

/-! ### Weighings and tickets (R205) -/

/-- A part slot of 11 bytes. -/
def partSlot (p : Part) : List Byte := u32 p.value ++ u8 p.deck.number ++ timeBytes p.time ++ u16 p.counter

/-- The four part slots, those beyond the part count 0. -/
def partSlots : Nat → List Part → List Byte
  | 0, _ => []
  | k + 1, [] => List.replicate 11 0 ++ partSlots k []
  | k + 1, p :: ps => partSlot p ++ partSlots k ps

/-- A weighing block of 55 bytes. -/
def weighingBytes (w : Weighing) : List Byte :=
  u32 w.value ++ u8 w.lane.number ++ timeBytes w.time ++ flag w.unset ++ u8 w.parts.length ++ partSlots 4 w.parts

/-- A ticket item of 140 bytes. -/
def ticketBytes (t : Ticket) : List Byte :=
  u32 t.number ++ u16 t.visit ++ timeBytes t.issued ++ u8 t.kind.code ++ tokenBytes t.token ++ u8 t.account.val
    ++ u8 t.cls.val ++ streamByte t.stream ++ weighingBytes t.entry ++ weighingBytes t.exit ++ u32 t.net ++ t.flags.byte
    ++ u8 t.print.code ++ optCode (t.failure.map PrintFailure.code) ++ u8 t.copies

/-! ### Events (R206) -/

/-- The subject's type byte and its own bytes. -/
def Subject.type : Subject → Nat
  | .none => 0 | .visit _ => 1 | .ticket _ => 2 | .token _ => 3 | .stream _ => 4
def Subject.bytes : Subject → List Byte
  | .none => []
  | .visit k => u16 k
  | .ticket k => u32 k
  | .token t => tokenBytes t
  | .stream k => streamByte k

/-- The detail's values, each in the width of its range (R203, R206): the number of parts discarded, 0 to 4 by R45, in
one byte. -/
def Detail.bytes : Detail → List Byte
  | .none => []
  | .started c f k => u8 c.code ++ sectionByte f ++ u32 k
  | .blocks b => u16 b
  | .reason r => u8 r.code
  | .hold r => u8 r.code
  | .ticket k => u32 k
  | .parts k => u8 k
  | .token t => tokenBytes t
  | .laneState st => u8 st.code
  | .obstructions k => u8 k
  | .barrierFault r => u8 r.code
  | .loopFault side k => u8 (loopCode side) ++ u8 k.code
  | .stuck side lim => u8 (loopCode side) ++ u16 lim
  | .loop side => u8 (loopCode side)
  | .reasons r => r.byte
  | .limitSide x => u8 x.code
  | .weight kg => u32 kg
  | .days k => u32 k
  | .level kg up => u32 kg ++ u8 (if up then 1 else 2)
  | .copyMark c => flag c
  | .jobFailed c r => flag c ++ u8 r.code
  | .notQueued r => u8 r.code
  | .warning entered => u8 (if entered then 1 else 2)
  | .calDone sub k => u8 sub.code ++ u16 k
  | .calAborted sub c => u8 sub.code ++ u8 c.code
  | .lost k => u16 k

/-- Bytes held to a width, the rest 0. -/
def padded (width : Nat) (bs : List Byte) : List Byte := (bs ++ List.replicate width 0).take width

/-- A lane, 255 for an event of the site. -/
def laneByte : Option Lane → List Byte
  | none => u8 255
  | some n => u8 n.number

/-- An event item of 28 bytes (R206). -/
def eventBytes (e : Event) : List Byte :=
  u8 e.kind.code ++ laneByte e.lane ++ timeBytes e.time ++ u8 e.subject.type ++ padded 8 e.subject.bytes
    ++ padded 13 e.detail.bytes

/-- The bytes of an event item. -/
def eventSize : Nat := 28

end Sys2Proof.Machine
end

