-- ==== Sys2Proof/Machine/LinkPort.lean ====
section
/-! DEFINITION. The office link port (R185, R190 to R196): the gate a record passes, the place its answer takes in the
reply buffer, and the end of a transmission. -/

namespace Sys2Proof.Machine

/-- The link error set is empty. -/
def LinkErrors.isEmpty (e : LinkErrors) : Bool :=
  !e.headerCorrected && !e.headerBad && !e.checksum && !e.kindUnknown && !e.channelBad && !e.lengthBad && !e.cutShort

/-- The errors of two sets together (R190). -/
def LinkErrors.union (a b : LinkErrors) : LinkErrors where
  headerCorrected := a.headerCorrected || b.headerCorrected
  headerBad := a.headerBad || b.headerBad
  checksum := a.checksum || b.checksum
  kindUnknown := a.kindUnknown || b.kindUnknown
  channelBad := a.channelBad || b.channelBad
  lengthBad := a.lengthBad || b.lengthBad
  cutShort := a.cutShort || b.cutShort

/-- The set with HEADER_CORRECTED alone, or nothing. -/
def correctedOnly (b : Bool) : LinkErrors := { LinkErrors.none with headerCorrected := b }

/-- The bytes a reply takes in the reply buffer (R194). -/
def Reply.size : Reply → Nat
  | .result .. => 4
  | .data _ p => p.length + 6
  | .errors _ => 4
  | .finish _ => 4

/-- The bytes the held replies take (R194). -/
def repliesSize (rs : List Reply) : Nat := (rs.map Reply.size).sum

/-- The bytes free beyond the four kept for the END (R194). -/
def LinkPort.free (p : LinkPort) : Nat := Config.replyBuffer - 4 - repliesSize p.replies

/-- A record completing now finds a place for its answer (R194). -/
def LinkPort.hasPlace (p : LinkPort) : Bool := decide (8 ≤ p.free)

/-- A DATA of this payload fits, with a following ERRORS (R194). -/
def LinkPort.fits (p : LinkPort) (payload : List Byte) : Bool := decide (payload.length + 6 + 4 ≤ p.free)

/-- The port takes the bytes of a record: the part is out of reset, the host holds the line, and the port is WAITING or
RECEIVING (R184, R185). -/
def State.listening (s : State) : Bool :=
  s.running && (decide (s.link.port = .waiting) || decide (s.link.port = .receiving))

/-- Errors join the set (R190). -/
def LinkPort.note (p : LinkPort) (e : LinkErrors) : LinkPort := { p with errors := p.errors.union e }

/-- A reply is appended (R192). -/
def LinkPort.reply (p : LinkPort) (r : Reply) : LinkPort := { p with replies := p.replies ++ [r] }

/-- The error set, when it is not empty, is carried by one ERRORS, which clears it (R190, R192). -/
def LinkPort.flush (p : LinkPort) : LinkPort :=
  if p.errors.isEmpty then p else { p with replies := p.replies ++ [.errors p.errors], errors := LinkErrors.none }

/-- A clean record completes: the silence count is 0, and a LOST link becomes LIVE with LINK_RESTORED (R196). -/
def State.cleanRecord (s : State) : State :=
  let s1 := s.modLink fun p => { p with silence := 0, lostDue := false, live := true }
  if s.link.live then s1 else s1.post .linkRestored none .none .none

/-- A record with a good or corrected header is received whole: the port is RECEIVING, a correction is noted, and the
record is clean for the supervision (R185, R190, R196). -/
def State.receive (s : State) (h : RecHead) : State :=
  (s.modLink fun p => { p with port := .receiving }.note (correctedOnly h.corrected)).cleanRecord

/-- The channel type admits the channel (R191). -/
def admits : ChanType → Chan → Bool
  | .site, .site => true
  | .site, .lane _ => false
  | .lane, .site => false
  | .lane, .lane _ => true
  | .any, _ => true

/-- The RESULT of an executed command, and an ERRORS after it where the set is not empty (R192). -/
def State.answer (s : State) (h : RecHead) (code : ResultCode) : State :=
  s.modLink fun p => (p.reply (.result h.chan code)).flush

/-- A command on the site channel or on any channel is executed (R191, R192, R194): what it does, and its result code. -/
def State.takeRecord (s : State) (h : RecHead) (t : ChanType) (act : State → State × ResultCode) : State :=
  if s.listening then
    let s1 := s.receive h
    if s1.link.hasPlace then
      if admits t h.chan then
        let out := act s1
        out.1.answer h out.2
      else s1.answer h .wrongChannel
    else s1
  else s

/-- A command of the site kinds (R191). -/
def State.takeSite (s : State) (h : RecHead) (act : State → State × ResultCode) : State := s.takeRecord h .site act

/-- A command of the lane kinds, on the addressed lane (R191). -/
def State.takeLane (s : State) (h : RecHead) (act : Lane → State → State × ResultCode) : State :=
  s.takeRecord h .lane fun s1 =>
    match h.chan with
    | .site => (s1, .wrongChannel)
    | .lane n => act n s1

/-- What a READ that is carried out returns: its payload, and the state it leaves. -/
structure ReadOut where
  payload : List Byte
  state : State

/-- A READ is executed (R192, R194): a result code where its payload is refused, RESULT NO_REPLY_SPACE where its DATA
does not fit, and otherwise its DATA. -/
def State.takeRead (s : State) (h : RecHead) (t : ChanType) (act : State → Except ResultCode ReadOut) : State :=
  if s.listening then
    let s1 := s.receive h
    if s1.link.hasPlace then
      if admits t h.chan then
        match act s1 with
        | .error code => s1.answer h code
        | .ok out =>
          if s1.link.fits out.payload then
            out.state.modLink fun p => (p.reply (.data h.chan out.payload)).flush
          else s1.answer h .noReplySpace
      else s1.answer h .wrongChannel
    else s1
  else s

/-- A READ that changes nothing. -/
def readOnly (payload : State → List Byte) (s : State) : Except ResultCode ReadOut := .ok ⟨payload s, s⟩

/-- A READ whose payload must be empty beyond its target code (R204). -/
def noStart (b : Body Unit) (act : State → Except ResultCode ReadOut) (s : State) : Except ResultCode ReadOut :=
  match b with
  | .misfit => .error .badArgument
  | .item () => act s

/-- A TURN (R192, R193): it gives the turn, and an ERRORS follows it when the set is not empty. -/
def State.takeTurn (s : State) (h : RecHead) : State :=
  if s.listening then
    let s1 := (s.receive h).modLink fun p => { p with turn := true }
    if s1.link.hasPlace then s1.modLink LinkPort.flush else s1
  else s

/-- The errors a damaged record adds (R190). -/
def damageErrors (corrected checksum kindUnknown channelBad : Bool) : LinkErrors :=
  { LinkErrors.none with
    headerCorrected := corrected, checksum := checksum, kindUnknown := kindUnknown, channelBad := channelBad }

/-- A record that is not executed (R190, R192): its errors join the set, and one ERRORS answers it where it finds a
place. -/
def State.takeDamaged (s : State) (e : LinkErrors) (turn : Bool) : State :=
  if s.listening then
    s.modLink fun p =>
      let p1 := { p with port := .receiving, turn := p.turn || turn }.note e
      if p1.hasPlace then p1.flush else p1
  else s

/-- A header that ends the reading of the transmission (R186, R188, R193): its error joins the set and is answered, the
rest is discarded, and the transmission gives the turn. DESIGN CHOICE: its ERRORS needs the place that R194 asks of a
record that completes (log 46). -/
def State.takeHeaderBad (s : State) (e : LinkErrors) : State :=
  if s.listening then
    s.modLink fun p =>
      let p1 := { p with port := .discarding, turn := true }.note e
      if p1.hasPlace then p1.flush else p1
  else s

/-- The errors carried by ERRORS replies. -/
def carriedErrors : List Reply → LinkErrors
  | [] => LinkErrors.none
  | .errors e :: rs => e.union (carriedErrors rs)
  | .result .. :: rs => carriedErrors rs
  | .data .. :: rs => carriedErrors rs
  | .finish _ :: rs => carriedErrors rs

/-- The transmission ends (R193): the controller takes the line with its replies and an END counting the events, or the
replies are discarded and their errors put back into the set. -/
def State.endTransmission (s : State) : State :=
  if s.link.turn then
    s.modLink fun p => { p.reply (.finish s.events.queue.length) with port := .sending, turn := false }
  else
    s.modLink fun p => { p with port := .waiting, replies := [], errors := p.errors.union (carriedErrors p.replies) }

/-- What a header adds to the error set as it is read (R186, R188). -/
def markErrors (m : HeaderMarks) : LinkErrors :=
  { LinkErrors.none with
    headerCorrected := m.corrected, kindUnknown := m.kindUnknown, channelBad := m.channelBad }

/-- A gap inside a record adds CUT_SHORT to what its header added, and the record is answered as one not executed (R185,
R190, R192). DESIGN CHOICE: its ERRORS needs the place that R194 asks of a record that completes (log 46). -/
def State.cutShort (s : State) (m : HeaderMarks) : State :=
  s.modLink fun p =>
    let p1 := p.note { markErrors m with cutShort := true }
    if p1.hasPlace then p1.flush else p1

end Sys2Proof.Machine
end

