-- ==== Sys2Proof/Machine/Operands.lean ====
section
/-! DEFINITION. The operands of the host's records as values: each field read by R203, with the range its owning rule
gives it, and the item it makes. A reading of `none` is answered BAD_ARGUMENT. -/

namespace Sys2Proof.Machine

/-! ### Fields (R203) -/

/-- A number within a range. -/
def ranged (lo hi n : Nat) : Option Nat := if lo ≤ n ∧ n ≤ hi then some n else none

/-- A flag. -/
def flagOf (b : Byte) : Option Bool :=
  match b.toNat with
  | 0 => some false
  | 1 => some true
  | _ => none

def kindOf (b : Byte) : Option Kind :=
  match b.toNat with
  | 1 => some .delivery
  | 2 => some .collection
  | _ => none

/-- An optional kind: code 0 is absence. -/
def optKindOf (b : Byte) : Option (Option Kind) := if b.toNat = 0 then some none else (kindOf b).map some

def openStateOf (b : Byte) : Option OpenState :=
  match b.toNat with
  | 1 => some .opened
  | 2 => some .closed
  | _ => none

def accountStateOf (b : Byte) : Option AccountState :=
  match b.toNat with
  | 1 => some .active
  | 2 => some .onStop
  | 3 => some .closed
  | _ => none

def limitKindOf (b : Byte) : Option LimitKind :=
  match b.toNat with
  | 1 => some .hard
  | 2 => some .soft
  | _ => none

def dirModeOf (b : Byte) : Option DirMode :=
  match b.toNat with
  | 1 => some .inward
  | 2 => some .outward
  | 3 => some .both
  | _ => none

def loopSideOf (b : Byte) : Option LoopSide :=
  match b.toNat with
  | 1 => some .entry
  | 2 => some .clear
  | _ => none

/-- A stream number. -/
def streamOf (b : Byte) : Option (Fin 8) :=
  if h : b.toNat - 1 < 8 then (if b.toNat = 0 then none else some ⟨b.toNat - 1, h⟩) else none

/-- A stream, or 255 for absence. -/
def optStreamOf (b : Byte) : Option (Option (Fin 8)) := if b.toNat = 255 then some none else (streamOf b).map some

/-- An account number: every byte names one. -/
def accountOf (b : Byte) : Fin 256 := b.toFin

/-- A class number. -/
def classOf (b : Byte) : Option (Fin 16) := if h : b.toNat < 16 then some ⟨b.toNat, h⟩ else none

/-- A four-byte number within a range, or all ones for absence. -/
def optRanged (lo hi : Nat) (v : BitVec 32) : Option (Option Nat) :=
  if v.toNat = 4294967295 then some none else (ranged lo hi v.toNat).map some

/-- A lane mask: lanes 1 to 4 in bits 0 to 3, not empty, or 255 for absence (R124, R204). -/
def laneMaskOf (b : Byte) : Option (Option LaneMask) :=
  if b.toNat = 255 then some none
  else if b.toNat = 0 ∨ 16 ≤ b.toNat then none
  else some (some ⟨b.getLsbD 0, b.getLsbD 1, b.getLsbD 2, b.getLsbD 3⟩)

/-! ### Tables -/

/-- The tare choice of a VEHICLE WRITE (R124). -/
inductive TareChoice where
  | value (kg : Nat)
  | absent
  | keep
  deriving DecidableEq, Repr

/-- The tare value is read only with the choice VALUE (R204). -/
def tareChoiceOf (b : Byte) (v : BitVec 32) : Option TareChoice :=
  match b.toNat with
  | 1 => (ranged 0 150000 v.toNat).map .value
  | 2 => some .absent
  | 3 => some .keep
  | _ => none

/-- The fields a VEHICLE WRITE carries (R120). -/
structure VehicleFields where
  token : Token
  account : Fin 256
  cls : Fin 16
  kind : Kind
  stream : Option (Fin 8)
  gross : Option Nat
  mask : Option LaneMask
  barred : Bool
  tare : TareChoice
  deriving DecidableEq, Repr

/-- VEHICLE WRITE (R124). -/
def vehicleFields (i : VehicleItem) : Option VehicleFields := do
  let cls ← classOf i.cls
  let kind ← kindOf i.kind
  let stream ← optStreamOf i.stream
  let gross ← optRanged 1 150000 i.gross
  let mask ← laneMaskOf i.mask
  let barred ← flagOf i.barred
  let tare ← tareChoiceOf i.tareChoice i.tare
  some ⟨i.token, accountOf i.account, cls, kind, stream, gross, mask, barred, tare⟩

/-- The fields an ACCOUNT WRITE carries (R132). -/
structure AccountFields where
  account : Fin 256
  state : AccountState
  allowance : Option Nat
  limitKind : LimitKind
  approval : Bool
  stream : Option (Fin 8)
  deriving DecidableEq, Repr

/-- ACCOUNT WRITE (R133). -/
def accountFields (i : AccountItem) : Option AccountFields := do
  let state ← accountStateOf i.state
  let allowance ← optRanged 1 Config.tonnageMax i.allowance
  let limitKind ← limitKindOf i.limitKind
  let approval ← flagOf i.approval
  let stream ← optStreamOf i.stream
  some ⟨accountOf i.account, state, allowance, limitKind, approval, stream⟩

/-- The accounts of a PERIOD RESET: one, or all at 65,535 (R135). -/
def periodAccounts (v : BitVec 16) : Option (Option (Fin 256)) :=
  if v.toNat = 65535 then some none else if h : v.toNat < 256 then some (some ⟨v.toNat, h⟩) else none

/-- STOCK (R162). -/
def stockFields (i : StockItem) : Option (Fin 8 × Nat) := do
  let k ← streamOf i.stream
  let kg ← ranged 0 Config.tonnageMax i.stock.toNat
  some (k, kg)

/-- IDENT: its overrides (R106). -/
def identFields (i : IdentItem) : Option (Option (Fin 8) × Option Kind) := do
  let stream ← optStreamOf i.stream
  let kind ← optKindOf i.kind
  some (stream, kind)

/-- A ticket number (R171, R175). -/
def ticketOf (v : BitVec 32) : Option Nat := ranged 1 Config.ticketMax v.toNat

/-- TICKETS REPRINT (R175). -/
def reprintFields (i : ReprintItem) : Option (Nat × Lane) := do
  let k ← ticketOf i.ticket
  let n ← Lane.ofNumber i.lane.toNat
  some (k, n)

/-! ### Calibration (R60, R62, R63) -/

/-- The test load of a SPAN CAPTURE (R60). -/
def testLoadOf (v : BitVec 32) : Option Nat := ranged 1 100000 v.toNat

/-- Some number stands twice in a list. -/
def repeats : List Nat → Bool
  | [] => false
  | a :: as => as.contains a || repeats as

/-- The pairs of a TRIM on a deck of so many cells: cell positions from 0, with their trims (R62). -/
def trimFields (cells : Nat) (ps : List TrimPair) : Option (List (Nat × Nat)) :=
  let ok := ps.all fun p =>
    decide (1 ≤ p.cell.toNat) && decide (p.cell.toNat ≤ cells) && decide (49152 ≤ p.trim.toNat)
      && decide (p.trim.toNat ≤ 81920)
  if ok && !repeats (ps.map fun p => p.cell.toNat) && decide (1 ≤ ps.length) && decide (ps.length ≤ 8) then
    some (ps.map fun p => (p.cell.toNat - 1, p.trim.toNat))
  else none

/-- The capacity and division of a RANGE (R63). -/
def rangeFields (i : RangeItem) : Option (Nat × Nat) :=
  let d := i.d.toNat
  let max := i.max.toNat
  if (d = 5 ∨ d = 10 ∨ d = 20 ∨ d = 50 ∨ d = 100) ∧ 1000 ≤ max ∧ max ≤ 100000 ∧ max % d = 0 ∧ max / d ≤ 10000 then
    some (max, d)
  else none

/-! ### SETUP items (R204) -/

/-- An entry of a slot plan: a deck, or 0 for NONE (R3). -/
def planEntry (b : Byte) : Option Lane := Lane.ofNumber b.toNat

/-- The slot plan item (R3). -/
def planFields (v : Vector Byte 16) : Option (Vector (Option Lane) 16) :=
  if v.toList.all fun b => decide (b.toNat ≤ 4) then some (Vector.ofFn fun i => planEntry (v.get i))
  else none

/-- The deck filter item: the depth N (R25). -/
def depthOf (b : Byte) : Option Nat :=
  if b.toNat = 1 ∨ b.toNat = 2 ∨ b.toNat = 4 ∨ b.toNat = 8 ∨ b.toNat = 16 then some b.toNat else none

/-- The deck settling item (R35), over the deck's other settings. -/
def settlingFields (i : SettlingItem) : Option (DeckSettings → DeckSettings) := do
  let band ← ranged 1 5000 i.band.toNat
  let tTent ← ranged 1 255 i.tTent.toNat
  let tSettle ← ranged 1 255 i.tSettle.toNat
  let tLock ← ranged 1 255 i.tLock.toNat
  let tDrop ← ranged 1 255 i.tDrop.toNat
  some fun d => { d with band := band, tTent := tTent, tSettle := tSettle, tLock := tLock, tDrop := tDrop }

/-- A value set to the nearer end of its range where it lies outside (R44, R164). -/
def adjusted (lo hi n : Nat) : Nat := min hi (max lo n)

/-- The loop item (R75): the loop, its settings and the re-learn flag. -/
def loopFields (i : LoopItem) : Option (LoopSide × LoopSettings × Bool) := do
  let side ← loopSideOf i.loop
  let onThr ← ranged 10 20000 i.onThr.toNat
  let offThr ← ranged 1 19999 i.offThr.toNat
  let limit ← ranged 0 3600 i.limit.toNat
  let relearn ← flagOf i.relearn
  if offThr < onThr then some (side, ⟨onThr, offThr, limit⟩, relearn) else none

/-- The barrier item (R86). -/
def barrierFields (i : BarrierItem) : Option BarrierSettings := do
  let start ← ranged 1 255 i.start.toNat
  let run ← ranged start 255 i.run.toNat
  let step ← ranged 1 255 i.step.toNat
  let travel ← ranged 1 30 i.travel.toNat
  some ⟨start, run, step, travel⟩

/-- The lane policy item (R94). -/
def policyFields (i : PolicyItem) : Option Policy := do
  let direction ← dirModeOf i.direction
  let admitting ← flagOf i.admitting
  let cls ← classOf i.cls
  let stream ← optStreamOf i.stream
  let timeout ← ranged 5 300 i.passTimeout.toNat
  some ⟨direction, admitting, accountOf i.account, cls, stream, timeout⟩

/-- The waiting-list item: the depths and the list age (R97). -/
def listFields (i : ListItem) : Option (Quad Nat × Nat) :=
  let ds := i.depths.map fun b => b.toNat
  if ds.toList.all (fun d => decide (d ≤ 32)) then (ranged 1 255 i.age.toNat).map fun a => (ds, a) else none

/-- The vehicle table item: L and the two ages (R123). -/
def vehicleTableFields (i : VehicleTableItem) : Option (Nat × Nat × Nat) := do
  let l ← ranged 0 512 i.learnLimit.toNat
  let p ← ranged 0 365 i.provAge.toNat
  let t ← ranged 0 8760 i.tareAge.toNat
  if l % 64 = 0 then some (l, p, t) else none

/-- The class item (R131). -/
def classFields (i : ClassItem) : Option (Fin 16 × ClassEntry) := do
  let c ← classOf i.cls
  let parts ← ranged 1 4 i.parts.toNat
  let tare ← ranged 0 150000 i.tare.toNat
  let gross ← ranged 1 150000 i.gross.toNat
  let tolerance ← ranged 0 10000 i.tolerance.toNat
  let learning ← flagOf i.learning
  some (c, ⟨parts, tare, gross, tolerance, learning⟩)

/-- The stream item (R160). -/
def streamFields (i : StreamItem) : Option (Fin 8 × StreamSettings) := do
  let k ← streamOf i.stream
  let capacity ← ranged 0 5000000 i.capacity.toNat
  let state ← openStateOf i.state
  let l1 ← optRanged 1 5000000 i.level1
  let l2 ← optRanged 1 5000000 i.level2
  let l3 ← optRanged 1 5000000 i.level3
  let l4 ← optRanged 1 5000000 i.level4
  if capacity % 500 = 0 then some (k, ⟨capacity, state, ⟨l1, l2, l3, l4⟩⟩) else none

/-- The admission item: the approval timeout, adjusted into its range, and the permit cap (R164). -/
def admissionFields (i : AdmissionItem) : Option (Nat × Option Nat) := do
  let cap ← optRanged 1 Config.tonnageMax i.cap
  some (adjusted 10 600 i.timeout.toNat, cap)

/-- The printer item: the address and the print-before-raise flag (R173). -/
def printerFields (i : PrinterItem) : Option (Option (Fin 8) × Bool) := do
  let address ← optStreamOf i.address
  let first ← flagOf i.printFirst
  some (address, first)

/-- The link item: the reply limit and the link timeout (R195). -/
def linkFields (i : LinkItem) : Option (Nat × Nat) := do
  let limit ← ranged 64 1024 i.replyLimit.toNat
  some (limit, i.timeout.toNat)

/-- The supply item: the warning level (R207). -/
def warnLevelOf (b : Byte) : Option Nat := ranged 19 22 b.toNat

end Sys2Proof.Machine
end

