-- ==== Sys2Proof/Machine/CalRecords.lean ====
section
/-! DEFINITION. The meanings of the calibration records: CAL and ZERO (R43, R56 to R64), and the CAL ENABLE input
(R55). -/

namespace Sys2Proof.Machine

/-- Steps 2 and 4 to 7 of the taking of a CAL record (R56): the first that applies refuses it. -/
def State.calGate (s : State) (n : Lane) : Option ResultCode :=
  if !s.power.calEnable then some .calLocked
  else if s.warning then some .busy
  else if (s.deck n).op.isSome then some .busy
  else if (s.lane n).state ≠ .closed then some .wrongState
  else if Config.counterMax ≤ (s.cal n).counter then some .counterFull
  else none

/-- A CAL record other than ABORT (R56): the gate, then the argument of step 8, then what the subcommand does. -/
def State.calTakes {α β : Type} (b : Body α) (read : α → Option β) (act : β → State × ResultCode) (n : Lane)
    (s : State) : State × ResultCode :=
  match s.calGate n with
  | some code => (s, code)
  | none =>
    match b with
    | .misfit => (s, .badArgument)
    | .item a =>
      match read a with
      | none => (s, .badArgument)
      | some f => act f

/-- An operation is put in flight. -/
def State.startOp (s : State) (n : Lane) (op : CalOp) : State := s.modDeck n fun d => { d with op := some op }

/-- ZERO CAPTURE, past step 8 (R58). -/
def State.zeroStarts (s : State) (n : Lane) : State × ResultCode :=
  if (s.reasons n).onlyUncalibrated then (s.startOp n (.zero 0 none [] 0), .ok) else (s, .wrongState)

/-- SPAN CAPTURE, past step 8 (R60). -/
def State.spanStarts (s : State) (n : Lane) (load : Nat) : State × ResultCode :=
  if (s.cal n).zeroDone && (s.reasons n).onlyUncalibrated then (s.startOp n (.span load 0 none 0), .ok)
  else (s, .wrongState)

/-- Trims with the listed positions replaced (R62). -/
def setTrims (gs : Vector Nat 8) : List (Nat × Nat) → Vector Nat 8
  | [] => gs
  | (i, g) :: rest => setTrims (if h : i < 8 then gs.set i g else gs) rest

/-- TRIM, past step 8 (R62). -/
def State.trims (s : State) (n : Lane) (ps : List (Nat × Nat)) : State × ResultCode :=
  ((s.calSucceeds n .trim fun c => { c with trims := setTrims c.trims ps }).emptyFilter n, .ok)

/-- RANGE, past step 8 (R31, R63). The zero limit as it stands is held until the deck's next sample, and the reading
keeps the range status and the minimum weighing it was made under. -/
def State.ranges (s : State) (n : Lane) (f : Nat × Nat) : State × ResultCode :=
  if f.1 / 5 < (s.cal n).z.natAbs then (s, .limit)
  else
    ((s.calSucceeds n .range fun c => { c with max := f.1, d := f.2 }).modDeck n fun d =>
      { d with heldLimit := some (s.zeroLimitNow n) }, .ok)

/-- ABORT (R56, R64). -/
def State.calAborts (n : Lane) (s : State) : State × ResultCode :=
  if !s.power.calEnable then (s, .calLocked)
  else if (s.deck n).op.isSome then (s.abortOp n .command, .ok)
  else (s, .wrongState)

/-- The reading that a ZERO takes, where its step 2 allows one (R43). -/
def State.zeroable (s : State) (n : Lane) : Option Reading :=
  match (s.deck n).reading with
  | none => none
  | some r =>
    if ((s.lane n).state = .idle ∨ (s.lane n).state = .closed) ∧ s.deckValid n = true ∧ r.range = .normal
        ∧ ((s.deck n).settling.state = .settled ∨ (s.deck n).settling.state = .locked) then some r
    else none

/-- ZERO (R43). -/
def State.zeroes (n : Lane) (s : State) : State × ResultCode :=
  if (s.deck n).op.isSome then (s, .busy)
  else
    match s.zeroable n with
    | none => (s, .wrongState)
    | some r =>
      if ((s.cal n).z + r.f).natAbs ≤ s.zeroBound n then (s.moveZero n ((s.cal n).z + r.f), .ok) else (s, .limit)

/-- The fall of CAL ENABLE aborts every operation in flight (R55, R64). DESIGN CHOICE: CAL_ABORTED is posted lane 1 first
(log 42). -/
def State.calEnableFalls (s : State) : State :=
  let s1 := s.modPower fun p => { p with calEnable := false }
  if s.running then s1.eachLane fun t n => t.abortOp n .enable else s1

/-! ### Meanings -/

/-- ZERO (R43). -/
def execZero (h : RecHead) (s : State) : Host.Outcome State Fault Refusal := .next (s.takeLane h State.zeroes)

/-- CAL ZERO CAPTURE (R58). -/
def execZeroCapture (h : RecHead) (b : Body Unit) (s : State) : Host.Outcome State Fault Refusal :=
  .next (s.takeLane h fun n t => t.calTakes b some (fun _ => t.zeroStarts n) n)

/-- CAL SPAN CAPTURE (R60). -/
def execSpanCapture (h : RecHead) (b : Body (BitVec 32)) (s : State) : Host.Outcome State Fault Refusal :=
  .next (s.takeLane h fun n t => t.calTakes b testLoadOf (t.spanStarts n) n)

/-- CAL TRIM (R62). -/
def execTrim (h : RecHead) (b : Body (List TrimPair)) (s : State) : Host.Outcome State Fault Refusal :=
  .next (s.takeLane h fun n t => t.calTakes b (trimFields (t.deckSettings n).cells) (t.trims n) n)

/-- CAL RANGE (R63). -/
def execRange (h : RecHead) (b : Body RangeItem) (s : State) : Host.Outcome State Fault Refusal :=
  .next (s.takeLane h fun n t => t.calTakes b rangeFields (t.ranges n) n)

/-- CAL ABORT (R64). -/
def execAbort (h : RecHead) (s : State) : Host.Outcome State Fault Refusal := .next (s.takeLane h State.calAborts)

/-- CAL_ENABLE_RISE (R55). -/
def execCalEnableRise (s : State) : Host.Outcome State Fault Refusal :=
  .next (s.modPower fun p => { p with calEnable := true })

/-- CAL_ENABLE_FALL (R64). -/
def execCalEnableFall (s : State) : Host.Outcome State Fault Refusal := .next s.calEnableFalls

end Sys2Proof.Machine
end

