-- ==== Sys2Proof/Machine/Stock.lean ====
section
/-! DEFINITION. Reservations and open visits: stream levels (R161), the numbering, creation and cancellation of a visit
(R141, R148, R152), and its return to ON_SITE (R155, R211). -/

namespace Sys2Proof.Machine

/-- The committed weight of a stream (R160). -/
def committed (t : StreamTotals) : Nat := t.stock + 500 * t.reserved

/-- A level at its place in rising order. -/
def insertLevel (l : Nat) : List Nat → List Nat
  | [] => [l]
  | m :: ms => if l ≤ m then l :: m :: ms else m :: insertLevel l ms

/-- The present alert levels in rising order (R161). -/
def sortedLevels (levels : Quad (Option Nat)) : List Nat :=
  (levels.toList.filterMap id).foldr insertLevel []

/-- The levels a change crosses, each with its direction, in the order their events are posted (R161). -/
def crossedLevels (levels : Quad (Option Nat)) (before after : Nat) : List (Nat × Bool) :=
  let ls := sortedLevels levels
  (ls.filter fun l => decide (before < l) && decide (l ≤ after)).map (·, true)
    ++ (ls.reverse.filter fun l => decide (after < l) && decide (l ≤ before)).map (·, false)

/-- STREAM_LEVEL for each level crossed (R161). -/
def State.postCrossed (s : State) (k : Fin 8) : List (Nat × Bool) → State
  | [] => s
  | (l, up) :: rest => (s.post .streamLevel none (.stream k) (.level l up)).postCrossed k rest

/-- One stream's stock and reserved blocks. -/
def State.streamTotals (s : State) (k : Fin 8) : StreamTotals := s.ret.traffic.streams.get k

/-- One stream's settings. -/
def State.streamSettings (s : State) (k : Fin 8) : StreamSettings := s.ret.settings.streams.get k

/-- Changes one stream's stock and reserved blocks. -/
def Traffic.modStream (t : Traffic) (k : Fin 8) (f : StreamTotals → StreamTotals) : Traffic :=
  { t with streams := t.streams.set k (f (t.streams.get k)) }

/-- The STREAM_LEVEL events of a change of a stream's committed weight from the value given (R161). -/
def State.judgeLevels (s : State) (k : Fin 8) (before : Nat) : State :=
  s.postCrossed k (crossedLevels (s.streamSettings k).levels before (committed (s.streamTotals k)))

/-- The number after a visit number, 65,535 wrapping to 1 (R141). -/
def nextNumber (k : Nat) : Nat := if Config.visitNumberMax ≤ k then 1 else k + 1

/-- The first number upward from the one given that no open visit has (R141). -/
def freeNumber (visits : List Visit) : Nat → Nat → Nat
  | 0, k => k
  | fuel + 1, k => if visits.any (fun v => v.number == k) then freeNumber visits fuel (nextNumber k) else k

/-- The number the next visit takes (R141). -/
def State.nextVisit (s : State) : Nat :=
  freeNumber s.ret.traffic.visits (Config.visitMax + 1) (nextNumber s.ret.traffic.counter)

/-- A visit is created, its number the counter's new value, its reservation taken in the same update (R141, R148). -/
def State.createVisit (s : State) (v : Visit) : State :=
  let before := committed (s.streamTotals v.stream)
  let s1 := s.modTraffic fun t =>
    ({ t with visits := insertVisit v t.visits, counter := v.number }).modStream v.stream fun r =>
      { r with reserved := r.reserved + v.blocks }
  (s1.modAccount v.account fun a => { a with pending := a.pending + v.estimate }).judgeLevels v.stream before

/-- A visit is cancelled: removed, with its blocks and its estimate released in the same update (R134, R152). -/
def State.cancelVisit (s : State) (v : Visit) : State :=
  let before := committed (s.streamTotals v.stream)
  let s1 := s.modTraffic fun t =>
    ({ t with visits := dropVisit v.number t.visits }).modStream v.stream fun r =>
      { r with reserved := r.reserved - v.blocks }
  (s1.modAccount v.account fun a => { a with pending := a.pending - v.estimate }).judgeLevels v.stream before

/-- A visit returned to ON_SITE, with what its exit weighing gave it removed (R155, R156, R211). -/
def returnedVisit (v : Visit) : Visit :=
  { v with
    state := .onSite, exit := none, exitLane := none, net := none
    flags := { v.flags with negativeNet := false, tareDeviation := false, timeUnset := v.entry.unset } }

/-- The entry hold of a visit ends without approval (R152): the visit is cancelled, VEHICLE_REFUSED is posted, the lane's
late number is the visit's, and the lane enters REFUSED. DESIGN CHOICE: the STREAM_LEVEL events of the cancellation stand
before VEHICLE_REFUSED (log 31). -/
def State.endEntryHold (s : State) (v : Visit) (r : Reason) : State :=
  let s1 := (s.cancelVisit v).postRefused v.entryLane v.token r
  (s1.modLane v.entryLane fun l => { l with lateNumber := some v.number }).enterRefused v.entryLane r

/-- The treatment of one open visit at start-up and at RESET LANES (R211). -/
def State.treatVisit (s : State) (v : Visit) : State :=
  match v.state with
  | .heldIn => s.cancelVisit v
  | .entering => s.modVisit v.number fun v => { v with state := .onSite }
  | .onSite => s
  | .heldOut => s.modVisit v.number returnedVisit
  | .overweight => s.modVisit v.number returnedVisit

/-- The open visits treated in number order (R211). -/
def State.treatVisits (s : State) : List Visit → State
  | [] => s
  | v :: vs => (s.treatVisit v).treatVisits vs

/-- The visits that the treatment of R211 counts as unconfirmed entries. -/
def unconfirmedEntries (vs : List Visit) : Nat := (vs.filter fun v => v.state == .entering).length

end Sys2Proof.Machine
end

