-- ==== Sys2Proof/Machine/Admission.lean ====
section
/-! DEFINITION. Who may come in: the resolving of a token (R121, R122), the checks that need no weight (R98, R105), the
approach read (R99), identification (R104), and the admission procedure (R142 to R153). -/

namespace Sys2Proof.Machine

/-- The first reason whose check fails. -/
def firstFailure : List (Bool × Reason) → Option Reason
  | [] => none
  | (failed, r) :: rest => if failed then some r else firstFailure rest

/-- The direction a token is judged by (R95). -/
def State.directionOf (s : State) (t : Token) : Direction := if (s.visitNaming t).isSome then .exit else .entry

/-- A PROVISIONAL entry from a lane's settings (R122). -/
def State.provisionalEntry (s : State) (n : Lane) (t : Token) : Vehicle where
  token := t
  account := (s.laneSettings n).policy.account
  cls := (s.laneSettings n).policy.cls
  kind := .delivery
  stream := (s.laneSettings n).policy.stream
  gross := none
  tare := none
  mask := none
  barred := false
  origin := .provisional
  lastUse := s.now

/-- What a token resolves to (R121): an entry of the table, an entry to be created, or a reason. -/
inductive Resolution where
  | found (v : Vehicle)
  | creates (v : Vehicle)
  | fails (r : Reason)
  deriving DecidableEq, Repr

/-- The resolving of a token at a lane (R121). -/
def State.resolve (s : State) (n : Lane) (t : Token) : Resolution :=
  match s.vehicleOf t with
  | some v => .found v
  | none =>
    if !(s.laneSettings n).policy.admitUnknown then .fails .unknownVehicle
    else if Config.vehicleMax ≤ s.ret.ident.vehicles.length then .fails .tableFull
    else if s.ret.settings.learnLimit ≤ s.ret.ident.provisional then .fails .learnLimit
    else .creates (s.provisionalEntry n t)

/-- A PROVISIONAL entry is put in the table (R122). -/
def State.createEntry (s : State) (v : Vehicle) : State :=
  s.modIdent fun i => { i with vehicles := putVehicle v i.vehicles, provisional := i.provisional + 1 }

/-- The lane mask of an entry includes the lane; an absent mask includes every lane (R143). -/
def maskAllows (v : Vehicle) (n : Lane) : Bool :=
  match v.mask with
  | none => true
  | some m => m.get n

/-- The stream of an admission: the override, the entry's, or the account's default (R144). -/
def State.streamFor (s : State) (v : Vehicle) (override : Option (Fin 8)) : Option (Fin 8) :=
  match override, v.stream with
  | some k, _ => some k
  | none, some k => some k
  | none, none => (s.account v.account).stream

/-- The stream is CLOSED. -/
def State.streamClosed (s : State) (k : Option (Fin 8)) : Bool :=
  match k with
  | none => false
  | some k => decide ((s.streamSettings k).state = .closed)

/-- Item 1 of the admission order (R142). -/
def State.itemOne (s : State) (n : Lane) : Option Reason :=
  firstFailure
    [(s.siteClosed, .siteClosed), (decide ((s.lane n).state = .closed), .laneClosed),
     (decide ((s.laneSettings n).policy.direction = .outward), .wrongDirection)]

/-- Items 2 (the barred flag) to 7 for a resolved entry (R142 to R144). -/
def State.itemsTwoToSeven (s : State) (n : Lane) (v : Vehicle) (override : Option (Fin 8)) : Option Reason :=
  firstFailure
    [(v.barred, .barred), (!maskAllows v n, .laneNotPermitted), ((s.visitNaming v.token).isSome, .visitOpen),
     (decide ((s.account v.account).state ≠ .active), .accountStopped),
     ((s.streamFor v override).isNone, .noStream), (s.streamClosed (s.streamFor v override), .streamClosed),
     (decide (Config.visitMax ≤ s.ret.traffic.visits.length), .siteFull)]

/-- The checks of an EXIT that need no weight (R98). -/
def State.exitChecks (s : State) (n : Lane) (v : Visit) : Option Reason :=
  firstFailure
    [(decide ((s.lane n).state = .closed), .laneClosed),
     (decide ((s.laneSettings n).policy.direction = .inward), .wrongDirection),
     (decide (v.state ≠ .onSite), .wrongState)]

/-- The pre-check of an ENTRY: a CLOSED lane, then items 1 to 7 (R98). -/
def State.entryPrecheck (s : State) (n : Lane) (t : Token) : Option Reason :=
  if (s.lane n).state = .closed then some .laneClosed
  else
    match s.itemOne n with
    | some r => some r
    | none =>
      match s.resolve n t with
      | .fails r => some r
      | .found v => s.itemsTwoToSeven n v none
      | .creates v => s.itemsTwoToSeven n v none

/-- The pre-check of a token joining a list: its result, absent for OK (R98). -/
def State.precheck (s : State) (n : Lane) (t : Token) : Option Reason :=
  match s.visitNaming t with
  | some v => s.exitChecks n v
  | none => s.entryPrecheck n t

/-! ### The waiting lists (R96 to R104) -/

/-- The token stands in a list. -/
def inList (t : Token) (es : List WaitEntry) : Bool := es.any fun e => e.token == t

/-- A list without a token's entry. -/
def dropEntry (t : Token) (es : List WaitEntry) : List WaitEntry := es.filter fun e => e.token != t

/-- A token's entry leaves whichever list has it, without an event. -/
def State.unlist (s : State) (t : Token) : State := { s with lists := s.lists.map (dropEntry t) }

/-- A token joins a lane's list with a pre-check, PRECHECK_FAIL posted for a failure (R98, R99). -/
def State.joinList (s : State) (n : Lane) (t : Token) : State :=
  let r := s.precheck n t
  let s1 := s.modList n fun es => es ++ [⟨t, s.now, 0, s.directionOf t, r⟩]
  match r with
  | none => s1
  | some r => s1.post .precheckFail (some n) (.token t) (.reason r)

/-- An accepted approach read with the site OPEN (R99). -/
def State.approachRead (s : State) (n : Lane) (t : Token) : State :=
  if inList t (s.list n) then s
  else if (s.laneSettings n).depth ≤ (s.list n).length then s.post .queueFull (some n) (.token t) .none
  else (s.unlist t).joinList n t

/-- QUEUE_SKIPPED for each entry passed over (R104). -/
def State.postSkipped (s : State) (n : Lane) : List WaitEntry → State
  | [] => s
  | e :: es => (s.post .queueSkipped (some n) (.token e.token) .none).postSkipped n es

/-- An identified token's place in the waiting lists is settled (R104). -/
def State.settlePlace (s : State) (n : Lane) (t : Token) : State :=
  if inList t (s.list n) then
    let skipped := (s.list n).takeWhile fun e => e.token != t
    (s.modList n fun es => (es.dropWhile fun e => e.token != t).drop 1).postSkipped n skipped
  else s.unlist t

/-! ### Identification (R104, R105) -/

/-- Entry into WEIGHING with its required count; a deck already LOCKED gives its first part at once (R45, R46). -/
def State.enterWeighing (s : State) (n : Lane) (required : Nat) : State :=
  (s.modLane n fun l => { l with state := .weighing, capture := ⟨some required, [], false, none⟩ }).examineCapture n

/-- A check fails: VEHICLE_REFUSED, and the lane enters REFUSED (R105). -/
def State.refuse (s : State) (n : Lane) (t : Token) (r : Reason) : State := (s.postRefused n t r).enterRefused n r

/-- The fresh check of a resolved ENTRY and what follows it (R105). -/
def State.freshEntry (s : State) (n : Lane) (v : Vehicle) (override : Option (Fin 8)) : State :=
  match s.itemsTwoToSeven n v override with
  | some r => s.refuse n v.token r
  | none => s.enterWeighing n (s.cls v.cls).parts

/-- The fresh check of an identified token (R105). -/
def State.freshCheck (s : State) (n : Lane) (t : Token) (override : Option (Fin 8)) : State :=
  match s.visitNaming t with
  | some v =>
    match s.exitChecks n v with
    | some r => s.refuse n t r
    | none => (s.modLane n fun l => { l with visit := some v.number }).enterWeighing n (s.cls v.cls).parts
  | none =>
    match s.itemOne n with
    | some r => s.refuse n t r
    | none =>
      match s.resolve n t with
      | .fails r => s.refuse n t r
      | .found v => s.freshEntry n v override
      | .creates v => (s.createEntry v).freshEntry n v override

/-- An identification acted on (R104, R105): the token's place is settled, the entry's last-use time is set (R122), the
token becomes the current identity, and the checks follow. -/
def State.identify (s : State) (n : Lane) (t : Token) (src : Source) (stream : Option (Fin 8)) (kind : Option Kind) :
    State :=
  let s1 := (s.settlePlace n t).modVehicle t fun v => { v with lastUse := s.now }
  let s2 := s1.modLane n fun l => { l with identity := some ⟨t, s.directionOf t, stream, kind, src⟩ }
  s2.freshCheck n t stream

/-! ### The admission procedure (R142 to R148) -/

/-- What an admitted vehicle's visit is made from (R143 to R148). -/
structure Admitted where
  stream : Fin 8
  kind : Kind
  estimate : Nat
  blocks : Nat
  overweight : Bool
  exceeded : Bool
  approval : Bool
  deriving DecidableEq, Repr

/-- The tare of a delivery's estimate (R127). -/
def State.estimateTare (s : State) (v : Vehicle) : Nat :=
  match v.tare with
  | some t => t.value
  | none => (s.cls v.cls).tare

/-- The plated gross of an entry with the class recorded for the visit (R127). -/
def State.platedGross (s : State) (gross : Option Nat) (c : Fin 16) : Nat := gross.getD (s.cls c).gross

/-- The reserved blocks of all eight streams (R146). -/
def State.totalReserved (s : State) : Nat := (s.ret.traffic.streams.toList.map (·.reserved)).sum

/-- Item 9 fails (R146). -/
def State.overPermit (s : State) (b : Nat) : Bool :=
  match s.ret.settings.permitCap with
  | none => false
  | some cap => decide (cap < s.ret.traffic.accepted + 500 * s.totalReserved + 500 * b)

/-- Consumed, pending and the estimate pass the allowance (R147). -/
def State.overAllowance (s : State) (a : Fin 256) (e : Nat) : Bool :=
  match (s.account a).allowance with
  | none => false
  | some lim => decide (lim < (s.account a).consumed + (s.account a).pending + e)

/-- Item 8 fails (R145). The formula of R145 would refuse a delivery of 0 blocks too where the stream is committed beyond
its capacity, and the sentence after it admits one: the sentence is followed. DESIGN CHOICE (log 40). -/
def State.overCapacity (s : State) (k : Fin 8) (b : Nat) : Bool :=
  let t := s.streamTotals k
  decide (0 < b) && decide ((s.streamSettings k).capacity < t.stock + 500 * (t.reserved + b))

/-- Items 8 to 11, a COLLECTION passing 8 to 10 (R144 to R148). -/
def State.itemsEightToEleven (s : State) (v : Vehicle) (kind : Kind) (k : Fin 8) (e b : Nat) : Option Reason :=
  let d := decide (kind = .delivery)
  firstFailure
    [(d && s.overCapacity k b, .streamCapacity),
     (d && s.overPermit b, .permitCap),
     (d && s.overAllowance v.account e && decide ((s.account v.account).limitKind = .hard), .allowance),
     ((s.account v.account).approval && !s.link.live, .linkLost)]

/-- The admission decision of a resolved entry: items 2 to 11 (R142 to R148). -/
def State.decideEntry (s : State) (n : Lane) (v : Vehicle) (w : Weighing) (i : Identity) : Except Reason Admitted :=
  match s.itemsTwoToSeven n v i.stream, s.streamFor v i.stream with
  | some r, _ => .error r
  | none, none => .error .noStream
  | none, some k =>
    let kind := i.kind.getD v.kind
    let e := if kind = .delivery then w.value - s.estimateTare v else 0
    let b := ceilDiv e 500
    match s.itemsEightToEleven v kind k e b with
    | some r => .error r
    | none =>
      .ok { stream := k, kind := kind, estimate := e, blocks := b,
            overweight := decide (kind = .delivery) && decide (s.platedGross v.gross v.cls < w.value),
            exceeded := decide (kind = .delivery) && s.overAllowance v.account e,
            approval := (s.account v.account).approval }

/-- The visit a decision creates (R148). -/
def admittedVisit (number : Nat) (n : Lane) (v : Vehicle) (w : Weighing) (a : Admitted) : Visit where
  number := number
  token := v.token
  account := v.account
  cls := v.cls
  stream := a.stream
  kind := a.kind
  state := if a.approval then .heldIn else .entering
  entryLane := n
  exitLane := none
  entry := w
  exit := none
  estimate := a.estimate
  blocks := a.blocks
  net := none
  flags := ⟨a.overweight, false, a.exceeded, false, false, w.unset, false⟩
  timer := 0
  approvalDue := false

/-- A vehicle is admitted, or held for approval (R148, R109). -/
def State.letIn (s : State) (n : Lane) (v : Vehicle) (w : Weighing) (a : Admitted) : State :=
  let visit := admittedVisit s.nextVisit n v w a
  let s1 := (s.createVisit visit).modLane n fun l =>
    { l with visit := some visit.number, heldWeighing := none, postponed := false }
  if a.approval then s1.enterHeld n .approval
  else (s1.post .vehicleAdmitted (some n) (.visit visit.number) (.blocks visit.blocks)).letGo n

/-- The decision on an ENTRY, its entry resolved. -/
def State.concludeEntry (s : State) (n : Lane) (v : Vehicle) (w : Weighing) (i : Identity) : State :=
  match s.decideEntry n v w i with
  | .error r => s.refuse n i.token r
  | .ok a => s.letIn n v w a

/-- The admission procedure on a completed weighing (R142). -/
def State.admission (s : State) (n : Lane) (w : Weighing) (i : Identity) : State :=
  match s.resolve n i.token with
  | .fails r => s.refuse n i.token r
  | .found v => s.concludeEntry n v w i
  | .creates v => (s.createEntry v).concludeEntry n v w i

end Sys2Proof.Machine
end

