-- ==== Sys2Proof/Machine/ClockTimers.lean ====
section
/-! DEFINITION. The meanings of the clock family: the one-second advance with everything that counts it (R199), and the
expiries that an advance brings about (R74, R100, R111, R130, R150, R196). -/

namespace Sys2Proof.Machine

/-! ### The advance of one second (R199) -/

/-- Site time advances, and every sixtieth advance calls the minute sweep (R100, R199). -/
def tickedClock (c : Clock) : Clock :=
  if c.sweep + 1 = 60 then { c with siteTime := c.siteTime + 1, sweep := 0, sweepDue := true }
  else { c with siteTime := c.siteTime + 1, sweep := c.sweep + 1 }

/-- The baseline of a FREE loop moves one tick toward the latest P (R73). -/
def trackedBaseline (l : Loop) : Option Nat :=
  match l.condition, l.baseline, l.latest with
  | .free, some b, some p => some (if b < p then b + 1 else if p < b then b - 1 else b)
  | _, b, _ => b

/-- One second at a loop: baseline tracking (R73), the presence timer, and whether LOOP_STUCK has become due (R74). -/
def tickedLoop (limit : Nat) (l : Loop) : Loop :=
  if l.report = .occupied then
    let presence := min (l.presence + 1) 3601
    { l with presence := presence, stuckDue := decide (limit ≠ 0) && decide (limit < presence) && !l.stuck }
  else { l with baseline := trackedBaseline l }

/-- One second at a reader port (R93). -/
def tickedPort (p : ReaderPort) : ReaderPort := { p with lockout := min (p.lockout + 1) 10 }

/-- One second at a lane sequencer: the part age (R50), the pass timer with its expiry (R111), and the flashing lamp
(R88). -/
def tickedLane (l : LaneSeq) : LaneSeq :=
  let c := l.capture
  { l with
    capture := { c with age := if c.parts = [] then c.age else c.age.map (· + 1) }
    passTimer := l.passTimer.map fun t => min (t + 1) 301
    passDue := match l.passTimer with
      | some t => decide (l.passLimit < min (t + 1) 301)
      | none => l.passDue
    flashLit := if l.state = .refused then !l.flashLit else l.flashLit }

/-- One second of a visit's approval timer (R150). -/
def tickedVisit (timeout : Nat) (v : Visit) : Visit :=
  if v.state = .heldIn then
    { v with timer := min (v.timer + 1) 601, approvalDue := decide (timeout < min (v.timer + 1) 601) }
  else v

/-- One second of the link supervision (R196). -/
def tickedLink (timeout : Nat) (p : LinkPort) : LinkPort :=
  let count := min (p.silence + 1) 256
  { p with silence := count, lostDue := p.live && decide (timeout ≠ 0) && decide (timeout < count) }

/-- One second at a lane: a zero tracking step (R41) and everything that counts seconds there. -/
def State.tickLane (s : State) (n : Lane) : State :=
  ((((s.trackZero n).modLoops n fun p =>
      { entry := tickedLoop (s.laneSettings n).entryLoop.limit p.entry
        clear := tickedLoop (s.laneSettings n).clearLoop.limit p.clear }).modReaders n fun p =>
      { approach := tickedPort p.approach, deck := tickedPort p.deck }).modList n fun es =>
      es.map fun e => { e with age := e.age + 1 }).modLane n tickedLane

/-- Site time advances by one second (R199). DESIGN CHOICE: the decks track their zeros, and post ZERO_LIMIT, deck 1 first
(log 42). -/
def State.advance (s : State) : State :=
  let s1 := s.modClock tickedClock
  let s2 := s1.modTraffic fun t =>
    { t with visits := t.visits.map (tickedVisit s.ret.settings.approvalTimeout), lastTime := s.clock.siteTime + 1 }
  (s2.eachLane State.tickLane).modLink (tickedLink s.ret.settings.linkTimeout)

/-! ### Expiries -/

/-- LOOP_STUCK, where the last advance called it (R74). -/
def State.stuckExpires (s : State) (n : Lane) (side : LoopSide) : State :=
  if (s.loop n side).stuckDue then
    (s.modLoop n side fun l => { l with stuck := true, stuckDue := false }).post .loopStuck (some n) .none
      (.stuck side (s.loopSettings n side).limit)
  else s

/-- An approval timeout, where the last advance called it (R150). -/
def State.approvalExpires (s : State) (k : Nat) : State :=
  match s.visitNumbered k with
  | none => s
  | some v => if v.state = .heldIn ∧ v.approvalDue = true then s.endEntryHold v .approvalTimeout else s

/-- PASS_TIMEOUT at a lane: the visit is cancelled, and the lane enters REFUSED (R111). DESIGN CHOICE: the STREAM_LEVEL
events of the cancellation stand before PASS_TIMEOUT (log 31). -/
def State.passEnds (s : State) (n : Lane) (v : Visit) : State :=
  ((s.cancelVisit v).post .passTimeout (some n) (.visit v.number) (.token v.token)).enterRefused n .passTimeout

/-- A pass timeout, where the last advance called it (R111). -/
def State.passExpires (s : State) (n : Lane) : State :=
  match (s.lane n).visit.bind s.visitNumbered with
  | none => s
  | some v => if (s.lane n).state = .passing ∧ (s.lane n).passDue = true then s.passEnds n v else s

/-- QUEUE_EXPIRED for each entry removed (R100). -/
def State.postExpired (s : State) (n : Lane) : List WaitEntry → State
  | [] => s
  | e :: es => (s.post .queueExpired (some n) (.token e.token) .none).postExpired n es

/-- The sweep of one lane's list (R100). -/
def State.sweepList (s : State) (n : Lane) : State :=
  let old (e : WaitEntry) : Bool := decide (s.ret.settings.listAge * 60 < e.age)
  (s.modList n fun es => es.filter fun e => !old e).postExpired n ((s.list n).filter old)

/-- A PROVISIONAL entry that has expired and is free (R130, case 1). -/
def State.entryExpired (s : State) (v : Vehicle) : Bool :=
  decide (s.ret.settings.provAge ≠ 0) && decide (v.origin = .provisional)
    && decide (86400 * s.ret.settings.provAge < elapsed v.lastUse s.now) && (s.visitNaming v.token).isNone
    && !s.isIdentity v.token

/-- The learned tare that has expired, where one has (R130, case 2). -/
def State.tareExpired (s : State) (v : Vehicle) : Option Nat :=
  match v.tare with
  | none => none
  | some t =>
    if s.ret.settings.tareAge ≠ 0 ∧ t.origin = .learned ∧ 3600 * s.ret.settings.tareAge < elapsed t.setTime s.now then
      some t.value
    else none

/-- The sweep at one vehicle entry (R130). -/
def State.sweepVehicle (s : State) (v : Vehicle) : State :=
  if s.entryExpired v then
    (s.modIdent fun i =>
      { i with vehicles := dropVehicle v.token i.vehicles, provisional := i.provisional - 1 }).post .entryExpired none
      (.token v.token) (.days (elapsed v.lastUse s.now / 86400))
  else
    match s.tareExpired v with
    | none => s
    | some kg =>
      (s.modVehicle v.token fun e => { e with tare := none }).post .tareExpired none (.token v.token) (.weight kg)

/-- The sweep of the vehicle table in token order (R130). -/
def State.sweepVehicles (s : State) : List Vehicle → State
  | [] => s
  | v :: vs => (s.sweepVehicle v).sweepVehicles vs

/-- The minute sweep, where the last advance called it: the waiting lists, lane 1 first, and the vehicle table
(R100, R130). -/
def State.minuteSweeps (s : State) : State :=
  if s.clock.sweepDue then
    let s1 := (s.modClock fun c => { c with sweepDue := false }).eachLane State.sweepList
    s1.sweepVehicles s1.ret.ident.vehicles
  else s

/-- Every HELD_IN visit of a list is cancelled for link loss (R151). -/
def State.cancelHeld (s : State) : List Visit → State
  | [] => s
  | v :: vs => (if v.state = .heldIn then s.endEntryHold v .linkLost else s).cancelHeld vs

/-- The link is lost, where the last advance called it (R151, R196). -/
def State.linkExpires (s : State) : State :=
  if s.link.lostDue && s.link.live then
    let s1 := (s.modLink fun p => { p with live := false, lostDue := false }).post .linkLost none .none .none
    s1.cancelHeld s.ret.traffic.visits
  else s

/-! ### Meanings -/

/-- SITE_TIME_ADVANCE (R199). -/
def execSiteTimeAdvance (s : State) : Host.Outcome State Fault Refusal := .next (s.whileRunning s.advance)

/-- LOOP_STUCK (R74). -/
def execLoopStuck (n : Lane) (side : LoopSide) (s : State) : Host.Outcome State Fault Refusal :=
  .next (s.whileRunning (s.stuckExpires n side))

/-- APPROVAL_TIMEOUT (R150). -/
def execApprovalTimeout (visit : Nat) (s : State) : Host.Outcome State Fault Refusal :=
  .next (s.whileRunning (s.approvalExpires visit))

/-- PASS_TIMEOUT (R111). -/
def execPassTimeout (n : Lane) (s : State) : Host.Outcome State Fault Refusal := .next (s.whileRunning (s.passExpires n))

/-- MINUTE_SWEEP (R100). -/
def execMinuteSweep (s : State) : Host.Outcome State Fault Refusal := .next (s.whileRunning s.minuteSweeps)

/-- LINK_LOST (R196). -/
def execLinkLost (s : State) : Host.Outcome State Fault Refusal := .next (s.whileRunning s.linkExpires)

end Sys2Proof.Machine
end

