-- ==== Sys2Proof/Machine/TicketText.lean ====
section
/-! DEFINITION. The ticket as printed: the eighteen lines of R178, and the nineteen write transfers of R177. -/

namespace Sys2Proof.Machine

/-- The characters of a line in a fixed number of places, filled with spaces. -/
def fitted (width : Nat) (cs : List Char) : List Char := (cs ++ List.replicate width ' ').take width

/-- The decimal digit of a value below 10. -/
def digit (n : Nat) : Char := Char.ofNat (48 + n % 10)

/-- A number in decimal with leading zeros (R178). -/
def zeroPadded : Nat → Nat → List Char
  | 0, _ => []
  | w + 1, n => zeroPadded w (n / 10) ++ [digit n]

/-- A number in decimal, right-aligned and padded with spaces on the left (R178). -/
def decimal : Nat → Nat → List Char
  | 0, _ => []
  | w + 1, n => (if n / 10 = 0 then List.replicate w ' ' else decimal w (n / 10)) ++ [digit n]

/-- A hexadecimal digit with the capital letters (R178). -/
def hexDigit (n : Nat) : Char := if n % 16 < 10 then Char.ofNat (48 + n % 16) else Char.ofNat (55 + n % 16)

/-- A number as so many hexadecimal digits. -/
def hexadecimal : Nat → Nat → List Char
  | 0, _ => []
  | w + 1, n => hexadecimal w (n / 16) ++ [hexDigit n]

/-- The items of a line, each separated from the next by one space (R178). -/
def spaced : List (List Char) → List Char
  | [] => []
  | [a] => a
  | a :: as => a ++ ' ' :: spaced as

/-- The day of a site time (R178). -/
def dayText (t : SiteTime) : List Char := decimal 5 (t.toNat / 86400)

/-- The time of day of a site time (R178). -/
def clockText (t : SiteTime) : List Char :=
  let r := t.toNat % 86400
  zeroPadded 2 (r / 3600) ++ ':' :: zeroPadded 2 (r % 3600 / 60) ++ ':' :: zeroPadded 2 (r % 60)

/-- Line 1 (R178): a copy's number stands in characters 25 to 32. -/
def titleLine (copy : Bool) (t : Ticket) : List Char :=
  if copy then fitted 24 "WEIGHT TICKET".toList ++ spaced ["COPY".toList, decimal 3 (t.copies + 1)]
  else "WEIGHT TICKET".toList

/-- A weighing's line, 7 or 12 (R178). -/
def weighingLine (label : List Char) (w : Weighing) : List Char :=
  spaced [label, "WT".toList, decimal 6 w.value, dayText w.time, clockText w.time]

/-- A part's line, or nothing where the weighing does not have the part (R178). -/
def partLine (k : Nat) (w : Weighing) : List Char :=
  match w.parts[k]? with
  | none => []
  | some p =>
    spaced ["P".toList, decimal 1 (k + 1), decimal 6 p.value, "D".toList, decimal 1 p.deck.number, "C".toList,
      decimal 5 p.counter, clockText p.time]

/-- The codes of the flags carried, in the order of line 18 (R178). -/
def flagCodes (f : VisitFlags) : List (List Char) :=
  ([(f.overweightIn, "OI"), (f.tareDeviation, "TD"), (f.allowanceExceeded, "AE"), (f.negativeNet, "NN"),
    (f.stockUnderrun, "SU"), (f.timeUnset, "TU"), (f.approvedIn, "AP")].filter (·.1)).map (·.2.toList)

/-- Line 18 (R178). -/
def flagsLine (f : VisitFlags) : List Char :=
  spaced ("FLAGS".toList :: (if flagCodes f = [] then ["NONE".toList] else flagCodes f))

/-- The kind as printed. -/
def kindText : Kind → List Char
  | .delivery => "DELIVERY".toList
  | .collection => "COLLECTION".toList

/-- The text of a line, numbered from 1, before it is filled with spaces (R178). -/
def lineText (copy : Bool) (t : Ticket) : Nat → List Char
  | 1 => titleLine copy t
  | 2 => spaced ["TICKET".toList, decimal 6 t.number, "VISIT".toList, decimal 5 t.visit]
  | 3 => spaced ["ISSUED".toList, dayText t.issued, clockText t.issued]
  | 4 => spaced ["VEHICLE".toList, hexadecimal 16 t.token.toNat]
  | 5 => spaced ["ACC".toList, decimal 3 t.account.val, "CL".toList, decimal 2 t.cls.val, kindText t.kind]
  | 6 =>
    spaced ["STREAM".toList, decimal 1 (t.stream.val + 1), "IN".toList, decimal 1 t.entry.lane.number, "OUT".toList,
      decimal 1 t.exit.lane.number]
  | 7 => weighingLine "IN".toList t.entry
  | 8 => partLine 0 t.entry
  | 9 => partLine 1 t.entry
  | 10 => partLine 2 t.entry
  | 11 => partLine 3 t.entry
  | 12 => weighingLine "OUT".toList t.exit
  | 13 => partLine 0 t.exit
  | 14 => partLine 1 t.exit
  | 15 => partLine 2 t.exit
  | 16 => partLine 3 t.exit
  | 17 => spaced ["NET".toList, decimal 6 t.net]
  | 18 => flagsLine t.flags
  | _ => []

/-- The 32 characters of a line as ASCII bytes, first character first (R178). -/
def lineBytes (copy : Bool) (t : Ticket) (k : Nat) : List Byte :=
  (fitted 32 (lineText copy t k)).map fun c => BitVec.ofNat 8 c.toNat

/-- The first byte of a write transfer to an address (R206). -/
def writeByte (address : Fin 8) : Byte := BitVec.ofNat 8 (2 * (address.val + 1))

/-- The first byte of a read transfer from an address (R206). -/
def readByte (address : Fin 8) : Byte := BitVec.ofNat 8 (2 * (address.val + 1) + 1)

/-- A job's write transfer after so many completed (R177): a line number and its characters, and line number 0 last. -/
def transferOf (copy : Bool) (address : Fin 8) (t : Ticket) (completed : Nat) : BusTransfer where
  first := writeByte address
  data :=
    if completed < 18 then BitVec.ofNat 8 (completed + 1) :: lineBytes copy t (completed + 1) else [0]

end Sys2Proof.Machine
end

