-- ==== Sys2Proof/Machine/Printing.lean ====
section
/-! DEFINITION. The printer bus controller: the print queue and the bus arbiter (R174, R176), the end of a job (R180),
and the print hold it may release (R181). -/

namespace Sys2Proof.Machine

/-- A job that holds the bus (R176). -/
def holdsBus (j : PrintJob) : Bool :=
  match j.state with
  | .queued => false
  | .sending _ => true
  | .printing _ => true

/-- The first QUEUED job enters SENDING. -/
def grantFirst : List PrintJob → List PrintJob
  | [] => []
  | j :: js => if j.state = .queued then { j with state := .sending 0 } :: js else j :: grantFirst js

/-- The free bus is given to the oldest QUEUED job (R176). -/
def granted (js : List PrintJob) : List PrintJob := if js.any holdsBus then js else grantFirst js

/-- A job is appended QUEUED, and the free bus is granted (R174, R176). -/
def State.queueJob (s : State) (ticket : Nat) (lane : Lane) (address : Fin 8) (copy : Bool) : State :=
  s.modPrinting fun p => { p with queue := granted (p.queue ++ [⟨ticket, lane, address, copy, .queued⟩]) }

/-- The queue holds a close job for a lane (R174). -/
def State.closeJobFor (s : State) (n : Lane) : Bool := s.printing.queue.any fun j => j.lane == n && !j.copy

/-- The job that holds the bus, where one does. -/
def State.busJob (s : State) : Option PrintJob := s.printing.queue.find? holdsBus

/-- How a job ends (R168, R179). -/
inductive JobEnd where
  | done
  | failed (r : PrintFailure)
  deriving DecidableEq, Repr

/-- A ticket's print fields after a job of it has ended (R180). -/
def endedTicket (copy : Bool) (e : JobEnd) (t : Ticket) : Ticket :=
  match e, copy with
  | .done, false => { t with print := .printed, failure := none }
  | .done, true => { t with print := .printed, failure := none, copies := min (t.copies + 1) 255 }
  | .failed r, false => if t.print = .printed then t else { t with print := .failed, failure := some r }
  | .failed _, true => t

/-- A lane held for a ticket's print is let go, its held ticket cleared (R181). -/
def State.releaseHold (s : State) (ticket : Nat) (n : Lane) : State :=
  if (s.lane n).state = .held .print ∧ (s.lane n).heldTicket = some ticket then
    (s.modLane n fun l => { l with heldTicket := none }).letGo n
  else s

/-- The job that holds the bus ends (R176, R180, R181): it leaves the queue, the bus passes on, the ticket takes the
outcome, the event is posted, and a job that ends DONE releases a lane held for its ticket. -/
def State.endJob (s : State) (j : PrintJob) (e : JobEnd) : State :=
  let s1 := s.modPrinting fun p => { p with queue := granted (p.queue.filter fun q => !holdsBus q) }
  let s2 := s1.modTicket j.ticket (endedTicket j.copy e)
  match e with
  | .done =>
    (s2.post .printDone (some j.lane) (.ticket j.ticket) (.copyMark j.copy)).eachLane fun t n =>
      t.releaseHold j.ticket n
  | .failed r => s2.post .printFailed (some j.lane) (.ticket j.ticket) (.jobFailed j.copy r)

/-- The job that holds the bus takes a new state. -/
def State.setBusJob (s : State) (st : JobState) : State :=
  s.modPrinting fun p => { p with queue := p.queue.map fun q => if holdsBus q then { q with state := st } else q }

/-- A write transfer of the job in SENDING, acknowledged throughout or not (R177). DESIGN CHOICE: a transfer that is not
acknowledged is kept whole as the last one (log 25). -/
def State.transferEnds (s : State) (j : PrintJob) (completed : Nat) (acked : Bool) : State :=
  let s1 := s.modPrinting fun p =>
    { p with lastTransfer := match s.ticketNumbered j.ticket with
        | some t => some (transferOf j.copy j.address t completed)
        | none => p.lastTransfer }
  if acked then
    if completed + 1 < 19 then s1.setBusJob (.sending (completed + 1)) else s1.setBusJob (.printing 0)
  else s1.endJob j (.failed .noAnswer)

/-- What a status byte says of the job (R179, R206): its end, or nothing where it stays PRINTING. -/
def statusEnd (b : Byte) : Option JobEnd :=
  match b.toNat with
  | 1 => some .done
  | 3 => some (.failed .paperOut)
  | 4 => some (.failed .headFault)
  | _ => none

/-- The read transfer of a status read (R179, R206), with the status byte where the printer gives one. -/
def statusTransfer (address : Fin 8) (r : StatusRead) : BusTransfer where
  first := readByte address
  data :=
    match r with
    | .noAck => []
    | .byte b => [b]

/-- A status read of the job in PRINTING (R179, R182). -/
def State.statusReads (s : State) (j : PrintJob) (reads : Nat) (r : StatusRead) : State :=
  let s0 := s.modPrinting fun p => { p with lastTransfer := some (statusTransfer j.address r) }
  match r with
  | .noAck => s0.endJob j (.failed .noAnswer)
  | .byte b =>
    let s1 := s0.modPrinting fun p => { p with lastStatus := p.lastStatus.set j.address (some (b, s.now)) }
    match statusEnd b with
    | some e => s1.endJob j e
    | none => s1.setBusJob (.printing (reads + 1))

/-- The ticket's first print fields are set and its close job is queued, by the first case that applies (R174). -/
def State.queueCloseJob (s : State) (n : Lane) (ticket : Nat) : State :=
  match (s.laneSettings n).printer with
  | none => s.modTicket ticket fun t => { t with print := .none, failure := none, copies := 0 }
  | some a =>
    if s.closeJobFor n then
      (s.modTicket ticket fun t => { t with print := .failed, failure := some .laneBusy, copies := 0 }).post .printFailed
        (some n) (.ticket ticket) (.notQueued .laneBusy)
    else (s.modTicket ticket fun t => { t with print := .queued, failure := none, copies := 0 }).queueJob ticket n a false

end Sys2Proof.Machine
end

