-- ==== Sys2Proof/Machine/Closing.lean ====
section
/-! DEFINITION. The close of a visit (R159), with the learning of a tare (R128), the numbering of its ticket (R169) and
the print hold (R181); the exit procedure that comes to it (R154 to R158); and when a close that waits is made (R158). -/

namespace Sys2Proof.Machine

/-- The number after a ticket number, 999,999 wrapping to 1 (R169). -/
def nextTicket (k : Nat) : Nat := if Config.ticketMax ≤ k then 1 else k + 1

/-- A visit's net, and its exit weighing; a visit that awaits its close has both (R154). -/
def closedNet (v : Visit) : Nat := v.net.getD 0
def closedExit (v : Visit) : Weighing := v.exit.getD v.entry

/-- The totals of a stream after the close of a visit (R159, items 1 and 2). -/
def closedTotals (v : Visit) (t : StreamTotals) : StreamTotals :=
  match v.kind with
  | .delivery =>
    { stock := min (t.stock + closedNet v) Config.tonnageMax, reserved := t.reserved - v.blocks }
  | .collection => { t with stock := t.stock - closedNet v }

/-- An account after the close of a visit (R134). -/
def closedAccount (v : Visit) (a : Account) : Account :=
  match v.kind with
  | .delivery =>
    { a with pending := a.pending - v.estimate, consumed := min (a.consumed + closedNet v) Config.tonnageMax }
  | .collection => a

/-- The tonnage accepted today after the close of a visit (R159, R163). -/
def closedAccepted (v : Visit) (accepted : Nat) : Nat :=
  match v.kind with
  | .delivery => min (accepted + closedNet v) Config.tonnageMax
  | .collection => accepted

/-- The flags of a closing visit's ticket (R159, R168). -/
def State.closedFlags (s : State) (v : Visit) : VisitFlags :=
  { v.flags with
    stockUnderrun := decide (v.kind = .collection) && decide ((s.streamTotals v.stream).stock < closedNet v)
    timeUnset := v.flags.timeUnset || s.clock.unset }

/-- The ticket of a closing visit, before its first print fields (R168). -/
def State.ticketFor (s : State) (v : Visit) : Ticket where
  number := s.ret.tickets.counter
  visit := v.number
  issued := s.now
  kind := v.kind
  token := v.token
  account := v.account
  cls := v.cls
  stream := v.stream
  entry := v.entry
  exit := closedExit v
  net := closedNet v
  flags := s.closedFlags v
  print := .none
  failure := none
  copies := 0

/-- The empty weighing of a closing visit (R128). -/
def emptyWeighing (v : Visit) : Weighing :=
  match v.kind with
  | .delivery => closedExit v
  | .collection => v.entry

/-- A stored tare that learning may replace (R128). -/
def learnable (t : Option Tare) : Bool :=
  match t with
  | none => true
  | some t => decide (t.origin = .learned)

/-- The value learned at the close of a visit, where one is (R128). -/
def State.learnedTare (s : State) (v : Visit) : Option Nat :=
  match s.vehicleOf v.token with
  | none => none
  | some e =>
    if (s.cls v.cls).learning && learnable e.tare && !v.flags.tareDeviation then some (emptyWeighing v).value else none

/-- A tare is learned into the entry (R128). -/
def State.storeTare (s : State) (t : Token) (kg : Option Nat) : State :=
  match kg with
  | none => s
  | some k => s.modVehicle t fun e => { e with tare := some ⟨k, .learned, s.now⟩ }

/-- TARE_LEARNED is posted when a tare was learned (R159). -/
def State.postLearned (s : State) (t : Token) (kg : Option Nat) : State :=
  match kg with
  | none => s
  | some k => s.post .tareLearned none (.token t) (.weight k)

/-- The one retained update of the close (R159). -/
def State.closeUpdate (s : State) (v : Visit) : State :=
  let s1 := s.modTraffic fun t =>
    { (t.modStream v.stream (closedTotals v)) with
      visits := dropVisit v.number t.visits, accepted := closedAccepted v t.accepted }
  let s2 := (s1.modAccount v.account (closedAccount v)).modTickets fun j =>
    { journal := j.journal ++ [s.ticketFor v], counter := nextTicket j.counter }
  s2.storeTare v.token (s.learnedTare v)

/-- The lane's print-before-raise hold applies (R181). -/
def State.printHolds (s : State) (n : Lane) : Bool :=
  (s.laneSettings n).printFirst && (s.laneSettings n).printer.isSome

/-- The visit a lane handles is closed (R159): the update, its events in their order, the print job, and the lane's
answer. -/
def State.closeVisit (s : State) (n : Lane) (v : Visit) : State :=
  let k := s.ret.tickets.counter
  let s1 := (s.closeUpdate v).judgeLevels v.stream (committed (s.streamTotals v.stream))
  let s2 := ((s1.postLearned v.token (s.learnedTare v)).post .visitClosed (some n) (.visit v.number) (.ticket k))
  let s3 := s2.queueCloseJob n k
  let s4 := { s3 with journalOrder := s3.journalOrder.filter fun m => m != n }
  if s4.printHolds n then (s4.modLane n fun l => { l with heldTicket := some k }).enterHeld n .print else s4.letGo n

/-- The open visit a lane handles. -/
def State.laneVisit (s : State) (n : Lane) : Option Visit := (s.lane n).visit.bind s.visitNumbered

/-! ### The exit procedure (R154 to R158) -/

/-- The net of a visit with its exit weighing, and whether it was set to 0 (R154). -/
def exitNet (kind : Kind) (entry exit : Nat) : Nat × Bool :=
  match kind with
  | .delivery => (entry - exit, decide (entry < exit))
  | .collection => (exit - entry, decide (exit < entry))

/-- The visit with its exit weighing attached (R154). -/
def attachedVisit (n : Lane) (w : Weighing) (v : Visit) : Visit :=
  let net := exitNet v.kind v.entry.value w.value
  { v with
    state := .heldOut, exitLane := some n, exit := some w, net := some net.1
    flags := { v.flags with negativeNet := net.2, timeUnset := v.flags.timeUnset || w.unset } }

/-- The tare deviation check of a delivery's exit (R127, R155). -/
def State.tareDeviates (s : State) (v : Visit) (w : Weighing) : Bool :=
  match v.kind, (s.vehicleOf v.token).bind (·.tare) with
  | .delivery, some t => decide ((s.cls v.cls).tolerance < ((w.value : Int) - t.value).natAbs)
  | _, _ => false

/-- A collection's exit weighing exceeds its plated gross (R127, R155). -/
def State.overPlated (s : State) (v : Visit) (w : Weighing) : Bool :=
  decide (v.kind = .collection)
    && decide (s.platedGross ((s.vehicleOf v.token).bind (·.gross)) v.cls < w.value)

/-- The journal check before a close (R158): with 128 tickets the lane is held and JOURNAL_FULL is posted, and otherwise
the visit is closed at once. DESIGN CHOICE: JOURNAL_FULL is posted before HELD (log 14). -/
def State.journalCheck (s : State) (n : Lane) (v : Visit) : State :=
  if s.journalFull then
    { ((s.post .journalFull (some n) (.visit v.number) .none).enterHeld n .journal) with
      journalOrder := s.journalOrder ++ [n] }
  else s.closeVisit n v

/-- The visit that the exit procedure carries on to the approval and the journal (R154, R155). -/
def State.leavingVisit (s : State) (n : Lane) (w : Weighing) (v : Visit) : Visit :=
  let u := attachedVisit n w v
  { u with flags := { u.flags with tareDeviation := u.flags.tareDeviation || s.tareDeviates v w } }

/-- The exit procedure on an ON_SITE visit (R154 to R158). DESIGN CHOICE: OVERWEIGHT_OUT is posted before HELD (log 14). -/
def State.attachExit (s : State) (n : Lane) (w : Weighing) (v : Visit) : State :=
  let s1 := s.modLane n fun l => { l with heldWeighing := none, postponed := false }
  if s.overPlated v w then
    ((s1.modVisit v.number fun u => { attachedVisit n w u with state := .overweight }).post .overweightOut (some n)
      (.visit v.number) (.weight w.value)).enterHeld n .overweight
  else
    let s2 := s1.modVisit v.number (s.leavingVisit n w)
    if (s.account v.account).approval then s2.enterHeld n .approval else s2.journalCheck n (s.leavingVisit n w v)

/-- The exit procedure on a completed weighing (R154). -/
def State.exitDecision (s : State) (n : Lane) (w : Weighing) (i : Identity) : State :=
  match (s.lane n).visit.bind s.visitNumbered with
  | none => s.refuse n i.token .noVisit
  | some v =>
    if v.token ≠ i.token then s.refuse n i.token .noVisit
    else if v.state ≠ .onSite then s.refuse n i.token .wrongState
    else s.attachExit n w v

/-- The completed weighing of a WEIGHING lane whose decision is due, with the identity judged in a direction (R107). -/
def State.dueDecision (s : State) (n : Lane) (d : Direction) : Option (Weighing × Identity) :=
  let l := s.lane n
  match l.heldWeighing, l.identity with
  | some w, some i => if l.state = .weighing ∧ l.postponed = false ∧ i.direction = d then some (w, i) else none
  | _, _ => none

/-! ### When a close is made (R158) -/

/-- A close that waits for the journal may be made: it is the earliest held, and the supply is not in WARNING (R158,
R208). -/
def State.journalTurn (s : State) (n : Lane) : Bool :=
  decide ((s.lane n).state = .held .journal) && decide (s.journalOrder.head? = some n) && !s.warning

/-- The close of a lane held for the journal is made, where its turn has come and there is room (R158). -/
def State.heldClose (s : State) (n : Lane) : State :=
  match s.laneVisit n with
  | none => s
  | some v => if v.state = .heldOut ∧ s.journalTurn n = true ∧ s.journalFull = false then s.closeVisit n v else s

/-- The closes that wait for the journal are made by themselves, in the order in which their lanes were held, each taken
whole and finding the journal as the ones before it left it (R158, R171). -/
def State.heldCloses (s : State) : State := s.journalOrder.foldl State.heldClose s

/-- The exit procedure on this visit comes to its close: nothing of R155, R157 and R158 holds the lane. -/
def State.closesAtOnce (s : State) (i : Identity) (w : Weighing) (v : Visit) : Bool :=
  decide (v.token = i.token) && decide (v.state = .onSite) && !s.overPlated v w && !(s.account v.account).approval
    && !s.journalFull && !s.warning

/-- The close that is due at a lane (R158, R159): that of the exit procedure on its completed weighing, where it comes to
a close, or the one its hold for the journal waits for. DESIGN CHOICE: a CLOSE taken for itself makes such a close, with
the exit procedure that comes to it (log 4). -/
def State.takeClose (s : State) (n : Lane) : State :=
  match s.dueDecision n .exit, s.laneVisit n with
  | some (w, i), some v => if s.closesAtOnce i w v then s.attachExit n w v else s
  | some _, none => s
  | none, _ => s.heldClose n

end Sys2Proof.Machine
end

