-- ==== Sys2Proof/Machine/Decisions.lean ====
section
/-! DEFINITION. The meanings of the decision family: the admission procedure, the exit procedure and the close
(R107, R142, R154, R159). -/

namespace Sys2Proof.Machine

/-- The decision on a lane's completed weighing is called (R107). DESIGN CHOICE: a call that finds the supply in WARNING
postpones it, as for a weighing completed in WARNING (R108; log 4). -/
def State.decides (s : State) (n : Lane) (d : Direction) (decision : Weighing → Identity → State) : State :=
  match s.dueDecision n d with
  | none => s
  | some (w, i) => if s.warning then s.modLane n fun l => { l with postponed := true } else decision w i

/-- ADMISSION_PROCEDURE (R142). -/
def execAdmissionProcedure (n : Lane) (s : State) : Host.Outcome State Fault Refusal :=
  .next (s.whileRunning (s.decides n .entry (s.admission n)))

/-- EXIT_PROCEDURE (R154). -/
def execExitProcedure (n : Lane) (s : State) : Host.Outcome State Fault Refusal :=
  .next (s.whileRunning (s.decides n .exit (s.exitDecision n)))

/-- CLOSE (R159). -/
def execClose (n : Lane) (s : State) : Host.Outcome State Fault Refusal := .next (s.whileRunning (s.takeClose n))

end Sys2Proof.Machine
end

