-- ==== Sys2Proof/Machine/YardBarriers.lean ====
section
/-! DEFINITION. The meanings of the barrier family: limit switches, the motor-current comparator, the ramp and the timed
ends of a motion (R78 to R84). -/

namespace Sys2Proof.Machine

/-- The barrier is in FAULT, for whatever reason. -/
def isFault : BarrierState → Bool
  | .fault _ => true
  | _ => false

/-- One limit switch's level. -/
def setSwitch (side : SwitchSide) (active : Bool) (b : Barrier) : Barrier :=
  match side with
  | .down => { b with downSwitch := active }
  | .up => { b with upSwitch := active }

/-- One limit switch's level as held. -/
def switchLevel (side : SwitchSide) (b : Barrier) : Bool :=
  match side with
  | .down => b.downSwitch
  | .up => b.upSwitch

/-- What a switch that has just changed, the other not active with it, does to a barrier (R80). -/
def State.switchActs (s : State) (n : Lane) (side : SwitchSide) (active : Bool) : State :=
  match (s.barrier n).state, side, active with
  | .raising, .up, true => s.barrierRests n .up
  | .raising, .down, true => s.enterFault n .switch
  | .lowering, .down, true => (s.modBarrier n fun b => { b with obstructions := 0 }).barrierRests n .down
  | .lowering, .up, true => s.enterFault n .switch
  | .down, .down, false => s.barrierRests n .unknown
  | .up, .up, false => s.barrierRests n .unknown
  | _, _, _ => s

/-- A limit switch changes (R80, R82). -/
def State.switchChanges (s : State) (n : Lane) (side : SwitchSide) (active : Bool) : State :=
  if switchLevel side (s.barrier n) = active then s
  else
    let s1 := s.modBarrier n (setSwitch side active)
    if (s1.barrier n).downSwitch && (s1.barrier n).upSwitch then
      if isFault (s1.barrier n).state then s1 else s1.enterFault n .switch
    else s1.switchActs n side active

/-- An obstruction of a lowering (R83, R84). -/
def State.obstructed (s : State) (n : Lane) : State :=
  let count := (s.barrier n).obstructions + 1
  let s1 := (s.modBarrier n fun b => { b with obstructions := count }).post .barrierObstructed (some n) .none
    (.obstructions count)
  if count < 3 then s1.reverse n else s1.enterFault n .obstruction

/-- A trip taken in a motion after its first 200 ms (R83). -/
def State.tripInMotion (s : State) (n : Lane) : State :=
  match (s.barrier n).state with
  | .lowering => s.obstructed n
  | .raising => s.enterFault n .stall
  | _ => s

/-- The comparator trips (R83). -/
def State.comparatorTrips (s : State) (n : Lane) : State :=
  let b := s.barrier n
  let s1 := s.modBarrier n fun b => { b with comparator := true }
  match b.state with
  | .reversing => if b.comparator then s1 else s1.enterFault n .stall
  | _ => if b.blanked then s1 else s1.tripInMotion n

/-- The first 200 ms of a motion elapse (R83). -/
def State.blankingEnds (s : State) (n : Lane) : State :=
  let s1 := s.modBarrier n fun b => { b with blanked := false }
  if (s.barrier n).blanked && (s.barrier n).comparator then s1.tripInMotion n else s1

/-- A barrier in motion. -/
def inMotion : BarrierState → Bool
  | .raising => true
  | .lowering => true
  | _ => false

/-- A ramp step of 20 ms (R78). -/
def rampedBarrier (b : Barrier) : Barrier :=
  if inMotion b.state then
    { b with
      duty := min (b.duty + b.ramp.step) b.ramp.run
      motionMs := b.motionMs.map fun t => min (t + 20) 30000 }
  else b

/-- The travel timeout of a motion (R81). -/
def State.travelEnds (s : State) (n : Lane) : State :=
  if inMotion (s.barrier n).state then s.enterFault n .travel else s

/-- The reversing pause ends in a raising (R79). -/
def State.pauseEnds (s : State) (n : Lane) : State :=
  if (s.barrier n).state = .reversing then s.startMotion n .up else s

/-! ### Meanings -/

/-- LIMIT_SWITCH_CHANGE (R80); a part held in reset keeps the level alone. -/
def execLimitSwitchChange (n : Lane) (side : SwitchSide) (active : Bool) (s : State) :
    Host.Outcome State Fault Refusal :=
  .next (if s.running then s.switchChanges n side active else s.modBarrier n (setSwitch side active))

/-- COMPARATOR_TRIP (R83); a part held in reset keeps the level alone. -/
def execComparatorTrip (n : Lane) (s : State) : Host.Outcome State Fault Refusal :=
  .next (if s.running then s.comparatorTrips n else s.modBarrier n fun b => { b with comparator := true })

/-- COMPARATOR_BLANKING_END (R83). -/
def execComparatorBlankingEnd (n : Lane) (s : State) : Host.Outcome State Fault Refusal :=
  .next (s.whileRunning (s.blankingEnds n))

/-- BARRIER_RAMP_STEP (R78). -/
def execBarrierRampStep (n : Lane) (s : State) : Host.Outcome State Fault Refusal :=
  .next (s.whileRunning (s.modBarrier n rampedBarrier))

/-- TRAVEL_TIMEOUT (R81). -/
def execTravelTimeout (n : Lane) (s : State) : Host.Outcome State Fault Refusal :=
  .next (s.whileRunning (s.travelEnds n))

/-- REVERSING_PAUSE_END (R79). -/
def execReversingPauseEnd (n : Lane) (s : State) : Host.Outcome State Fault Refusal :=
  .next (s.whileRunning (s.pauseEnds n))

/-- COMPARATOR_CLEAR (R83). -/
def execComparatorClear (n : Lane) (s : State) : Host.Outcome State Fault Refusal :=
  .next (s.modBarrier n fun b => { b with comparator := false })

end Sys2Proof.Machine
end

