-- ==== Sys2Proof/Machine/LaneRecords.lean ====
section
/-! DEFINITION. The meanings of the lane records: LANE, BARRIER, APPROVE, DECLINE and RETURN (R85, R113, R114, R116,
R149 to R157). -/

namespace Sys2Proof.Machine

/-! ### LANE (R113, R116) -/

/-- LANE OPEN (R116). -/
def State.laneOpens (n : Lane) (s : State) : State × ResultCode :=
  if (s.deck n).op.isSome then (s, .busy)
  else if (s.lane n).state ≠ .closed ∨ s.siteClosed then (s, .wrongState)
  else ((s.modLaneSettings n fun t => { t with closed := false }).enterIdle n, .ok)

/-- LANE CLOSE (R116). -/
def State.laneCloses (n : Lane) (s : State) : State × ResultCode :=
  if (s.lane n).state = .idle ∨ (s.lane n).state = .suspended then (s.enterClosed n, .ok) else (s, .wrongState)

/-- LANE CLEAR (R113). -/
def State.laneClears (n : Lane) (s : State) : State × ResultCode :=
  if (s.lane n).state = .refused then (s.enterIdle n, .ok) else (s, .wrongState)

/-! ### BARRIER (R85, R114) -/

/-- The lane holds an ENTRY. -/
def State.holdsEntry (s : State) (n : Lane) : Bool :=
  match (s.lane n).identity with
  | some i => decide (i.direction = .entry)
  | none => false

/-- An exit weighing attached and not yet closed is taken back (R114, R156). -/
def State.exitReturns (s : State) (v : Visit) : State := s.modVisit v.number returnedVisit

/-- The visit a lane handles is settled as manual working begins (R114): an entry hold's visit is cancelled, a passing
entry's becomes ON_SITE, and an exit not yet closed is taken back. -/
def State.settleManual (s : State) (n : Lane) (v : Visit) : State :=
  match (s.lane n).state with
  | .held .approval =>
    if s.holdsEntry n then (s.cancelVisit v).modLane n fun l => { l with lateNumber := some v.number }
    else s.exitReturns v
  | .held .journal => s.exitReturns v
  | .held .overweight => s.exitReturns v
  | .weighing => s
  | .passing => if s.holdsEntry n then s.modVisit v.number fun v => { v with state := .onSite } else s
  | .held .barrier => if s.holdsEntry n then s.modVisit v.number fun v => { v with state := .onSite } else s
  | .held .print => s
  | .closed => s
  | .idle => s
  | .occupied => s
  | .clearing => s
  | .refused => s
  | .manual => s
  | .suspended => s

/-- What entry to MANUAL leaves of a lane (R52, R114). -/
def manualLane (l : LaneSeq) : LaneSeq :=
  { l with
    state := .manual, passTimer := none, passDue := false, capture := emptyCapture, heldWeighing := none
    postponed := false, heldTicket := none }

/-- Manual working begins (R114). -/
def State.enterManual (s : State) (n : Lane) : State :=
  let s1 := match s.laneVisit n with
    | some v => s.settleManual n v
    | none => s
  let s2 := (s1.modLane n manualLane).post .manualPass (some n) .none (.laneState (s.lane n).state)
  { s2 with journalOrder := s2.journalOrder.filter fun m => m != n }.command n .up

/-- BARRIER RAISE (R114). -/
def State.barrierRaises (n : Lane) (s : State) : State × ResultCode :=
  match (s.lane n).state with
  | .closed => (s, .wrongState)
  | .manual => (s, .ok)
  | .idle => (s.enterManual n, .ok)
  | .occupied => (s.enterManual n, .ok)
  | .weighing => (s.enterManual n, .ok)
  | .held _ => (s.enterManual n, .ok)
  | .passing => (s.enterManual n, .ok)
  | .clearing => (s.enterManual n, .ok)
  | .refused => (s.enterManual n, .ok)
  | .suspended => (s.enterManual n, .ok)

/-- BARRIER LOWER (R114). -/
def State.barrierLowers (n : Lane) (s : State) : State × ResultCode :=
  if (s.lane n).state = .manual then (s.enterClearing n, .ok) else (s, .wrongState)

/-- A barrier out of FAULT reaches its lane: HELD with reason BARRIER is left (R109), a CLEARING lane whose barrier is
DOWN enters IDLE (R112), and a suspend cause has ended (R115). -/
def State.faultLeft (s : State) (n : Lane) : State :=
  match (s.lane n).state with
  | .held .barrier => s.letGo n
  | .clearing => if (s.barrier n).state = .down then s.enterIdle n else s
  | .suspended => s.laneSettle n
  | _ => s

/-- BARRIER RESET (R85). -/
def State.barrierResets (n : Lane) (s : State) : State × ResultCode :=
  if isFault (s.barrier n).state then
    let s1 := s.modBarrier n fun b => { b with obstructions := 0 }
    match switchState (s.barrier n).downSwitch (s.barrier n).upSwitch with
    | .fault r => (s1.enterFault n r, .ok)
    | st => (((s1.modBarrier n fun b => { b with state := st }).faultLeft n).seek n, .ok)
  else (s, .wrongState)

/-! ### APPROVE, DECLINE and RETURN (R149 to R157) -/

/-- The answer to a record that its lane's hold does not take (R149). -/
def State.notTaken (s : State) (k : Nat) : ResultCode :=
  if (s.visitNumbered k).isSome then .wrongState else .notFound

/-- The same with the lane's late number looked at first (R149). -/
def State.notTakenLate (s : State) (n : Lane) (k : Nat) : ResultCode :=
  if (s.lane n).lateNumber = some k then .tooLate else s.notTaken k

/-- The visit of a lane held for a reason, where the argument names it (R149). -/
def State.heldVisit (s : State) (n : Lane) (r : HoldReason) (k : Nat) : Option Visit :=
  if (s.lane n).state = .held r ∧ (s.lane n).visit = some k then s.visitNumbered k else none

/-- A HELD_IN visit approved (R150). -/
def approvedVisit (v : Visit) : Visit :=
  { v with state := .entering, approvalDue := false, flags := { v.flags with approvedIn := true } }

/-- An approved entry (R150). -/
def State.approveEntry (s : State) (n : Lane) (v : Visit) : State :=
  ((s.modVisit v.number approvedVisit).post .vehicleAdmitted (some n) (.visit v.number) (.blocks v.blocks)).letGo n

/-- APPROVE (R149, R150, R157). -/
def State.approves (k : Nat) (n : Lane) (s : State) : State × ResultCode :=
  if k = 0 then (s, .badArgument)
  else
    match s.heldVisit n .approval k with
    | none => (s, s.notTakenLate n k)
    | some v =>
      if s.holdsEntry n then (s.approveEntry n v, .ok)
      else if s.warning then (s, .busy)
      else (s.journalCheck n v, .ok)

/-- DECLINE (R149, R150). -/
def State.declines (k : Nat) (n : Lane) (s : State) : State × ResultCode :=
  if k = 0 then (s, .badArgument)
  else
    match s.heldVisit n .approval k with
    | none => (s, s.notTakenLate n k)
    | some v => if s.holdsEntry n then (s.endEntryHold v .declined, .ok) else (s, s.notTakenLate n k)

/-- RETURN (R149, R155). -/
def State.returns (k : Nat) (n : Lane) (s : State) : State × ResultCode :=
  if k = 0 then (s, .badArgument)
  else
    match s.heldVisit n .overweight k with
    | none => (s, s.notTaken k)
    | some v => (((s.exitReturns v).postRefused n v.token .overweight).enterRefused n .overweight, .ok)

/-! ### Meanings -/

/-- LANE OPEN (R116). -/
def execLaneOpen (h : RecHead) (s : State) : Host.Outcome State Fault Refusal := .next (s.takeLane h State.laneOpens)

/-- LANE CLOSE (R116). -/
def execLaneClose (h : RecHead) (s : State) : Host.Outcome State Fault Refusal := .next (s.takeLane h State.laneCloses)

/-- LANE CLEAR (R113). -/
def execLaneClear (h : RecHead) (s : State) : Host.Outcome State Fault Refusal := .next (s.takeLane h State.laneClears)

/-- BARRIER RAISE (R114). -/
def execBarrierRaise (h : RecHead) (s : State) : Host.Outcome State Fault Refusal :=
  .next (s.takeLane h State.barrierRaises)

/-- BARRIER LOWER (R114). -/
def execBarrierLower (h : RecHead) (s : State) : Host.Outcome State Fault Refusal :=
  .next (s.takeLane h State.barrierLowers)

/-- BARRIER RESET (R85). -/
def execBarrierReset (h : RecHead) (s : State) : Host.Outcome State Fault Refusal :=
  .next (s.takeLane h State.barrierResets)

/-- APPROVE (R149). -/
def execApprove (h : RecHead) (visit : BitVec 16) (s : State) : Host.Outcome State Fault Refusal :=
  .next (s.takeLane h (State.approves visit.toNat))

/-- DECLINE (R149). -/
def execDecline (h : RecHead) (visit : BitVec 16) (s : State) : Host.Outcome State Fault Refusal :=
  .next (s.takeLane h (State.declines visit.toNat))

/-- RETURN (R149). -/
def execReturnVisit (h : RecHead) (visit : BitVec 16) (s : State) : Host.Outcome State Fault Refusal :=
  .next (s.takeLane h (State.returns visit.toNat))

end Sys2Proof.Machine
end

