-- ==== Sys2Proof/Machine/LinkEvents.lean ====
section
/-! DEFINITION. The meanings of the link family: the end of a transmission, the reply, headers past reading, records
that are not executed, and TURN (R185 to R193). -/

namespace Sys2Proof.Machine

/-- An idle gap longer than 2 ms while the host holds the line (R185, R193). A record cut short is of the transmission in
progress, or the first of one, whose first byte took the port out of WAITING. DESIGN CHOICE: before the first gap after a
release it does nothing, and only IDLE_GAP_AT_RELEASE makes the port WAITING (log 47). -/
def State.gapEnds (s : State) (cut : Option HeaderMarks) : State :=
  match s.link.port, cut with
  | .receiving, some m => (s.cutShort m).endTransmission
  | .waiting, some m => (s.cutShort m).endTransmission
  | .receiving, none => s.endTransmission
  | .waiting, none => s
  | .discarding, _ => s.endTransmission
  | .awaitIdle, _ => s
  | .sending, _ => s

/-- The last byte of END has been sent (R193): the line goes back to the host. After a RESET ALL the part is held for
its start-up (R212). -/
def State.replyEnds (s : State) : State :=
  if s.link.port = .sending then
    let s1 := s.modLink fun p => { p with port := .waiting, replies := [], resetAll := false }
    if s.link.resetAll then s1.modPower fun p => { p with held := some .record } else s1
  else s

/-- The errors of a header that ends the reading of its transmission (R186, R188). -/
def headerErrors : HeaderFault → LinkErrors
  | .bad => { LinkErrors.none with headerBad := true }
  | .length m => { markErrors m with lengthBad := true }

/-- TRANSMISSION_END (R185). -/
def execTransmissionEnd (cut : Option HeaderMarks) (s : State) : Host.Outcome State Fault Refusal :=
  .next (s.whileRunning (s.gapEnds cut))

/-- REPLY_COMPLETE (R193). -/
def execReplyComplete (s : State) : Host.Outcome State Fault Refusal := .next (s.whileRunning s.replyEnds)

/-- HEADER_BAD (R186, R188). -/
def execHeaderBad (f : HeaderFault) (s : State) : Host.Outcome State Fault Refusal := .next (s.takeHeaderBad (headerErrors f))

/-- RECORD_NOT_EXECUTED (R190, R202, R204): a damaged record, or one that names nothing. -/
def execRecordNotExecuted (r : NotExecuted) (s : State) : Host.Outcome State Fault Refusal :=
  .next (match r with
    | .damaged corrected checksum kindUnknown channelBad turn =>
      s.takeDamaged (damageErrors corrected checksum kindUnknown channelBad) turn
    | .unlisted h t => s.takeRecord h t fun s1 => (s1, .badArgument))

/-- TURN (R193). -/
def execTurn (h : RecHead) (s : State) : Host.Outcome State Fault Refusal := .next (s.takeTurn h)

/-- IDLE_GAP_AT_RELEASE (R185). -/
def execIdleGapAtRelease (s : State) : Host.Outcome State Fault Refusal :=
  .next (s.whileRunning (s.modLink fun p => { p with port := if p.port = .awaitIdle then .waiting else p.port }))

end Sys2Proof.Machine
end

