-- ==== Sys2Proof/Machine/Printers.lean ====
section
/-! DEFINITION. The meanings of the printer family (R177, R179). -/

namespace Sys2Proof.Machine

/-- PRINT_LINE_TRANSFER (R177). -/
def execPrintLineTransfer (acked : Bool) (s : State) : Host.Outcome State Fault Refusal :=
  .next (s.whileRunning (match s.busJob with
    | some j =>
      match j.state with
      | .sending k => s.transferEnds j k acked
      | _ => s
    | none => s))

/-- PRINTER_STATUS_READ (R179). -/
def execPrinterStatusRead (r : StatusRead) (s : State) : Host.Outcome State Fault Refusal :=
  .next (s.whileRunning (match s.busJob with
    | some j =>
      match j.state with
      | .printing k => s.statusReads j k r
      | _ => s
    | none => s))

/-- PRINT_TIMEOUT (R179). -/
def execPrintTimeout (s : State) : Host.Outcome State Fault Refusal :=
  .next (s.whileRunning (match s.busJob with
    | some j =>
      match j.state with
      | .printing _ => s.endJob j (.failed .timeout)
      | _ => s
    | none => s))

end Sys2Proof.Machine
end

