-- ==== Sys2Proof/Machine/Flags.lean ====
section
/-! DEFINITION. What the outputs of the part show, each following from the state: the signal heads (R87, R88), the
barrier motors (R76, R207), the attention line (R197), and the marks that READs form (R45, R115, R160). -/

namespace Sys2Proof.Machine

/-- An aspect of a signal head, in the order of R88's table. -/
inductive Aspect where
  | amber | red | green | flashing
  deriving DecidableEq, Repr

/-- The lane awaits a further part (R45). -/
def State.awaitsPart (s : State) (n : Lane) : Bool :=
  let l := s.lane n
  decide (l.state = .weighing) && !l.capture.parts.isEmpty
    && decide (some l.capture.parts.length ≠ l.capture.required)

/-- The aspect of the entry head (R87). -/
def State.entryHead (s : State) (n : Lane) : Aspect := if (s.lane n).state = .idle then .green else .red

/-- The aspect of the deck head (R88). -/
def State.deckHead (s : State) (n : Lane) : Aspect :=
  match (s.lane n).state with
  | .weighing => if s.awaitsPart n then .amber else .red
  | .passing => .green
  | .manual => .green
  | .refused => .flashing
  | .closed => .red
  | .idle => .red
  | .occupied => .red
  | .held _ => .red
  | .clearing => .red
  | .suspended => .red

/-- The lamps of a head: red, amber, green. -/
structure Lamps where
  red : Bool
  amber : Bool
  green : Bool
  deriving DecidableEq, Repr

/-- The lamps an aspect lights; a flashing red lamp is lit as `lit` says (R88). -/
def Aspect.lamps (a : Aspect) (lit : Bool) : Lamps :=
  match a with
  | .amber => ⟨false, true, false⟩
  | .red => ⟨true, false, false⟩
  | .green => ⟨false, false, true⟩
  | .flashing => ⟨lit, false, false⟩

/-- The lamps of both heads are dark while the part is held in reset (R88, R207). -/
def State.entryLamps (s : State) (n : Lane) : Lamps :=
  if s.running then (s.entryHead n).lamps true else ⟨false, false, false⟩
def State.deckLamps (s : State) (n : Lane) : Lamps :=
  if s.running then (s.deckHead n).lamps (s.lane n).flashLit else ⟨false, false, false⟩

/-- The drive of a barrier motor: its duty and direction; none while the part is held in reset (R76, R207). -/
def State.motorDrive (s : State) (n : Lane) : Nat × Option Toward :=
  if s.running then ((s.barrier n).duty, (s.barrier n).direction) else (0, none)

/-- The attention line (R197). -/
def State.attention (s : State) : Bool := s.running && !s.events.queue.isEmpty

/-- The deck's slots in a plan (R15). -/
def slotCount (plan : Vector (Option Lane) 16) (n : Lane) : Nat := plan.toList.countP fun e => e == some n

/-- The suspend causes present, in the order of R115: the barrier in FAULT, the deck INVALID, the entry loop FAULTED,
the clear loop FAULTED. -/
def State.suspendCauses (s : State) (n : Lane) : List Bool :=
  [match (s.barrier n).state with
    | .fault _ => true
    | _ => false,
   !s.deckValid n, decide ((s.loop n .entry).report = .faulted), decide ((s.loop n .clear).report = .faulted)]

end Sys2Proof.Machine
end

