-- ==== Sys2Proof/Machine/Readers.lean ====
section
/-! DEFINITION. The meanings of the reader family (R92, R93). -/

namespace Sys2Proof.Machine

/-- One reader port of a lane. -/
def State.readerPort (s : State) (n : Lane) : ReaderSide → ReaderPort
  | .approach => (s.readers.get n).approach
  | .deck => (s.readers.get n).deck

/-- Changes one reader port of a lane. -/
def State.modPort (s : State) (n : Lane) (side : ReaderSide) (f : ReaderPort → ReaderPort) : State :=
  s.modReaders n fun p =>
    match side with
    | .approach => { p with approach := f p.approach }
    | .deck => { p with deck := f p.deck }

/-- A token code from its bytes, most significant first (R120). -/
def tokenOf (bs : List Byte) : Token := BitVec.ofNat 64 (bs.foldl (fun a b => a * 256 + b.toNat) 0)

/-- The check byte of a frame: the low byte of the sum of its eight code bytes (R92). -/
def frameCheck (code : List Byte) : Nat := (code.map (·.toNat)).sum % 256

/-- The token a frame of nine bytes carries, where its check byte agrees (R92). -/
def frameToken (bs : List Byte) : Option Token :=
  match bs.drop 8 with
  | check :: _ => if check.toNat = frameCheck (bs.take 8) then some (tokenOf (bs.take 8)) else none
  | [] => none

/-- A read that the repeat lockout ignores (R93). -/
def lockedOut (t : Token) (p : ReaderPort) : Bool := decide (p.last = some t) && decide (p.lockout < 10)

/-- A deck read handed to its lane sequencer (R104). -/
def State.deckRead (s : State) (n : Lane) (t : Token) : State :=
  if (s.lane n).state = .occupied then s.identify n t .deckReader none none else s

/-- An accepted read (R93). -/
def State.acceptRead (s : State) (n : Lane) (side : ReaderSide) (t : Token) : State :=
  let s1 := s.modPort n side fun p => { p with last := some t, lockout := 0 }
  if s1.siteClosed then s1.post .outOfHours (some n) (.token t) .none
  else
    match side with
    | .approach => s1.approachRead n t
    | .deck => s1.deckRead n t

/-- A read of a token at a port (R93). -/
def State.readToken (s : State) (n : Lane) (side : ReaderSide) (t : Token) : State :=
  if lockedOut t (s.readerPort n side) then s else s.acceptRead n side t

/-- A byte arrives at a port: fewer than nine are gathered, and the ninth completes a frame, which is checked; the next
byte begins another (R92). -/
def State.gatherByte (s : State) (n : Lane) (side : ReaderSide) (b : Byte) : State :=
  let all := (s.readerPort n side).gathered ++ [b]
  if all.length < 9 then s.modPort n side fun p => { p with gathered := all }
  else
    let s1 := s.modPort n side fun p => { p with gathered := [] }
    match frameToken all with
    | none => s1
    | some t => s1.readToken n side t

/-- Bytes arrive at a port, one after another (R92). -/
def State.gather (s : State) (n : Lane) (side : ReaderSide) (bytes : List Byte) : State :=
  bytes.foldl (fun t b => t.gatherByte n side b) s

/-- TOKEN_FRAME (R92). -/
def execTokenFrame (n : Lane) (side : ReaderSide) (bytes : List Byte) (s : State) : Host.Outcome State Fault Refusal :=
  .next (s.whileRunning (s.gather n side bytes))

/-- TOKEN_FRAME_GAP (R92). -/
def execTokenFrameGap (n : Lane) (side : ReaderSide) (s : State) : Host.Outcome State Fault Refusal :=
  .next (s.whileRunning (s.modPort n side fun p => { p with gathered := [] }))

end Sys2Proof.Machine
end

