-- ==== Sys2Proof/Machine/YardLoops.lean ====
section
/-! DEFINITION. The meanings of the loop family: the loop detectors (R68 to R73, R75), the pass and the clear-loop cycle
(R110, R112), and what a changed report does (R68, R79, R115, R117). -/

namespace Sys2Proof.Machine

/-- A valid measurement (R69). -/
def validCount (p : Nat) : Bool := decide (20000 ≤ p) && decide (p ≤ 400000)

/-- The shift of a measurement from a baseline (R69). -/
def loopShift (b p : Nat) : Int := (b : Int) - p

/-- A detector put in FAULTED (R70). -/
def faultedLoop (l : Loop) : Loop :=
  { l with
    condition := .faulted, baseline := none, learnTimer := none, recovery := 0, presence := 0, stuck := false
    stuckDue := false }

/-- A detector with its baseline learned (R71). DESIGN CHOICE: the recovery count, which R68 gives in FAULTED alone, is 0
from here on (log 44). -/
def learningLoop (p : Nat) (l : Loop) : Loop :=
  { l with condition := .learning, baseline := some p, learnTimer := some 0, recovery := 0 }

/-- A detector put in FREE or in OCCUPIED from FREE, its presence timer and stuck marker cleared (R72). -/
def settledLoop (c : LoopCondition) (l : Loop) : Loop :=
  { l with condition := c, presence := 0, stuck := false, stuckDue := false }

/-- A valid measurement of a FREE loop (R72, R73). -/
def judgedFree (cfg : LoopSettings) (p : Nat) (l : Loop) : Loop :=
  match l.baseline with
  | none => l
  | some b =>
    if (cfg.onThr : Int) ≤ loopShift b p then settledLoop .occupied l
    else if loopShift b p ≤ -(cfg.onThr : Int) then { l with baseline := some p }
    else l

/-- A valid measurement of an OCCUPIED loop (R72). -/
def judgedOccupied (cfg : LoopSettings) (p : Nat) (l : Loop) : Loop :=
  match l.baseline with
  | none => l
  | some b => if loopShift b p ≤ (cfg.offThr : Int) then settledLoop .free l else l

/-- A detector after a measurement, its latest P already kept (R70 to R73). -/
def measuredLoop (cfg : LoopSettings) (p : Nat) (l : Loop) : Loop :=
  if validCount p then
    match l.condition with
    | .start => learningLoop p l
    | .learning => l
    | .free => judgedFree cfg p l
    | .occupied => judgedOccupied cfg p l
    | .faulted => if l.recovery = 8 then learningLoop p l else { l with recovery := l.recovery + 1 }
  else if l.condition = .faulted then { l with recovery := 0 }
  else faultedLoop l

/-- The LOOP_FAULT detail a measurement calls for, where it calls for one (R70). -/
def loopFaultOf (p : Nat) (l : Loop) : Option LoopFaultKind :=
  if validCount p then (if l.condition = .faulted ∧ l.recovery = 8 then some .recovered else none)
  else if l.condition = .faulted then none
  else some (if p < 20000 then .short else .opened)

/-- LOOP_FAULT is posted where it is called for (R70). -/
def State.postLoopFault (s : State) (n : Lane) (side : LoopSide) (k : Option LoopFaultKind) : State :=
  match k with
  | none => s
  | some k => s.post .loopFault (some n) .none (.loopFault side k)

/-! ### The clear-loop cycle (R110, R112) -/

/-- The lane is PASSING and its barrier is UP. -/
def State.mayPass (s : State) (n : Lane) : Bool :=
  decide ((s.lane n).state = .passing) && decide ((s.barrier n).state = .up)

/-- The lane's cycle takes a value. -/
def State.setCycle (s : State) (n : Lane) (c : Option Bool) : State := s.modLane n fun l => { l with cycle := c }

/-- The pass of an ENTRY makes its visit ON_SITE (R153). -/
def State.entryPassed (s : State) (n : Lane) : State :=
  match (s.lane n).identity, (s.lane n).visit with
  | some i, some k =>
    if i.direction = .entry then s.modVisit k fun v => { v with state := .onSite } else s
  | _, _ => s

/-- A clear-loop cycle ends: it is the pass, or it posts UNEXPECTED_PASS outside MANUAL (R110, R112). -/
def State.cycleEnds (s : State) (n : Lane) (marked : Bool) : State :=
  let s1 := s.setCycle n none
  if marked && s.mayPass n then (s1.entryPassed n).enterClearing n
  else if (s.lane n).state = .manual then s1
  else s1.post .unexpectedPass (some n) .none .none

/-- The lane's cycle follows a change of the clear loop's report (R110). -/
def State.followCycle (s : State) (n : Lane) (before : LoopReport) : State :=
  match before, (s.loop n .clear).report, (s.loop n .clear).condition with
  | .free, .occupied, .occupied => s.setCycle n (some (s.mayPass n))
  | .occupied, .free, _ =>
    match (s.lane n).cycle with
    | some marked => s.cycleEnds n marked
    | none => s
  | _, _, _ => s.setCycle n none

/-- A change of a clear loop's report reaches its barrier (R77, R79). -/
def State.barrierHears (s : State) (n : Lane) : State :=
  match (s.barrier n).state, s.clearReport n with
  | .lowering, .free => s
  | .lowering, .occupied => s.reverse n
  | .lowering, .faulted => s.reverse n
  | _, .free => s.seek n
  | _, _ => s

/-- OUT_OF_HOURS for a loop that becomes OCCUPIED from FREE while the site is CLOSED (R117). -/
def State.loopOutOfHours (s : State) (n : Lane) (side : LoopSide) (before : LoopReport) : State :=
  if s.siteClosed ∧ before = .free ∧ (s.loop n side).report = .occupied then
    s.post .outOfHours (some n) .none (.loop side)
  else s

/-- The lane sequencer takes a changed report: the cycle of a clear loop, the capture that an entry loop becoming FREE
may allow (R46), and the suspend causes (R115). -/
def State.laneHears (s : State) (n : Lane) (side : LoopSide) (before : LoopReport) : State :=
  match side with
  | .clear => (s.followCycle n before).laneSettle n
  | .entry => (if (s.loop n .entry).report = .free then s.examineCapture n else s).laneSettle n

/-- A report that may have changed from the one given is handed on: to the lane, and a clear loop's to the barrier
(R68). -/
def State.reportChanged (s : State) (n : Lane) (side : LoopSide) (before : LoopReport) : State :=
  if (s.loop n side).report = before then s
  else
    let s1 := (s.loopOutOfHours n side before).laneHears n side before
    match side with
    | .clear => s1.barrierHears n
    | .entry => s1

/-- A measurement ends (R69 to R73). -/
def State.measureLoop (s : State) (n : Lane) (side : LoopSide) (count : Nat) : State :=
  let p := min count 400001
  let l := s.loop n side
  let s1 := s.modLoop n side fun l => measuredLoop (s.loopSettings n side) p { l with latest := some p }
  (s1.postLoopFault n side (loopFaultOf p l)).reportChanged n side l.report

/-- The learning second ends (R71). -/
def State.learningEnds (s : State) (n : Lane) (side : LoopSide) : State :=
  if (s.loop n side).condition = .learning then
    s.modLoop n side fun l => { l with condition := .occupied, learnTimer := none }
  else s

/-- A detector put in START to learn afresh (R75). -/
def relearnedLoop (l : Loop) : Loop :=
  { l with
    condition := .start, baseline := none, learnTimer := none, recovery := 0, presence := 0, stuck := false
    stuckDue := false }

/-- A loop is learned afresh (R75); a clear loop in START leaves its lane no cycle (R110). -/
def State.relearn (s : State) (n : Lane) (side : LoopSide) : State :=
  let s1 := (s.modLoop n side relearnedLoop).reportChanged n side (s.loop n side).report
  match side with
  | .clear => s1.setCycle n none
  | .entry => s1

/-! ### Meanings -/

/-- LOOP_MEASUREMENT (R69). -/
def execLoopMeasurement (n : Lane) (side : LoopSide) (p : Nat) (s : State) : Host.Outcome State Fault Refusal :=
  .next (s.whileRunning (s.measureLoop n side p))

/-- LEARNING_END (R71). -/
def execLearningEnd (n : Lane) (side : LoopSide) (s : State) : Host.Outcome State Fault Refusal :=
  .next (s.whileRunning (s.learningEnds n side))

end Sys2Proof.Machine
end

