-- ==== Sys2Proof/Machine/ReadLayouts.lean ====
section
/-! DEFINITION. The payloads of the READs (R205): each target's fields in the order its owning rule lists them, and the
list targets with their opening figures, items, following figures and next index. -/

namespace Sys2Proof.Machine

/-! ### Lists within the reply limit (R195) -/

/-- The greatest number up to the one given that fits. -/
def largestFit (fits : Nat → Bool) : Nat → Nat
  | 0 => 0
  | k + 1 => if fits (k + 1) then k + 1 else largestFit fits k

/-- The bytes of the first items. -/
def itemsSize (items : List (List Byte)) (k : Nat) : Nat := ((items.take k).map List.length).sum

/-- The next index takes one byte for "end", and otherwise a presence byte with the index (R205). -/
def nextSize (items : List (List Byte)) (width k : Nat) : Nat := if items.length ≤ k then 1 else 1 + width

/-- How many whole items a DATA returns, at least one where any remains (R195). -/
def itemCount (limit around width : Nat) (items : List (List Byte)) : Nat :=
  max (largestFit (fun k => decide (around + itemsSize items k + nextSize items width k ≤ limit)) (min items.length 255))
    (min items.length 1)

/-- A list target's payload (R205): the code, the opening figures, the count and the items, the figures after them,
and the next index, which names the first item not returned. -/
def listPayload (limit code : Nat) (opening after : List Byte) (width : Nat) (items : List (List Byte))
    (index : Nat → List Byte) : List Byte :=
  let k := itemCount limit (2 + opening.length + after.length) width items
  u8 code ++ opening ++ u8 k ++ (items.take k).flatten ++ after
    ++ (if items.length ≤ k then [0] else 1 :: index k)

/-- A single read's payload (R205): one item and "end", or none and "end". -/
def singlePayload (code : Nat) (opening : List Byte) (item : Option (List Byte)) : List Byte :=
  u8 code ++ opening ++ u8 (if item.isSome then 1 else 0) ++ item.getD [] ++ [0]

/-! ### Targets of one condition -/

/-- A slot plan's sixteen entries, 0 for NONE (R204). -/
def planBytes (v : Vector (Option Lane) 16) : List Byte :=
  v.toList.flatMap fun e => u8 (match e with
    | some n => n.number
    | none => 0)

/-- VALID or INVALID (R15, R33). -/
def validityByte (valid : Bool) : List Byte := u8 (if valid then 1 else 2)

/-- The last sample converted for a deck (R15). DESIGN CHOICE: R203 gives a list no absent form, so the cell counts of an
absent sample are sent as a count of 0; the reference count and the time have presence bytes; and the mark is one byte, 1
for good and 2 for bad, with 0 for absent as R203 has it for an enumeration (log 28). -/
def lastSampleBytes (x : Option LastSample) : List Byte :=
  match x with
  | none => u8 0 ++ presentI32 none ++ presentTime none ++ u8 0
  | some y =>
    u8 y.cells.length ++ y.cells.flatMap i32 ++ presentI32 (some y.ref) ++ presentTime (some y.time)
      ++ u8 (if y.good then 1 else 2)

/-- One deck of the acquisition state (R15). -/
def State.acquisitionDeck (s : State) (n : Lane) : List Byte :=
  u8 (s.deckSettings n).cells ++ u8 (slotCount s.acq.active n) ++ validityByte (s.deckValid n) ++ (s.reasons n).byte
    ++ u8 (s.deck n).good ++ lastSampleBytes (s.deck n).lastSample

/-- The acquisition state (R15). -/
def State.acquisitionPayload (s : State) : List Byte :=
  u8 1 ++ planBytes s.acq.active ++ planBytes s.ret.settings.slotPlan ++ Lane.all.flatMap s.acquisitionDeck

/-- A reading's figures; D and G are absent where the range status is OVER or UNDER (R33). -/
def readingBytes (r : Option Reading) : List Byte :=
  let shown : Option Reading := r.bind fun x => if x.range = .normal then some x else none
  flag r.isSome ++ optCode (r.map fun x => x.range.code) ++ presentI32 (shown.map fun x => x.d)
    ++ presentI32 (shown.map fun x => fineToKg x.g) ++ optU8 (r.map fun x => x.entries)
    ++ presentTime (r.map fun x => x.time)

/-- One deck of the deck readings (R33). -/
def State.readingsDeck (s : State) (n : Lane) : List Byte :=
  validityByte (s.deckValid n) ++ readingBytes (s.deck n).reading ++ u8 (s.deckSettings n).depth
    ++ u8 (s.deck n).history.length ++ u32 (s.cal n).max ++ u8 (s.cal n).d ++ u32 (minimumWeighing (s.cal n))
    ++ u8 (s.deck n).settling.state.code

/-- The deck readings (R33). -/
def State.readingsPayload (s : State) : List Byte := u8 2 ++ Lane.all.flatMap s.readingsDeck

/-- A captured part (R53). -/
def capturedPart (p : Part) : List Byte := partSlot p ++ flag p.unset

/-- The capture state (R53). DESIGN CHOICE: outside WEIGHING the absent parts list is sent as a count of 0 and the moved
mark as 0, and the zero limit in kilograms is rounded to the nearest (log 43); in WEIGHING the age count, which is stopped
while no part is listed, is then sent as absent (log 45). -/
def State.capturePayload (s : State) (n : Lane) : List Byte :=
  let d := s.deck n
  let cfg := s.deckSettings n
  let l := s.lane n
  let weighing := decide (l.state = .weighing)
  let parts := if weighing then l.capture.parts else []
  u8 3 ++ u8 d.settling.state.code ++ u16 d.settling.run ++ u8 d.settling.out ++ u16 cfg.band ++ u8 cfg.tTent
    ++ u8 cfg.tSettle ++ u8 cfg.tLock ++ u8 cfg.tDrop ++ i32 (fineToKg (s.cal n).z)
    ++ u32 (fineToKg (s.zeroLimitNow n)).toNat ++ flag d.zeroMarker ++ u8 d.occupancy.code
    ++ u16 (s.laneSettings n).occupancy ++ u16 (s.laneSettings n).partAge ++ flag weighing
    ++ optU8 (if weighing then l.capture.required else none) ++ u8 parts.length ++ parts.flatMap capturedPart
    ++ flag (weighing && l.capture.moved) ++ presentU32 (if weighing then l.capture.age else none)

/-- An operation in flight (R66). -/
def opBytes (op : Option CalOp) : List Byte :=
  match op with
  | none => u8 0 ++ optU8 none ++ optU32 none
  | some (.zero taken _ _ _) => u8 CalSub.zeroCapture.code ++ u8 taken ++ optU32 none
  | some (.span load taken _ _) => u8 CalSub.spanCapture.code ++ u8 taken ++ u32 load

/-- The calibration state (R66). DESIGN CHOICE: zero_i and g_i are sent side by side, cell position by cell position
(log 43). -/
def State.calibrationPayload (s : State) (n : Lane) : List Byte :=
  let c := s.cal n
  let d := s.deck n
  u8 4 ++ flag s.power.calEnable ++ u16 c.counter ++ flag c.zeroDone ++ flag c.spanDone ++ u8 (s.deckSettings n).cells
    ++ (List.zipWith (fun z g => i32 z ++ u32 g) c.zeros.toList c.trims.toList).flatten ++ u32 c.eCal ++ u32 c.k
    ++ u32 c.max ++ u8 c.d ++ i32 (fineToKg c.z) ++ opBytes d.op ++ optCode (d.lastOutcome.map fun o => o.sub.code)
    ++ optCode (d.lastOutcome.map fun o => o.outcome.code) ++ presentTime (d.lastOutcome.map fun o => o.time)

/-- A loop's shift, while a baseline is present (R69, R89). -/
def shiftOf (l : Loop) : Option Int :=
  match l.baseline, l.latest with
  | some b, some p => some (loopShift b p)
  | _, _ => none

/-- One loop of the lane devices (R89). -/
def loopBytes (l : Loop) (cfg : LoopSettings) : List Byte :=
  u8 l.condition.code ++ u8 l.report.code ++ optU32 l.baseline ++ optU32 l.latest ++ presentI32 (shiftOf l)
    ++ u8 l.recovery ++ u16 l.presence ++ flag l.stuck ++ u16 cfg.onThr ++ u16 cfg.offThr ++ u16 cfg.limit

/-- The reason of a barrier in FAULT. -/
def faultReason : BarrierState → Option BarrierFault
  | .fault r => some r
  | _ => none

/-- The barrier of the lane devices (R89). -/
def barrierBytes (b : Barrier) (cfg : BarrierSettings) : List Byte :=
  u8 b.state.code ++ optCode ((faultReason b.state).map BarrierFault.code) ++ u8 b.target.code ++ u8 b.duty
    ++ optCode (b.direction.map Toward.driveCode) ++ u8 b.obstructions ++ flag b.downSwitch ++ flag b.upSwitch
    ++ flag b.comparator ++ u8 cfg.start ++ u8 cfg.run ++ u8 cfg.step ++ u8 cfg.travel

/-- Aspects, in the order of R88's table. -/
def Aspect.code : Aspect → Nat | .amber => 1 | .red => 2 | .green => 3 | .flashing => 4

/-- The lane devices (R89). -/
def State.devicesPayload (s : State) (n : Lane) : List Byte :=
  u8 5 ++ loopBytes (s.loop n .entry) (s.laneSettings n).entryLoop ++ loopBytes (s.loop n .clear) (s.laneSettings n).clearLoop
    ++ barrierBytes (s.barrier n) (s.laneSettings n).barrier ++ u8 (s.entryHead n).code ++ flag false
    ++ u8 (s.deckHead n).code ++ flag (decide (s.deckHead n = .flashing) && (s.lane n).flashLit)

/-- The hold reason of a held lane. -/
def holdReason : LaneState → Option HoldReason
  | .held r => some r
  | _ => none

/-- The current identity (R118). -/
def identityBytes (i : Option Identity) : List Byte :=
  presentToken (i.map fun x => x.token) ++ optCode (i.map fun x => x.direction.code)
    ++ optStream (i.bind fun x => x.stream) ++ optCode ((i.bind fun x => x.kind).map Kind.code)
    ++ optCode (i.map fun x => x.source.code)

/-- A lane's policy settings (R94). -/
def policyBytes (p : Policy) : List Byte :=
  u8 p.direction.code ++ flag p.admitUnknown ++ u8 p.account.val ++ u8 p.cls.val ++ optStream p.stream
    ++ u16 p.passTimeout

/-- A reader port: its last accepted token and its lockout count together (R118; DESIGN CHOICE, log 28). -/
def portBytes (p : ReaderPort) : List Byte := presentToken p.last ++ u8 p.lockout

/-- The lane state (R118). DESIGN CHOICE: the two reader ports are sent port by port, the approach port first, each
with its last accepted token and then its lockout count (log 28). -/
def State.laneStatePayload (s : State) (n : Lane) : List Byte :=
  let l := s.lane n
  u8 6 ++ u8 l.state.code ++ optCode ((holdReason l.state).map HoldReason.code) ++ identityBytes l.identity
    ++ presentU16 l.visit ++ flag l.postponed ++ presentU32 (l.heldWeighing.map fun w => w.value) ++ optU16 l.passTimer
    ++ flag l.closePending ++ set8 (s.suspendCauses n) ++ optCode (l.lastRefusal.map Reason.code)
    ++ policyBytes (s.laneSettings n).policy ++ portBytes (s.readerPort n .approach) ++ portBytes (s.readerPort n .deck)

/-- One class (R131, R138). -/
def classBytes (c : ClassEntry) : List Byte :=
  u8 c.parts ++ u32 c.tare ++ u32 c.gross ++ u16 c.tolerance ++ flag c.learning

/-- The class table (R138). -/
def State.classPayload (s : State) : List Byte := u8 9 ++ s.ret.settings.classes.toList.flatMap classBytes

/-- One stream (R166). -/
def streamBytes (cfg : StreamSettings) (t : StreamTotals) : List Byte :=
  u32 cfg.capacity ++ u8 cfg.state.code ++ cfg.levels.toList.flatMap optU32 ++ u32 t.stock ++ u16 t.reserved
    ++ u32 (committed t) ++ flag (decide (cfg.capacity < t.stock))

/-- The streams and the site totals (R166). -/
def State.streamsPayload (s : State) : List Byte :=
  u8 12
    ++ (List.zipWith streamBytes s.ret.settings.streams.toList s.ret.traffic.streams.toList).flatten
    ++ optU32 s.ret.settings.permitCap ++ u32 s.ret.traffic.accepted ++ u32 s.totalReserved
    ++ u16 s.ret.settings.approvalTimeout

/-- The line transfers a SENDING job has completed, and the reads a PRINTING job has made (R182). -/
def jobTransfers : JobState → Option Nat
  | .sending k => some k
  | _ => none
def jobReads : JobState → Option Nat
  | .printing k => some k
  | _ => none

/-- One print job (R182). -/
def jobBytes (j : PrintJob) : List Byte :=
  u32 j.ticket ++ u8 j.lane.number ++ u8 (j.address.val + 1) ++ flag j.copy ++ u8 j.state.code
    ++ presentU32 (jobTransfers j.state) ++ presentU32 (jobReads j.state)

/-- An address's last status (R182). -/
def statusBytes (x : Option (Byte × SiteTime)) : List Byte :=
  match x with
  | none => [0, 0] ++ presentTime none
  | some (b, t) => [1, b] ++ presentTime (some t)

/-- The printers (R182). -/
def State.printersPayload (s : State) : List Byte :=
  u8 14
    ++ Lane.all.flatMap (fun n =>
      optAddress (s.laneSettings n).printer ++ flag (s.laneSettings n).printFirst ++ optU32 (s.lane n).heldTicket)
    ++ u8 s.printing.queue.length ++ s.printing.queue.flatMap jobBytes
    ++ s.printing.lastStatus.toList.flatMap statusBytes

/-- The link (R200). -/
def State.linkPayload (s : State) : List Byte :=
  u8 16 ++ u8 (if s.link.live then 1 else 2) ++ u16 s.link.silence ++ u8 s.ret.settings.linkTimeout
    ++ u16 s.ret.settings.replyLimit ++ u32 s.link.bitRate ++ u8 s.events.queue.length ++ flag s.events.overflow
    ++ u16 s.events.dropped ++ timeBytes s.now ++ flag s.clock.unset

/-- The supply and retained memory (R213). -/
def State.supplyPayload (s : State) : List Byte :=
  u8 17 ++ u8 s.power.supply.code ++ u8 s.ret.settings.warnLevel ++ u8 s.power.cause.code ++ sectionByte s.power.failed
    ++ u8 s.power.copyFound.code ++ u32 s.power.unconfirmed

/-! ### List targets -/

/-- A waiting-list entry (R118). -/
def waitBytes (e : WaitEntry) : List Byte :=
  tokenBytes e.token ++ timeBytes e.joined ++ u32 e.age ++ u8 e.direction.code ++ optCode (e.result.map Reason.code)

/-- The entries a channel covers (R118). -/
def State.coveredEntries (s : State) (c : Chan) : List WaitEntry :=
  match c with
  | .site => s.lists.toList.flatten
  | .lane n => s.list n

/-- The figures after the entries of all four lists (R118). -/
def State.listFigures (s : State) (c : Chan) : List Byte :=
  match c with
  | .site =>
    Lane.all.flatMap (fun n => u8 (s.laneSettings n).depth) ++ u8 s.ret.settings.listAge
      ++ u8 s.ret.settings.siteMode.code
  | .lane _ => []

/-- The waiting lists from an entry index (R118, R205). -/
def State.listsPayload (s : State) (c : Chan) (start : Nat) : List Byte :=
  listPayload s.ret.settings.replyLimit 7 [] (s.listFigures c) 1 (((s.coveredEntries c).drop start).map waitBytes)
    fun k => u8 (start + k)

/-- A stored tare, with its age in whole hours (R129, R137). -/
def tareBytes (now : SiteTime) (t : Option Tare) : List Byte :=
  optU32 (t.map fun x => x.value) ++ optCode (t.map fun x => x.origin.code) ++ presentTime (t.map fun x => x.setTime)
    ++ presentU32 (t.map fun x => elapsed x.setTime now / 3600)

/-- One vehicle entry, with its age in whole days (R129, R137). -/
def vehicleBytes (now : SiteTime) (v : Vehicle) : List Byte :=
  tokenBytes v.token ++ u8 v.account.val ++ u8 v.cls.val ++ u8 v.kind.code ++ optStream v.stream ++ optU32 v.gross
    ++ tareBytes now v.tare ++ maskByte v.mask ++ flag v.barred ++ u8 v.origin.code ++ timeBytes v.lastUse
    ++ u32 (elapsed v.lastUse now / 86400)

/-- The vehicle table's figures (R137). -/
def State.vehicleFigures (s : State) : List Byte :=
  u16 s.ret.ident.vehicles.length ++ u16 s.ret.ident.provisional ++ u16 s.ret.settings.learnLimit
    ++ u16 s.ret.settings.provAge ++ u16 s.ret.settings.tareAge

/-- The vehicle table from a token code (R137). -/
def State.vehiclesPayload (s : State) (start : Token) : List Byte :=
  let vs := s.ret.ident.vehicles.filter fun v => decide (start.toNat ≤ v.token.toNat)
  listPayload s.ret.settings.replyLimit 8 s.vehicleFigures [] 8 (vs.map (vehicleBytes s.now)) fun k =>
    match vs[k]? with
    | some v => tokenBytes v.token
    | none => []

/-- One token of the vehicle table, marked single (R137). -/
def State.vehiclePayload (s : State) (t : Token) : List Byte :=
  singlePayload 8 s.vehicleFigures ((s.vehicleOf t).map (vehicleBytes s.now))

/-- One account (R132, R138). -/
def accountBytes (a : Account) : List Byte :=
  u8 a.state.code ++ optU32 a.allowance ++ u8 a.limitKind.code ++ u32 a.consumed ++ u32 a.pending ++ flag a.approval
    ++ optStream a.stream

/-- The account table from an account number (R138). -/
def State.accountsPayload (s : State) (start : Nat) : List Byte :=
  listPayload s.ret.settings.replyLimit 10 [] [] 1 ((s.ret.ident.accounts.toList.drop start).map accountBytes) fun k =>
    u8 (start + k)

/-- An optional exit weighing (R205). -/
def exitBytes (w : Option Weighing) : List Byte :=
  match w with
  | none => List.replicate 56 0
  | some w => 1 :: weighingBytes w

/-- One visit (R140, R165). -/
def visitBytes (v : Visit) : List Byte :=
  u16 v.number ++ tokenBytes v.token ++ u8 v.account.val ++ u8 v.cls.val ++ streamByte v.stream ++ u8 v.kind.code
    ++ u8 v.state.code ++ u8 v.entryLane.number ++ optU8 (v.exitLane.map Lane.number) ++ weighingBytes v.entry
    ++ exitBytes v.exit ++ u32 v.estimate ++ u16 v.blocks ++ presentU32 v.net ++ v.flags.byte ++ u16 v.timer

/-- The visit table's figures (R165). -/
def State.visitFigures (s : State) : List Byte :=
  u8 s.ret.traffic.visits.length ++ u16 s.ret.traffic.counter
    ++ Lane.all.flatMap fun n => presentU16 (s.lane n).lateNumber

/-- The visit table from a visit number (R165). -/
def State.visitsPayload (s : State) (start : Nat) : List Byte :=
  let vs := s.ret.traffic.visits.filter fun v => decide (start ≤ v.number)
  listPayload s.ret.settings.replyLimit 11 s.visitFigures [] 2 (vs.map visitBytes) fun k =>
    match vs[k]? with
    | some v => u16 v.number
    | none => []

/-- One visit, marked single (R165). -/
def State.visitPayload (s : State) (k : Nat) : List Byte :=
  singlePayload 11 s.visitFigures ((s.visitNumbered k).map visitBytes)

/-- The journal's figures (R172). -/
def State.journalFigures (s : State) : List Byte :=
  u8 s.ret.tickets.journal.length ++ optU32 (s.ret.tickets.journal.head?.map fun t => t.number)
    ++ u32 s.ret.tickets.counter

/-- The tickets a journal read returns from: all from a start of 0, from the ticket named, or none (R172). -/
def State.journalFrom (s : State) (start : Nat) : List Ticket :=
  if start = 0 then s.ret.tickets.journal else s.ret.tickets.journal.dropWhile fun t => t.number != start

/-- The journal from a ticket number (R172). -/
def State.journalPayload (s : State) (start : Nat) : List Byte :=
  let ts := s.journalFrom start
  listPayload s.ret.settings.replyLimit 13 s.journalFigures [] 4 (ts.map ticketBytes) fun k =>
    match ts[k]? with
    | some t => u32 t.number
    | none => []

/-! ### Events (R198) -/

/-- The number of events a read takes: as many as fit the reply limit less the room of one event item (R198). -/
def eventCount (limit held : Nat) : Nat :=
  largestFit (fun k => decide (2 + eventSize * k + (if held ≤ k then 1 else 2) + eventSize ≤ limit)) held

/-- The EVENTS_LOST item (R198). -/
def State.lostEvent (s : State) : Event := ⟨.eventsLost, none, s.now, .none, .lost s.events.dropped⟩

/-- The read empties the queue with the overflow marker set (R198). -/
def State.reportsLost (s : State) (k : Nat) : Bool := decide (s.events.queue.length ≤ k) && s.events.overflow

/-- The payload of a read that takes so many events (R198). -/
def State.eventsPayload (s : State) (k : Nat) : List Byte :=
  let items := s.events.queue.take k ++ (if s.reportsLost k then [s.lostEvent] else [])
  u8 15 ++ u8 items.length ++ items.flatMap eventBytes
    ++ (if s.events.queue.length ≤ k then [0] else 1 :: u8 (s.events.queue.length - k))

/-- The queue after a read that takes so many events (R198). -/
def State.eventsTaken (s : State) (k : Nat) : State :=
  { s with events :=
      if s.reportsLost k then ⟨s.events.queue.drop k, false, 0⟩
      else { s.events with queue := s.events.queue.drop k } }

end Sys2Proof.Machine
end

