-- ==== Sys2Proof/Machine/ReadRecords.lean ====
section
/-! DEFINITION. The meanings of the READs (R192, R194, R205). -/

namespace Sys2Proof.Machine

/-- A READ on a lane channel, of the addressed lane. -/
def State.readLane (s : State) (h : RecHead) (b : Body Unit) (payload : State → Lane → List Byte) : State :=
  s.takeRead h .lane (noStart b fun t =>
    match h.chan with
    | .site => .error .wrongChannel
    | .lane n => .ok ⟨payload t n, t⟩)

/-- READ acquisition state (R15). -/
def execReadAcquisitionState (h : RecHead) (b : Body Unit) (s : State) : Host.Outcome State Fault Refusal :=
  .next (s.takeRead h .any (noStart b (readOnly State.acquisitionPayload)))

/-- READ deck readings (R33). -/
def execReadDeckReadings (h : RecHead) (b : Body Unit) (s : State) : Host.Outcome State Fault Refusal :=
  .next (s.takeRead h .any (noStart b (readOnly State.readingsPayload)))

/-- READ capture state (R53). -/
def execReadCaptureState (h : RecHead) (b : Body Unit) (s : State) : Host.Outcome State Fault Refusal :=
  .next (s.readLane h b State.capturePayload)

/-- READ calibration state (R66). -/
def execReadCalibrationState (h : RecHead) (b : Body Unit) (s : State) : Host.Outcome State Fault Refusal :=
  .next (s.readLane h b State.calibrationPayload)

/-- READ lane devices (R89). -/
def execReadLaneDevices (h : RecHead) (b : Body Unit) (s : State) : Host.Outcome State Fault Refusal :=
  .next (s.readLane h b State.devicesPayload)

/-- READ lane state (R118). -/
def execReadLaneState (h : RecHead) (b : Body Unit) (s : State) : Host.Outcome State Fault Refusal :=
  .next (s.readLane h b State.laneStatePayload)

/-- READ waiting lists (R118). -/
def execReadWaitingLists (h : RecHead) (b : Body Byte) (s : State) : Host.Outcome State Fault Refusal :=
  .next (s.takeRead h .any fun t => match b with
    | .misfit => .error .badArgument
    | .item k => .ok ⟨t.listsPayload h.chan k.toNat, t⟩)

/-- READ vehicle table (R137). -/
def execReadVehicleTable (h : RecHead) (b : Body VehicleStart) (s : State) : Host.Outcome State Fault Refusal :=
  .next (s.takeRead h .site fun t => match b with
    | .misfit => .error .badArgument
    | .item v =>
      match flagOf v.single with
      | none => .error .badArgument
      | some true => .ok ⟨t.vehiclePayload v.token, t⟩
      | some false => .ok ⟨t.vehiclesPayload v.token, t⟩)

/-- READ class table (R138). -/
def execReadClassTable (h : RecHead) (b : Body Unit) (s : State) : Host.Outcome State Fault Refusal :=
  .next (s.takeRead h .site (noStart b (readOnly State.classPayload)))

/-- READ account table (R138). -/
def execReadAccountTable (h : RecHead) (b : Body Byte) (s : State) : Host.Outcome State Fault Refusal :=
  .next (s.takeRead h .site fun t => match b with
    | .misfit => .error .badArgument
    | .item k => .ok ⟨t.accountsPayload k.toNat, t⟩)

/-- READ visit table (R165). DESIGN CHOICE: a starting number of 0, which no visit has, is a start below every number, and
names no visit in a single READ (log 10). -/
def execReadVisitTable (h : RecHead) (b : Body VisitStart) (s : State) : Host.Outcome State Fault Refusal :=
  .next (s.takeRead h .site fun t => match b with
    | .misfit => .error .badArgument
    | .item v =>
      match flagOf v.single with
      | none => .error .badArgument
      | some true => .ok ⟨t.visitPayload v.number.toNat, t⟩
      | some false => .ok ⟨t.visitsPayload v.number.toNat, t⟩)

/-- READ streams (R166). -/
def execReadStreams (h : RecHead) (b : Body Unit) (s : State) : Host.Outcome State Fault Refusal :=
  .next (s.takeRead h .site (noStart b (readOnly State.streamsPayload)))

/-- READ journal (R172). -/
def execReadJournal (h : RecHead) (b : Body (BitVec 32)) (s : State) : Host.Outcome State Fault Refusal :=
  .next (s.takeRead h .site fun t => match b with
    | .misfit => .error .badArgument
    | .item k => if Config.ticketMax < k.toNat then .error .badArgument else .ok ⟨t.journalPayload k.toNat, t⟩)

/-- READ printers (R182). -/
def execReadPrinters (h : RecHead) (b : Body Unit) (s : State) : Host.Outcome State Fault Refusal :=
  .next (s.takeRead h .site (noStart b (readOnly State.printersPayload)))

/-- READ events (R198). -/
def execReadEvents (h : RecHead) (b : Body Unit) (s : State) : Host.Outcome State Fault Refusal :=
  .next (s.takeRead h .site (noStart b fun t =>
    let k := eventCount t.ret.settings.replyLimit t.events.queue.length
    .ok ⟨t.eventsPayload k, t.eventsTaken k⟩))

/-- READ link (R200). -/
def execReadLink (h : RecHead) (b : Body Unit) (s : State) : Host.Outcome State Fault Refusal :=
  .next (s.takeRead h .site (noStart b (readOnly State.linkPayload)))

/-- READ supply and retained memory (R213). -/
def execReadSupply (h : RecHead) (b : Body Unit) (s : State) : Host.Outcome State Fault Refusal :=
  .next (s.takeRead h .site (noStart b (readOnly State.supplyPayload)))

end Sys2Proof.Machine
end

