-- ==== Sys2Proof/Machine/StartUp.lean ====
section
/-! DEFINITION. The start-up (R210) with the reset values of every chapter, the treatment of the tickets left QUEUED
(R183), and the restart of the lanes (R212). -/

namespace Sys2Proof.Machine

/-- The contents that an update copy gives (R209): those of a copy marked complete, whose check, read with this damage,
is good. -/
def UpdateCopy.good (c : UpdateCopy) (damage : BitVec 32) : Option Retained :=
  match c with
  | .complete contents check => if check ^^^ damage = Config.sectionCheck contents then some contents else none
  | .empty => none
  | .incomplete => none

/-- What the update copy is found to be at a start-up (R209, R213). -/
def UpdateCopy.found (c : UpdateCopy) (damage : BitVec 32) : CopyFound :=
  if c = .empty then .empty else if (c.good damage).isSome then .applied else .discarded

/-- The update copy is applied or discarded (R209). -/
def State.settleCopy (s : State) (damage : BitVec 32) : State :=
  match s.copy.good damage with
  | some contents => { s with ret := contents, checks := contents.checks, copy := .empty }
  | none => { s with copy := .empty }

/-- The sections whose contents do not agree with their checks, each check read with its damage (R209, R210). -/
def SectionChecks.failing (c : SectionChecks) (r : Retained) (e : CheckDamage) : SectionSet where
  calibration := decide (c.calibration ^^^ e.calibration ≠ Config.sectionCheck r.cal)
  settings := decide (c.settings ^^^ e.settings ≠ Config.sectionCheck r.settings)
  identities := decide (c.identities ^^^ e.identities ≠ Config.sectionCheck r.ident)
  traffic := decide (c.traffic ^^^ e.traffic ≠ Config.sectionCheck r.traffic)
  tickets := decide (c.tickets ^^^ e.tickets ≠ Config.sectionCheck r.tickets)

/-- The failed sections as reckoned: identities and traffic fail together (R210). -/
def reckoned (f : SectionSet) : SectionSet :=
  { f with identities := f.identities || f.traffic, traffic := f.identities || f.traffic }

/-- The learned-entry limit after the settings section has failed (R139). -/
def raisedLimit (provisional : Nat) : Nat := if 128 < provisional then 64 * ceilDiv provisional 64 else 128

/-- The sections restored, or set to factory contents where they fail (R139, R210). -/
def restored (f : SectionSet) (r : Retained) : Retained :=
  let ident := if f.identities then factoryIdentities else r.ident
  { cal := if f.calibration then Quad.fill factoryCal else r.cal
    settings :=
      if f.settings then { factorySettings with learnLimit := raisedLimit ident.provisional } else r.settings
    ident := ident
    traffic := if f.traffic then factoryTraffic else r.traffic
    tickets := if f.tickets then factoryTickets else r.tickets }

/-- A ticket left QUEUED becomes FAILED with reason RESTART (R183). -/
def restartedTicket (t : Ticket) : Ticket :=
  if t.print = .queued then { t with print := .failed, failure := some .restart } else t

/-- The bit rate that the straps give (R184). -/
def strapRate (a b : Bool) : Nat :=
  match a, b with
  | false, false => 19200
  | false, true => 57600
  | true, false => 115200
  | true, true => 19200

/-- Every volatile item at its reset value over the sections given, their checks formed over them (R16, R34, R54, R67, R90, R91, R119, R183, R201). -/
def State.volatileReset (s : State) (r : Retained) (env : StartEnv) : State where
  ret := r
  checks := r.checks
  copy := .empty
  acq := ⟨r.settings.slotPlan, 0⟩
  decks := Quad.ofFn fun n => startDeck (!planGives r.settings.slotPlan n)
  loops := Quad.fill ⟨startLoop, startLoop⟩
  barriers := Quad.ofFn fun n =>
    startBarrier
      (switchState (env.downSwitch.get n) (env.upSwitch.get n)) (r.settings.lanes.get n).barrier (env.downSwitch.get n)
      (env.upSwitch.get n) (env.comparator.get n)
  readers := Quad.fill ⟨startReader, startReader⟩
  lists := Quad.fill []
  lanes := Quad.fill (startLane .idle)
  journalOrder := []
  clock := ⟨r.traffic.lastTime, true, 0, false⟩
  link := startLink (strapRate env.strapA env.strapB)
  events := ⟨[], false, 0⟩
  printing := startPrinting
  power := { s.power with supply := .normal, held := none, calEnable := env.calEnable }
  pending := s.pending

/-- A lane restarts in the state its closed flag and the site mode give (R119). -/
def State.restartLane (s : State) (n : Lane) : State :=
  let s1 := s.modLane n fun _ => startLane .idle
  if (s1.laneSettings n).closed || s1.siteClosed then s1.enterClosed n else s1.enterIdle n

/-- BARRIER_FAULT for a barrier found with both switches active (R91). -/
def State.postStartFault (s : State) (n : Lane) : State :=
  match (s.barrier n).state with
  | .fault r => s.post .barrierFault (some n) .none (.barrierFault r)
  | _ => s

/-- The supply judged once against the warning level as the part leaves reset (R207). -/
def State.startSupply (s : State) (mv : Nat) : State :=
  if mv < s.ret.settings.warnLevel * 1000 then
    (s.modPower fun p => { p with supply := .warning }).post .powerWarning none .none (.warning true)
  else s

/-- The part can leave reset at this supply: a brown-out reset is left above 17 V, and no part runs below 16 V
(R207). -/
def State.supplyReleases (s : State) (mv : Nat) : Bool :=
  if s.power.supply = .reset then decide (Config.resetReleaseMv < mv) else decide (Config.resetEntryMv ≤ mv)

/-- STARTED is posted and the open visits are treated, their STREAM_LEVEL events following it (R210, R211, R212). -/
def State.startedAndTreated (s : State) (cause : StartCause) (failed : SectionSet) : State :=
  let vs := s.ret.traffic.visits
  (s.post .started none .none (.started cause failed (unconfirmedEntries vs))).treatVisits vs

/-- A start-up with its cause and the sections reckoned failed, the update copy settled (R91, R207, R210, R211). DESIGN
CHOICE: after STARTED stand the STREAM_LEVEL events, then each BARRIER_FAULT, lane 1 first, then POWER_WARNING (log
42). -/
def State.startOver (s : State) (cause : StartCause) (failed : SectionSet) (found : CopyFound) (env : StartEnv) :
    State :=
  let r := restored failed s.ret
  let s1 := s.volatileReset r env
  let s2 := s1.modPower fun p =>
    { p with
      cause := cause, failed := failed, copyFound := found, unconfirmed := unconfirmedEntries r.traffic.visits }
  let s3 := s2.modTickets fun j => { j with journal := j.journal.map restartedTicket }
  let s4 := s3.startedAndTreated cause failed
  ((s4.eachLane State.restartLane).eachLane State.postStartFault).startSupply env.supplyMv

/-- A start-up with its cause (R209, R210): the update copy is settled, each section checked, and the rest follows. -/
def State.startUp (s : State) (cause : StartCause) (env : StartEnv) : State :=
  let s1 := s.settleCopy env.damage.copy
  s1.startOver cause (reckoned (s1.checks.failing s1.ret env.damage)) (s.copy.found env.damage.copy) env

/-- RESET LANES (R212): the readers, the lists and the lanes restart, the open visits are treated, and each barrier's
target becomes DOWN. -/
def State.resetLanes (s : State) : State :=
  let s1 := s.startedAndTreated .record SectionSet.none
  let s2 := { s1 with
    readers := Quad.fill ⟨startReader, startReader⟩, lists := Quad.fill [], journalOrder := [] }
  (s2.eachLane State.restartLane).eachLane fun t n => t.command n .down

end Sys2Proof.Machine
end

