-- ==== Sys2Proof/Machine/Supply.lean ====
section
/-! DEFINITION. The meanings of the supply family: WARNING, the brown-out reset, the reset line and the start-up
(R207 to R210). -/

namespace Sys2Proof.Machine

/-- Entry to WARNING (R64, R207, R208): POWER_WARNING is posted, and every operation in flight ends. DESIGN CHOICE:
CAL_ABORTED is posted after POWER_WARNING, lane 1 first (log 42). -/
def State.enterWarning (s : State) : State :=
  ((s.modPower fun p => { p with supply := .warning }).post .powerWarning none .none (.warning true)).eachLane fun t n =>
    t.abortOp n .warning

/-- The supply judged against the warning level in NORMAL (R207). -/
def State.judgeSupply (s : State) (mv : Nat) : State :=
  if s.power.supply = .normal ∧ mv < s.ret.settings.warnLevel * 1000 then s.enterWarning else s

/-- The supply above the warning release in WARNING (R207, R208): each postponed decision is called. -/
def State.warningEnds (s : State) (mv : Nat) : State :=
  if s.power.supply = .warning ∧ s.ret.settings.warnLevel * 1000 + Config.warningReleaseMv < mv then
    ((s.modPower fun p => { p with supply := .normal }).post .powerWarning none .none (.warning false)).eachLane
      fun t n => t.modLane n fun l => { l with postponed := false }
  else s

/-- What a reset leaves in the update copy (R209). -/
def State.caughtCopy (s : State) (c : Caught) : UpdateCopy :=
  match c with
  | .empty => .empty
  | .incomplete => .incomplete
  | .complete => (s.writeCopy s.ret).copy

/-- The part is held in reset with a cause; the update copy is as the reset caught it. -/
def State.holdReset (s : State) (cause : StartCause) (c : Caught) : State :=
  { (s.modPower fun p => { p with held := some cause }) with copy := if s.running then s.caughtCopy c else s.copy }

/-- The brown-out reset (R207). -/
def State.brownsOut (s : State) (mv : Nat) (c : Caught) : State :=
  if mv < Config.resetEntryMv then (s.holdReset .power c).modPower fun p => { p with supply := .reset } else s

/-- The reset line holds the part; a loss of supply stays the cause (R210). -/
def State.lineResets (s : State) (c : Caught) : State :=
  s.holdReset (if s.power.held = some .power then .power else .line) c

/-- The part leaves reset (R210). -/
def State.leavesReset (s : State) (env : StartEnv) : State :=
  match s.power.held with
  | none => s
  | some cause => if s.supplyReleases env.supplyMv then s.startUp cause env else s

/-- SUPPLY_WARNING_ENTER (R208). -/
def execSupplyWarningEnter (mv : Nat) (s : State) : Host.Outcome State Fault Refusal :=
  .next (s.whileRunning (s.judgeSupply mv))

/-- SUPPLY_WARNING_END (R208). -/
def execSupplyWarningEnd (mv : Nat) (s : State) : Host.Outcome State Fault Refusal :=
  .next (s.whileRunning (s.warningEnds mv))

/-- BROWN_OUT_RESET (R207). -/
def execBrownOutReset (mv : Nat) (c : Caught) (s : State) : Host.Outcome State Fault Refusal := .next (s.brownsOut mv c)

/-- RESET_LINE (R210). -/
def execResetLine (c : Caught) (s : State) : Host.Outcome State Fault Refusal := .next (s.lineResets c)

/-- START_UP (R210). -/
def execStartUp (env : StartEnv) (s : State) : Host.Outcome State Fault Refusal := .next (s.leavesReset env)

end Sys2Proof.Machine
end

