-- ==== Sys2Proof/Machine/TableRecords.lean ====
section
/-! DEFINITION. The meanings of the table records: VEHICLE, ACCOUNT, IDENT, TICKETS and STOCK (R106, R124 to R126, R133,
R135, R162, R171, R175). -/

namespace Sys2Proof.Machine

/-- A record whose values are examined first and the supply next (R124, R204): BAD_ARGUMENT, then BUSY, then what the
rule goes on with. -/
def State.guarded {α β : Type} (b : Body α) (read : α → Option β) (act : β → State → State × ResultCode) (s : State) :
    State × ResultCode :=
  match b with
  | .misfit => (s, .badArgument)
  | .item a =>
    match read a with
    | none => (s, .badArgument)
    | some f => if s.warning then (s, .busy) else act f s

/-! ### VEHICLE (R124 to R126) -/

/-- The stored tare a WRITE leaves (R124, R125). -/
def writtenTare (c : TareChoice) (now : SiteTime) (old : Option Tare) : Option Tare :=
  match c with
  | .value kg => some ⟨kg, .loaded, now⟩
  | .absent => none
  | .keep => old

/-- The entry a WRITE makes, over the tare that stood (R124, R125). -/
def writtenVehicle (f : VehicleFields) (now : SiteTime) (old : Option Tare) : Vehicle where
  token := f.token
  account := f.account
  cls := f.cls
  kind := f.kind
  stream := f.stream
  gross := f.gross
  tare := writtenTare f.tare now old
  mask := f.mask
  barred := f.barred
  origin := .loaded
  lastUse := now

/-- VEHICLE WRITE, its fields read (R124, R125). -/
def State.vehicleWrites (f : VehicleFields) (s : State) : State × ResultCode :=
  match s.vehicleOf f.token with
  | some old =>
    (s.modIdent fun i =>
      { i with
        vehicles := putVehicle (writtenVehicle f s.now old.tare) i.vehicles
        provisional := if old.origin = .provisional then i.provisional - 1 else i.provisional }, .ok)
  | none =>
    if Config.vehicleMax ≤ s.ret.ident.vehicles.length then (s, .full)
    else (s.modIdent fun i => { i with vehicles := putVehicle (writtenVehicle f s.now none) i.vehicles }, .ok)

/-- VEHICLE DELETE, its token read (R126). -/
def State.vehicleDeletes (t : Token) (s : State) : State × ResultCode :=
  match s.vehicleOf t with
  | none => (s, .notFound)
  | some v =>
    if (s.visitNaming t).isSome || s.isIdentity t then (s, .inUse)
    else
      ((s.modIdent fun i =>
        { i with
          vehicles := dropVehicle t i.vehicles
          provisional := if v.origin = .provisional then i.provisional - 1 else i.provisional }).unlist t, .ok)

/-! ### ACCOUNT (R133, R135) -/

/-- ACCOUNT WRITE, its fields read (R133). -/
def State.accountWrites (f : AccountFields) (s : State) : State × ResultCode :=
  (s.modAccount f.account fun a =>
    { a with
      state := f.state, allowance := f.allowance, limitKind := f.limitKind, approval := f.approval
      stream := f.stream }, .ok)

/-- ACCOUNT PERIOD RESET, for one account or for all (R135). -/
def State.periodResets (which : Option (Fin 256)) (s : State) : State × ResultCode :=
  match which with
  | some a => (s.modAccount a fun c => { c with consumed := 0 }, .ok)
  | none => (s.modIdent fun i => { i with accounts := i.accounts.map fun c => { c with consumed := 0 } }, .ok)

/-! ### IDENT (R106) -/

/-- IDENT (R106). -/
def State.idents (b : Body IdentItem) (n : Lane) (s : State) : State × ResultCode :=
  match b with
  | .misfit => (s, .badArgument)
  | .item i =>
    match identFields i with
    | none => (s, .badArgument)
    | some (stream, kind) =>
      if (s.lane n).state = .occupied then (s.identify n i.token .ident stream kind, .ok) else (s, .wrongState)

/-! ### TICKETS (R171, R175) -/

/-- The tickets from the oldest through a number, where the journal has it, and those after (R171). -/
def splitJournal (k : Nat) : List Ticket → Option (List Ticket × List Ticket)
  | [] => none
  | t :: ts => if t.number = k then some ([t], ts) else (splitJournal k ts).map fun (a, b) => (t :: a, b)

/-- A ticket has a print job, or is the held ticket of a lane HELD with reason PRINT (R171). -/
def State.ticketInUse (s : State) (k : Nat) : Bool :=
  (s.printing.queue.any fun j => j.ticket == k)
    || s.lanes.toList.any fun l => decide (l.state = .held .print) && decide (l.heldTicket = some k)

/-- TICKETS RELEASE, its number read (R171): the tickets go, and the closes held for the journal are made (R158). -/
def State.ticketsReleased (k : Nat) (s : State) : State × ResultCode :=
  match splitJournal k s.ret.tickets.journal with
  | none => (s, .notFound)
  | some (gone, kept) =>
    if gone.any fun t => s.ticketInUse t.number then (s, .inUse)
    else ((s.modTickets fun j => { j with journal := kept }).heldCloses, .ok)

/-- The queue can take no copy job (R175). -/
def State.noCopyRoom (s : State) : Bool :=
  decide (Config.printMax ≤ s.printing.queue.length)
    || decide (Config.copyMax ≤ s.printing.queue.countP fun j => j.copy)

/-- TICKETS REPRINT, its number and lane read (R175). -/
def State.ticketReprints (f : Nat × Lane) (s : State) : State × ResultCode :=
  match s.ticketNumbered f.1, (s.laneSettings f.2).printer with
  | none, _ => (s, .notFound)
  | some _, none => (s, .wrongState)
  | some t, some a =>
    if 255 ≤ t.copies then (s, .limit)
    else if s.noCopyRoom then (s, .full)
    else (s.queueJob f.1 f.2 a true, .ok)

/-! ### STOCK (R162) -/

/-- STOCK, its stream and value read (R161, R162). -/
def State.stockSet (f : Fin 8 × Nat) (s : State) : State × ResultCode :=
  ((s.modTraffic fun t => t.modStream f.1 fun r => { r with stock := f.2 }).judgeLevels f.1
    (committed (s.streamTotals f.1)), .ok)

/-! ### Meanings -/

/-- VEHICLE WRITE (R124). -/
def execVehicleWrite (h : RecHead) (b : Body VehicleItem) (s : State) : Host.Outcome State Fault Refusal :=
  .next (s.takeSite h (State.guarded b vehicleFields State.vehicleWrites))

/-- VEHICLE DELETE (R126). -/
def execVehicleDelete (h : RecHead) (b : Body Token) (s : State) : Host.Outcome State Fault Refusal :=
  .next (s.takeSite h (State.guarded b some State.vehicleDeletes))

/-- ACCOUNT WRITE (R133). -/
def execAccountWrite (h : RecHead) (b : Body AccountItem) (s : State) : Host.Outcome State Fault Refusal :=
  .next (s.takeSite h (State.guarded b accountFields State.accountWrites))

/-- ACCOUNT PERIOD RESET (R135). -/
def execAccountPeriodReset (h : RecHead) (b : Body (BitVec 16)) (s : State) : Host.Outcome State Fault Refusal :=
  .next (s.takeSite h (State.guarded b periodAccounts State.periodResets))

/-- IDENT (R106). -/
def execIdent (h : RecHead) (b : Body IdentItem) (s : State) : Host.Outcome State Fault Refusal :=
  .next (s.takeLane h (State.idents b))

/-- TICKETS RELEASE (R171). -/
def execTicketsRelease (h : RecHead) (b : Body (BitVec 32)) (s : State) : Host.Outcome State Fault Refusal :=
  .next (s.takeSite h (State.guarded b ticketOf State.ticketsReleased))

/-- TICKETS REPRINT (R175). -/
def execTicketsReprint (h : RecHead) (b : Body ReprintItem) (s : State) : Host.Outcome State Fault Refusal :=
  .next (s.takeSite h (State.guarded b reprintFields State.ticketReprints))

/-- STOCK (R162). -/
def execStock (h : RecHead) (b : Body StockItem) (s : State) : Host.Outcome State Fault Refusal :=
  .next (s.takeSite h (State.guarded b stockFields State.stockSet))

end Sys2Proof.Machine
end

