-- ==== Sys2Proof/Machine/SetupRecords.lean ====
section
/-! DEFINITION. The meanings of the SETUP items (R3, R5, R25, R35, R44, R50, R75, R86, R94, R97, R123, R131, R160, R164,
R173, R195, R207). -/

namespace Sys2Proof.Machine

/-- The settings section changes and the record is answered OK. -/
def State.settingsSet (f : Settings → Settings) (s : State) : State × ResultCode := (s.modSettings f, .ok)

/-- A lane's settings change and the record is answered OK. -/
def State.laneSettingsSet (n : Lane) (f : LaneSettings → LaneSettings) (s : State) : State × ResultCode :=
  (s.modLaneSettings n f, .ok)

/-- A deck's settings change and the record is answered OK. -/
def State.deckSettingsSet (n : Lane) (f : DeckSettings → DeckSettings) (s : State) : State × ResultCode :=
  (s.modDeckSettings n f, .ok)

/-- The deck cells item, its count read (R5, R9). -/
def State.cellsSet (n : Lane) (count : Nat) (s : State) : State × ResultCode :=
  if (s.lane n).state ≠ .closed then (s, .wrongState)
  else if (s.deck n).op.isSome then (s, .busy)
  else if (s.deckSettings n).cells = count then (s, .ok)
  else
    (((s.modDeckSettings n fun d => { d with cells := count }).modCal n fun c =>
      { c with zeroDone := false, spanDone := false }).afterReasons n (s.reasons n), .ok)

/-- The settings of one loop replaced (R75). -/
def setLoopSettings (side : LoopSide) (cfg : LoopSettings) (t : LaneSettings) : LaneSettings :=
  match side with
  | .entry => { t with entryLoop := cfg }
  | .clear => { t with clearLoop := cfg }

/-- The loop item, its fields read (R75). -/
def State.loopSet (n : Lane) (f : LoopSide × LoopSettings × Bool) (s : State) : State × ResultCode :=
  let s1 := s.modLaneSettings n (setLoopSettings f.1 f.2.1)
  (if f.2.2 then s1.relearn n f.1 else s1, .ok)

/-- The waiting-list item, its fields read (R97). -/
def State.listsSet (f : Quad Nat × Nat) (s : State) : State × ResultCode :=
  if 32 < f.1.toList.sum then (s, .limit)
  else if Lane.all.any fun n => decide (f.1.get n < (s.list n).length) then (s, .inUse)
  else
    (s.modSettings fun t =>
      { t with lanes := Quad.ofFn fun n => { t.lanes.get n with depth := f.1.get n }, listAge := f.2 }, .ok)

/-- The vehicle table item, its fields read (R123). -/
def State.vehicleTableSet (f : Nat × Nat × Nat) (s : State) : State × ResultCode :=
  if f.1 < s.ret.ident.provisional then (s, .inUse)
  else s.settingsSet fun t => { t with learnLimit := f.1, provAge := f.2.1, tareAge := f.2.2 }

/-- The supply item, its level read: the supply is judged at once (R207). -/
def State.warnLevelSet (mv : Nat) (level : Nat) (s : State) : State × ResultCode :=
  ((s.modSettings fun t => { t with warnLevel := level }).judgeSupply mv, .ok)

/-! ### Meanings -/

/-- SETUP slot plan (R3). -/
def execSetupSlotPlan (h : RecHead) (b : Body (Vector Byte 16)) (s : State) : Host.Outcome State Fault Refusal :=
  .next (s.takeSite h (State.guarded b planFields fun p => State.settingsSet fun t => { t with slotPlan := p }))

/-- SETUP deck cells (R5). -/
def execSetupDeckCells (h : RecHead) (b : Body Byte) (s : State) : Host.Outcome State Fault Refusal :=
  .next (s.takeLane h fun n => State.guarded b (fun c => ranged 1 8 c.toNat) (State.cellsSet n))

/-- SETUP deck filter (R25). -/
def execSetupDeckFilter (h : RecHead) (b : Body Byte) (s : State) : Host.Outcome State Fault Refusal :=
  .next (s.takeLane h fun n =>
    State.guarded b depthOf fun k => State.deckSettingsSet n fun d => { d with depth := k })

/-- SETUP deck settling (R35). -/
def execSetupDeckSettling (h : RecHead) (b : Body SettlingItem) (s : State) : Host.Outcome State Fault Refusal :=
  .next (s.takeLane h fun n => State.guarded b settlingFields (State.deckSettingsSet n))

/-- SETUP occupancy level (R44). -/
def execSetupOccupancyLevel (h : RecHead) (b : Body (BitVec 16)) (s : State) : Host.Outcome State Fault Refusal :=
  .next (s.takeLane h fun n =>
    State.guarded b (fun v => some (adjusted 100 5000 v.toNat)) fun k =>
      State.laneSettingsSet n fun t => { t with occupancy := k })

/-- SETUP part age (R50). -/
def execSetupPartAge (h : RecHead) (b : Body (BitVec 16)) (s : State) : Host.Outcome State Fault Refusal :=
  .next (s.takeLane h fun n =>
    State.guarded b (fun v => ranged 1 600 v.toNat) fun k => State.laneSettingsSet n fun t => { t with partAge := k })

/-- SETUP loop (R75). -/
def execSetupLoop (h : RecHead) (b : Body LoopItem) (s : State) : Host.Outcome State Fault Refusal :=
  .next (s.takeLane h fun n => State.guarded b loopFields (State.loopSet n))

/-- SETUP barrier (R86). -/
def execSetupBarrier (h : RecHead) (b : Body BarrierItem) (s : State) : Host.Outcome State Fault Refusal :=
  .next (s.takeLane h fun n =>
    State.guarded b barrierFields fun c => State.laneSettingsSet n fun t => { t with barrier := c })

/-- SETUP lane policy (R94). -/
def execSetupLanePolicy (h : RecHead) (b : Body PolicyItem) (s : State) : Host.Outcome State Fault Refusal :=
  .next (s.takeLane h fun n =>
    State.guarded b policyFields fun p => State.laneSettingsSet n fun t => { t with policy := p })

/-- SETUP waiting list (R97). -/
def execSetupWaitingList (h : RecHead) (b : Body ListItem) (s : State) : Host.Outcome State Fault Refusal :=
  .next (s.takeSite h (State.guarded b listFields State.listsSet))

/-- SETUP vehicle table (R123). -/
def execSetupVehicleTable (h : RecHead) (b : Body VehicleTableItem) (s : State) : Host.Outcome State Fault Refusal :=
  .next (s.takeSite h (State.guarded b vehicleTableFields State.vehicleTableSet))

/-- SETUP class (R131). -/
def execSetupClass (h : RecHead) (b : Body ClassItem) (s : State) : Host.Outcome State Fault Refusal :=
  .next (s.takeSite h (State.guarded b classFields fun f =>
    State.settingsSet fun t => { t with classes := t.classes.set f.1 f.2 }))

/-- SETUP stream (R160). -/
def execSetupStream (h : RecHead) (b : Body StreamItem) (s : State) : Host.Outcome State Fault Refusal :=
  .next (s.takeSite h (State.guarded b streamFields fun f =>
    State.settingsSet fun t => { t with streams := t.streams.set f.1 f.2 }))

/-- SETUP admission (R164). -/
def execSetupAdmission (h : RecHead) (b : Body AdmissionItem) (s : State) : Host.Outcome State Fault Refusal :=
  .next (s.takeSite h (State.guarded b admissionFields fun f =>
    State.settingsSet fun t => { t with approvalTimeout := f.1, permitCap := f.2 }))

/-- SETUP printer (R173). -/
def execSetupPrinter (h : RecHead) (b : Body PrinterItem) (s : State) : Host.Outcome State Fault Refusal :=
  .next (s.takeLane h fun n =>
    State.guarded b printerFields fun f =>
      State.laneSettingsSet n fun t => { t with printer := f.1, printFirst := f.2 })

/-- SETUP link (R195). -/
def execSetupLink (h : RecHead) (b : Body LinkItem) (s : State) : Host.Outcome State Fault Refusal :=
  .next (s.takeSite h (State.guarded b linkFields fun f =>
    State.settingsSet fun t => { t with replyLimit := f.1, linkTimeout := f.2 }))

/-- SETUP supply (R207). -/
def execSetupSupply (h : RecHead) (b : Body Byte) (supplyMv : Nat) (s : State) : Host.Outcome State Fault Refusal :=
  .next (s.takeSite h (State.guarded b warnLevelOf (State.warnLevelSet supplyMv)))

end Sys2Proof.Machine
end

