-- ==== Sys2Proof/Machine/SiteRecords.lean ====
section
/-! DEFINITION. The meanings of the site records: SITE, DAY, RESET and TIME (R117, R163, R199, R212). -/

namespace Sys2Proof.Machine

/-- SITE CLOSE at one lane (R117). -/
def State.siteClosesLane (s : State) (n : Lane) : State :=
  match (s.lane n).state with
  | .idle => s.enterClosed n
  | .closed => s
  | _ => s.modLane n fun l => { l with closePending := true }

/-- SITE CLOSE (R117). -/
def State.siteCloses (s : State) : State × ResultCode :=
  ((s.modSettings fun t => { t with siteMode := .closed }).eachLane State.siteClosesLane, .ok)

/-- SITE OPEN (R117). -/
def State.siteOpens (s : State) : State × ResultCode :=
  ((s.modSettings fun t => { t with siteMode := .opened }).eachLane fun t n =>
    t.modLane n fun l => { l with closePending := false }, .ok)

/-- DAY (R163). -/
def State.newDay (s : State) : State × ResultCode := (s.modTraffic fun t => { t with accepted := 0 }, .ok)

/-- RESET LINK (R201, R212). -/
def State.linkResets (s : State) : State × ResultCode :=
  ({ s.modLink fun p => { p with errors := LinkErrors.none } with events := ⟨[], false, 0⟩ }, .ok)

/-- RESET LANES (R212). -/
def State.lanesReset (s : State) : State × ResultCode := (s.resetLanes, .ok)

/-- RESET ALL (R212): the rest of the transmission is passed over, and it gives the turn; the start-up waits for the
END. -/
def State.allResets (s : State) : State × ResultCode :=
  (s.modLink fun p => { p with port := .discarding, turn := true, resetAll := true }, .ok)

/-- TIME (R199). -/
def State.timeSet (b : Body SiteTime) (s : State) : State × ResultCode :=
  match b with
  | .misfit => (s, .badArgument)
  | .item t => (s.modClock fun c => { c with siteTime := t, unset := false }, .ok)

/-- SITE OPEN (R117). -/
def execSiteOpen (h : RecHead) (s : State) : Host.Outcome State Fault Refusal := .next (s.takeSite h State.siteOpens)

/-- SITE CLOSE (R117). -/
def execSiteClose (h : RecHead) (s : State) : Host.Outcome State Fault Refusal := .next (s.takeSite h State.siteCloses)

/-- DAY (R163). -/
def execDay (h : RecHead) (s : State) : Host.Outcome State Fault Refusal := .next (s.takeSite h State.newDay)

/-- RESET LINK (R212). -/
def execResetLink (h : RecHead) (s : State) : Host.Outcome State Fault Refusal := .next (s.takeSite h State.linkResets)

/-- RESET LANES (R212). -/
def execResetLanes (h : RecHead) (s : State) : Host.Outcome State Fault Refusal := .next (s.takeSite h State.lanesReset)

/-- RESET ALL (R212). -/
def execResetAll (h : RecHead) (s : State) : Host.Outcome State Fault Refusal := .next (s.takeSite h State.allResets)

/-- TIME (R199). -/
def execTime (h : RecHead) (b : Body SiteTime) (s : State) : Host.Outcome State Fault Refusal :=
  .next (s.takeSite h (State.timeSet b))

end Sys2Proof.Machine
end

