-- ==== Sys2Proof/Machine/Dispatch.lean ====
section
/-! DEFINITION. The effect of every command: one arm for each, each a direct call of its meaning. -/

namespace Sys2Proof.Machine

def exec (i : Instr) (s : State) : Host.Outcome State Fault Refusal :=
  match i with
  | .frameStart => Sys2Proof.Machine.execFrameStart s
  | .deckSample slot cells ref => Sys2Proof.Machine.execDeckSample slot cells ref s
  | .zeroCaptureComplete slot cells ref => Sys2Proof.Machine.execZeroCaptureComplete slot cells ref s
  | .spanCaptureComplete slot cells ref => Sys2Proof.Machine.execSpanCaptureComplete slot cells ref s
  | .siteTimeAdvance => Sys2Proof.Machine.execSiteTimeAdvance s
  | .loopStuck n side => Sys2Proof.Machine.execLoopStuck n side s
  | .approvalTimeout visit => Sys2Proof.Machine.execApprovalTimeout visit s
  | .passTimeout n => Sys2Proof.Machine.execPassTimeout n s
  | .minuteSweep => Sys2Proof.Machine.execMinuteSweep s
  | .linkLost => Sys2Proof.Machine.execLinkLost s
  | .loopMeasurement n side p => Sys2Proof.Machine.execLoopMeasurement n side p s
  | .learningEnd n side => Sys2Proof.Machine.execLearningEnd n side s
  | .limitSwitchChange n side active => Sys2Proof.Machine.execLimitSwitchChange n side active s
  | .comparatorTrip n => Sys2Proof.Machine.execComparatorTrip n s
  | .comparatorBlankingEnd n => Sys2Proof.Machine.execComparatorBlankingEnd n s
  | .barrierRampStep n => Sys2Proof.Machine.execBarrierRampStep n s
  | .travelTimeout n => Sys2Proof.Machine.execTravelTimeout n s
  | .reversingPauseEnd n => Sys2Proof.Machine.execReversingPauseEnd n s
  | .tokenFrame n side bytes => Sys2Proof.Machine.execTokenFrame n side bytes s
  | .tokenFrameGap n side => Sys2Proof.Machine.execTokenFrameGap n side s
  | .admissionProcedure n => Sys2Proof.Machine.execAdmissionProcedure n s
  | .exitProcedure n => Sys2Proof.Machine.execExitProcedure n s
  | .close n => Sys2Proof.Machine.execClose n s
  | .printLineTransfer acked => Sys2Proof.Machine.execPrintLineTransfer acked s
  | .printerStatusRead r => Sys2Proof.Machine.execPrinterStatusRead r s
  | .printTimeout => Sys2Proof.Machine.execPrintTimeout s
  | .transmissionEnd cut => Sys2Proof.Machine.execTransmissionEnd cut s
  | .replyComplete => Sys2Proof.Machine.execReplyComplete s
  | .headerBad f => Sys2Proof.Machine.execHeaderBad f s
  | .recordNotExecuted r => Sys2Proof.Machine.execRecordNotExecuted r s
  | .turn h => Sys2Proof.Machine.execTurn h s
  | .siteOpen h => Sys2Proof.Machine.execSiteOpen h s
  | .siteClose h => Sys2Proof.Machine.execSiteClose h s
  | .laneOpen h => Sys2Proof.Machine.execLaneOpen h s
  | .laneClose h => Sys2Proof.Machine.execLaneClose h s
  | .laneClear h => Sys2Proof.Machine.execLaneClear h s
  | .barrierRaise h => Sys2Proof.Machine.execBarrierRaise h s
  | .barrierLower h => Sys2Proof.Machine.execBarrierLower h s
  | .barrierReset h => Sys2Proof.Machine.execBarrierReset h s
  | .approve h visit => Sys2Proof.Machine.execApprove h visit s
  | .decline h visit => Sys2Proof.Machine.execDecline h visit s
  | .returnVisit h visit => Sys2Proof.Machine.execReturnVisit h visit s
  | .zero h => Sys2Proof.Machine.execZero h s
  | .day h => Sys2Proof.Machine.execDay h s
  | .resetLink h => Sys2Proof.Machine.execResetLink h s
  | .resetLanes h => Sys2Proof.Machine.execResetLanes h s
  | .resetAll h => Sys2Proof.Machine.execResetAll h s
  | .time h b => Sys2Proof.Machine.execTime h b s
  | .vehicleWrite h b => Sys2Proof.Machine.execVehicleWrite h b s
  | .vehicleDelete h b => Sys2Proof.Machine.execVehicleDelete h b s
  | .accountWrite h b => Sys2Proof.Machine.execAccountWrite h b s
  | .accountPeriodReset h b => Sys2Proof.Machine.execAccountPeriodReset h b s
  | .ident h b => Sys2Proof.Machine.execIdent h b s
  | .zeroCapture h b => Sys2Proof.Machine.execZeroCapture h b s
  | .spanCapture h b => Sys2Proof.Machine.execSpanCapture h b s
  | .trim h b => Sys2Proof.Machine.execTrim h b s
  | .range h b => Sys2Proof.Machine.execRange h b s
  | .abort h => Sys2Proof.Machine.execAbort h s
  | .ticketsRelease h b => Sys2Proof.Machine.execTicketsRelease h b s
  | .ticketsReprint h b => Sys2Proof.Machine.execTicketsReprint h b s
  | .stock h b => Sys2Proof.Machine.execStock h b s
  | .setupSlotPlan h b => Sys2Proof.Machine.execSetupSlotPlan h b s
  | .setupDeckCells h b => Sys2Proof.Machine.execSetupDeckCells h b s
  | .setupDeckFilter h b => Sys2Proof.Machine.execSetupDeckFilter h b s
  | .setupDeckSettling h b => Sys2Proof.Machine.execSetupDeckSettling h b s
  | .setupOccupancyLevel h b => Sys2Proof.Machine.execSetupOccupancyLevel h b s
  | .setupPartAge h b => Sys2Proof.Machine.execSetupPartAge h b s
  | .setupLoop h b => Sys2Proof.Machine.execSetupLoop h b s
  | .setupBarrier h b => Sys2Proof.Machine.execSetupBarrier h b s
  | .setupLanePolicy h b => Sys2Proof.Machine.execSetupLanePolicy h b s
  | .setupWaitingList h b => Sys2Proof.Machine.execSetupWaitingList h b s
  | .setupVehicleTable h b => Sys2Proof.Machine.execSetupVehicleTable h b s
  | .setupClass h b => Sys2Proof.Machine.execSetupClass h b s
  | .setupStream h b => Sys2Proof.Machine.execSetupStream h b s
  | .setupAdmission h b => Sys2Proof.Machine.execSetupAdmission h b s
  | .setupPrinter h b => Sys2Proof.Machine.execSetupPrinter h b s
  | .setupLink h b => Sys2Proof.Machine.execSetupLink h b s
  | .setupSupply h b supplyMv => Sys2Proof.Machine.execSetupSupply h b supplyMv s
  | .readAcquisitionState h b => Sys2Proof.Machine.execReadAcquisitionState h b s
  | .readDeckReadings h b => Sys2Proof.Machine.execReadDeckReadings h b s
  | .readCaptureState h b => Sys2Proof.Machine.execReadCaptureState h b s
  | .readCalibrationState h b => Sys2Proof.Machine.execReadCalibrationState h b s
  | .readLaneDevices h b => Sys2Proof.Machine.execReadLaneDevices h b s
  | .readLaneState h b => Sys2Proof.Machine.execReadLaneState h b s
  | .readWaitingLists h b => Sys2Proof.Machine.execReadWaitingLists h b s
  | .readVehicleTable h b => Sys2Proof.Machine.execReadVehicleTable h b s
  | .readClassTable h b => Sys2Proof.Machine.execReadClassTable h b s
  | .readAccountTable h b => Sys2Proof.Machine.execReadAccountTable h b s
  | .readVisitTable h b => Sys2Proof.Machine.execReadVisitTable h b s
  | .readStreams h b => Sys2Proof.Machine.execReadStreams h b s
  | .readJournal h b => Sys2Proof.Machine.execReadJournal h b s
  | .readPrinters h b => Sys2Proof.Machine.execReadPrinters h b s
  | .readEvents h b => Sys2Proof.Machine.execReadEvents h b s
  | .readLink h b => Sys2Proof.Machine.execReadLink h b s
  | .readSupply h b => Sys2Proof.Machine.execReadSupply h b s
  | .calEnableRise => Sys2Proof.Machine.execCalEnableRise s
  | .calEnableFall => Sys2Proof.Machine.execCalEnableFall s
  | .supplyWarningEnter supplyMv => Sys2Proof.Machine.execSupplyWarningEnter supplyMv s
  | .supplyWarningEnd supplyMv => Sys2Proof.Machine.execSupplyWarningEnd supplyMv s
  | .brownOutReset supplyMv caught => Sys2Proof.Machine.execBrownOutReset supplyMv caught s
  | .resetLine caught => Sys2Proof.Machine.execResetLine caught s
  | .startUp env => Sys2Proof.Machine.execStartUp env s
  | .comparatorClear n => Sys2Proof.Machine.execComparatorClear n s
  | .idleGapAtRelease => Sys2Proof.Machine.execIdleGapAtRelease s

end Sys2Proof.Machine
end

