-- ==== Sys2Proof/WellFormed.lean ====
section
/-! DEFINITION. The commands that the yard, the supply and the line can give: the operands that the spec's ranges allow.
Every command has a meaning whether or not it is well formed. -/

namespace Sys2Proof

/-- A raw count of the converter (R6). -/
def rawCount (c : Int) : Bool := decide (Config.rawMin ≤ c) && decide (c ≤ Config.rawMax)

/-- The counts of a deck sample (R2, R5, R6). -/
def sampleWf (cells : List Int) (ref : Int) : Bool :=
  decide (1 ≤ cells.length) && decide (cells.length ≤ 8) && cells.all rawCount && rawCount ref

/-- A damaged record has an error that stops its execution, and a TURN is damaged by its channel alone (R190, R193). -/
def damagedWf (checksum kindUnknown channelBad turn : Bool) : Bool :=
  (checksum || kindUnknown || channelBad) && (!turn || (channelBad && !checksum && !kindUnknown))

/-- The payload of a TRIM that fits its layout carries one to eight pairs (R204). -/
def trimWf : Body (List TrimPair) → Bool
  | .misfit => true
  | .item ps => decide (1 ≤ ps.length) && decide (ps.length ≤ 8)

/-- A well-formed command. -/
def Instr.wf : Instr → Bool
  | .deckSample _ cells ref => sampleWf cells ref
  | .zeroCaptureComplete _ cells ref => sampleWf cells ref
  | .spanCaptureComplete _ cells ref => sampleWf cells ref
  | .approvalTimeout k => decide (1 ≤ k) && decide (k ≤ Config.visitNumberMax)
  | .loopMeasurement _ _ p => decide (p ≤ 400001)
  | .tokenFrame _ _ bytes => decide (1 ≤ bytes.length) && decide (bytes.length ≤ 9)
  | .recordNotExecuted (.damaged _ sumBad kindBad chanBad isTurn) => damagedWf sumBad kindBad chanBad isTurn
  | .trim _ b => trimWf b
  | _ => true

end Sys2Proof
end

