-- ==== Sys2Proof/Machine/Wire.lean ====
section
/-! DEFINITION. The bytes of the office link: the frame of a byte (R184), the check byte of a header and its judgement
(R187, R188), the payload checksum (R189), the reading of a host's transmission into commands (R185, R186, R202, R204,
R205), and the writing of records and of replies (R192, R202). -/

namespace Sys2Proof.Machine

/-! ### The frame of a byte (R184) -/

/-- The ten bits of a byte: a start bit, the data bits with the least significant first, and a stop bit. -/
def byteFrame (b : Byte) : List Bool := false :: (List.range 8).map (fun i => b.getLsbD i) ++ [true]

/-- The byte of a frame, taken with its eight data bits whatever its stop bit. -/
def frameByte (bits : List Bool) : Byte := BitVec.ofNat 8 (bitsValue ((bits.drop 1).take 8))

/-! ### The check byte (R187, R188) -/

/-- The code of each data bit, D0 first: the six-bit values with three or five bits set, in increasing order. -/
def bitCodes : List (BitVec 6) :=
  [7, 11, 13, 14, 19, 21, 22, 25, 26, 28, 31, 35, 37, 38, 41, 42, 44, 47, 49, 50, 52, 55, 56, 59]

/-- The exclusive-or of the codes of the data bits that are 1, from the bit numbered on. -/
def xorCodes (d : BitVec 24) : Nat → List (BitVec 6) → BitVec 6
  | _, [] => 0
  | j, c :: cs => (if d.getLsbD j then c else 0) ^^^ xorCodes d (j + 1) cs

/-- The six check bits of a header's data bits (R187). -/
def checkBits (d : BitVec 24) : BitVec 6 := xorCodes d 0 bitCodes

/-- The check byte as sent: its two high bits 0 (R187). -/
def checkByte (d : BitVec 24) : Byte := (checkBits d).setWidth 8

/-- The syndrome of a header as received (R188). -/
def syndrome (d : BitVec 24) (check : Byte) : BitVec 6 := check.setWidth 6 ^^^ checkBits d

/-- How a header is judged (R188). -/
inductive Judgement where
  | clean (d : BitVec 24)
  | corrected (d : BitVec 24)
  | bad
  deriving DecidableEq, Repr

/-- The data bit whose code is the syndrome, from the bit numbered on. -/
def damagedBit (x : BitVec 6) : Nat → List (BitVec 6) → Option Nat
  | _, [] => none
  | j, c :: cs => if c = x then some j else damagedBit x (j + 1) cs

/-- The judgement of a header (R188). -/
def judgeHeader (d : BitVec 24) (check : Byte) : Judgement :=
  let x := syndrome d check
  if x = 0 then .clean d
  else if x = 1 ∨ x = 2 ∨ x = 4 ∨ x = 8 ∨ x = 16 ∨ x = 32 then .corrected d
  else
    match damagedBit x 0 bitCodes with
    | some j => .corrected (d ^^^ (1#24 <<< j))
    | none => .bad

/-! ### The checksum (R189) -/

/-- One bit taken by the register, most significant first. -/
def crcBit (r : BitVec 16) (b : Bool) : BitVec 16 :=
  if r.msb = b then r <<< 1 else (r <<< 1) ^^^ 4129#16

/-- One byte taken by the register. -/
def crcByte (r : BitVec 16) (b : Byte) : BitVec 16 :=
  [7, 6, 5, 4, 3, 2, 1, 0].foldl (fun r i => crcBit r (b.getLsbD i)) r

/-- The checksum of a payload. -/
def checksum (payload : List Byte) : BitVec 16 := payload.foldl crcByte 65535#16

/-! ### Headers (R186, R202) -/

/-- A header's data bits. -/
def headerOf (chan kind : Nat) (arg : BitVec 16) : BitVec 24 :=
  (BitVec.ofNat 3 chan ++ BitVec.ofNat 5 kind) ++ arg

def headerChan (d : BitVec 24) : Nat := (d.extractLsb' 21 3).toNat
def headerKind (d : BitVec 24) : Nat := (d.extractLsb' 16 5).toNat
def headerArg (d : BitVec 24) : BitVec 16 := d.extractLsb' 0 16

/-- A long kind (R202). -/
def longKind (kind : Nat) : Bool := decide (16 ≤ kind)

/-- A kind the host may send (R202). -/
def hostKind (kind : Nat) : Bool := decide (kind ≤ 9) || (decide (16 ≤ kind) && decide (kind ≤ 24))

/-- The channel of a number from 0 to 4 (R191). -/
def chanOf (n : Nat) : Chan :=
  match Lane.ofNumber n with
  | some l => .lane l
  | none => .site

def chanNumber : Chan → Nat
  | .site => 0
  | .lane n => n.number

/-! ### Payloads (R204, R205) -/

def be16 (a b : Byte) : BitVec 16 := a ++ b
def be32 (a b c d : Byte) : BitVec 32 := a ++ b ++ c ++ d
def be64 (a b c d e f g h : Byte) : BitVec 64 := a ++ b ++ c ++ d ++ e ++ f ++ g ++ h

/-- The bytes of a value, most significant first. -/
def split16 (v : BitVec 16) : List Byte := [v.extractLsb' 8 8, v.extractLsb' 0 8]
def split32 (v : BitVec 32) : List Byte :=
  [v.extractLsb' 24 8, v.extractLsb' 16 8, v.extractLsb' 8 8, v.extractLsb' 0 8]
def split64 (v : BitVec 64) : List Byte :=
  [v.extractLsb' 56 8, v.extractLsb' 48 8, v.extractLsb' 40 8, v.extractLsb' 32 8, v.extractLsb' 24 8,
    v.extractLsb' 16 8, v.extractLsb' 8 8, v.extractLsb' 0 8]

def bodyUnit : List Byte → Body Unit
  | [] => .item ()
  | _ => .misfit
def bodyByte : List Byte → Body Byte
  | [a] => .item a
  | _ => .misfit
def body16 : List Byte → Body (BitVec 16)
  | [a, b] => .item (be16 a b)
  | _ => .misfit
def body32 : List Byte → Body (BitVec 32)
  | [a, b, c, d] => .item (be32 a b c d)
  | _ => .misfit
def bodyToken : List Byte → Body Token
  | [a, b, c, d, e, f, g, h] => .item (be64 a b c d e f g h)
  | _ => .misfit
def bodyVehicle : List Byte → Body VehicleItem
  | [a, b, c, d, e, f, g, h, account, cls, kind, stream, g0, g1, g2, g3, mask, barred, choice, t0, t1, t2, t3] =>
    .item ⟨be64 a b c d e f g h, account, cls, kind, stream, be32 g0 g1 g2 g3, mask, barred, choice,
      be32 t0 t1 t2 t3⟩
  | _ => .misfit
def bodyAccount : List Byte → Body AccountItem
  | [account, state, a, b, c, d, limitKind, approval, stream] =>
    .item ⟨account, state, be32 a b c d, limitKind, approval, stream⟩
  | _ => .misfit
def bodyIdent : List Byte → Body IdentItem
  | [a, b, c, d, e, f, g, h, stream, kind] => .item ⟨be64 a b c d e f g h, stream, kind⟩
  | _ => .misfit
def bodyRange : List Byte → Body RangeItem
  | [a, b, c, d, division] => .item ⟨be32 a b c d, division⟩
  | _ => .misfit
def bodyReprint : List Byte → Body ReprintItem
  | [a, b, c, d, lane] => .item ⟨be32 a b c d, lane⟩
  | _ => .misfit
def bodyStock : List Byte → Body StockItem
  | [stream, a, b, c, d] => .item ⟨stream, be32 a b c d⟩
  | _ => .misfit
def bodyVehicleStart : List Byte → Body VehicleStart
  | [a, b, c, d, e, f, g, h, single] => .item ⟨be64 a b c d e f g h, single⟩
  | _ => .misfit
def bodyVisitStart : List Byte → Body VisitStart
  | [a, b, single] => .item ⟨be16 a b, single⟩
  | _ => .misfit
def bodyPlan : List Byte → Body (Vector Byte 16)
  | [a, b, c, d, e, f, g, h, i, j, k, l, m, n, o, p] => .item #v[a, b, c, d, e, f, g, h, i, j, k, l, m, n, o, p]
  | _ => .misfit
def bodySettling : List Byte → Body SettlingItem
  | [a, b, t1, t2, t3, t4] => .item ⟨be16 a b, t1, t2, t3, t4⟩
  | _ => .misfit
def bodyLoop : List Byte → Body LoopItem
  | [loop, a, b, c, d, e, f, relearn] => .item ⟨loop, be16 a b, be16 c d, be16 e f, relearn⟩
  | _ => .misfit
def bodyBarrier : List Byte → Body BarrierItem
  | [start, run, step, travel] => .item ⟨start, run, step, travel⟩
  | _ => .misfit
def bodyPolicy : List Byte → Body PolicyItem
  | [direction, admitting, account, cls, stream, a, b] => .item ⟨direction, admitting, account, cls, stream, be16 a b⟩
  | _ => .misfit
def bodyLists : List Byte → Body ListItem
  | [a, b, c, d, age] => .item ⟨⟨a, b, c, d⟩, age⟩
  | _ => .misfit
def bodyVehicleTable : List Byte → Body VehicleTableItem
  | [a, b, c, d, e, f] => .item ⟨be16 a b, be16 c d, be16 e f⟩
  | _ => .misfit
def bodyClass : List Byte → Body ClassItem
  | [cls, parts, a, b, c, d, e, f, g, h, i, j, learning] =>
    .item ⟨cls, parts, be32 a b c d, be32 e f g h, be16 i j, learning⟩
  | _ => .misfit
def bodyStream : List Byte → Body StreamItem
  | [stream, c0, c1, c2, c3, state, a0, a1, a2, a3, b0, b1, b2, b3, d0, d1, d2, d3, e0, e1, e2, e3] =>
    .item ⟨stream, be32 c0 c1 c2 c3, state, be32 a0 a1 a2 a3, be32 b0 b1 b2 b3, be32 d0 d1 d2 d3, be32 e0 e1 e2 e3⟩
  | _ => .misfit
def bodyAdmission : List Byte → Body AdmissionItem
  | [a, b, c, d, e, f] => .item ⟨be16 a b, be32 c d e f⟩
  | _ => .misfit
def bodyPrinter : List Byte → Body PrinterItem
  | [address, first] => .item ⟨address, first⟩
  | _ => .misfit
def bodyLink : List Byte → Body LinkItem
  | [a, b, timeout] => .item ⟨be16 a b, timeout⟩
  | _ => .misfit

/-- The pairs of a TRIM, five bytes each. -/
def trimPairs : List Byte → Option (List TrimPair)
  | [] => some []
  | cell :: a :: b :: c :: d :: rest => (trimPairs rest).map (⟨cell, be32 a b c d⟩ :: ·)
  | _ => none

def bodyTrim : List Byte → Body (List TrimPair)
  | [] => .misfit
  | n :: rest =>
    match trimPairs rest with
    | none => .misfit
    | some ps => if ps.length = n.toNat ∧ 1 ≤ n.toNat ∧ n.toNat ≤ 8 then .item ps else .misfit

/-- A SETUP, by its item code (R204). The supply stands at `mv` as it is executed. -/
def decodeSetup (h : RecHead) (code : Nat) (rest : List Byte) (mv : Nat) : Instr :=
  match code with
  | 1 => .setupSlotPlan h (bodyPlan rest)
  | 2 => .setupDeckCells h (bodyByte rest)
  | 3 => .setupDeckFilter h (bodyByte rest)
  | 4 => .setupDeckSettling h (bodySettling rest)
  | 5 => .setupOccupancyLevel h (body16 rest)
  | 6 => .setupPartAge h (body16 rest)
  | 7 => .setupLoop h (bodyLoop rest)
  | 8 => .setupBarrier h (bodyBarrier rest)
  | 9 => .setupLanePolicy h (bodyPolicy rest)
  | 10 => .setupWaitingList h (bodyLists rest)
  | 11 => .setupVehicleTable h (bodyVehicleTable rest)
  | 12 => .setupClass h (bodyClass rest)
  | 13 => .setupStream h (bodyStream rest)
  | 14 => .setupAdmission h (bodyAdmission rest)
  | 15 => .setupPrinter h (bodyPrinter rest)
  | 16 => .setupLink h (bodyLink rest)
  | 17 => .setupSupply h (bodyByte rest) mv
  | _ => .recordNotExecuted (.unlisted h .any)

/-- A READ, by its target code (R205). -/
def decodeRead (h : RecHead) (code : Nat) (rest : List Byte) : Instr :=
  match code with
  | 1 => .readAcquisitionState h (bodyUnit rest)
  | 2 => .readDeckReadings h (bodyUnit rest)
  | 3 => .readCaptureState h (bodyUnit rest)
  | 4 => .readCalibrationState h (bodyUnit rest)
  | 5 => .readLaneDevices h (bodyUnit rest)
  | 6 => .readLaneState h (bodyUnit rest)
  | 7 => .readWaitingLists h (bodyByte rest)
  | 8 => .readVehicleTable h (bodyVehicleStart rest)
  | 9 => .readClassTable h (bodyUnit rest)
  | 10 => .readAccountTable h (bodyByte rest)
  | 11 => .readVisitTable h (bodyVisitStart rest)
  | 12 => .readStreams h (bodyUnit rest)
  | 13 => .readJournal h (body32 rest)
  | 14 => .readPrinters h (bodyUnit rest)
  | 15 => .readEvents h (bodyUnit rest)
  | 16 => .readLink h (bodyUnit rest)
  | 17 => .readSupply h (bodyUnit rest)
  | _ => .recordNotExecuted (.unlisted h .any)

/-- A CAL, by its operation code; a fault of form other than a one-byte ABORT is found at step 8 of R56 (R204). -/
def decodeCal (h : RecHead) (code : Nat) (rest : List Byte) : Instr :=
  match code with
  | 1 => .zeroCapture h (bodyUnit rest)
  | 2 => .trim h (bodyTrim rest)
  | 3 => .spanCapture h (body32 rest)
  | 4 => .range h (bodyRange rest)
  | 5 => if rest = [] then .abort h else .zeroCapture h .misfit
  | _ => .zeroCapture h .misfit

/-- A VEHICLE, an ACCOUNT or a TICKETS, by its operation code (R204). -/
def decodeVehicle (h : RecHead) (code : Nat) (rest : List Byte) : Instr :=
  match code with
  | 1 => .vehicleWrite h (bodyVehicle rest)
  | 2 => .vehicleDelete h (bodyToken rest)
  | _ => .vehicleWrite h .misfit
def decodeAccount (h : RecHead) (code : Nat) (rest : List Byte) : Instr :=
  match code with
  | 1 => .accountWrite h (bodyAccount rest)
  | 2 => .accountPeriodReset h (body16 rest)
  | _ => .accountWrite h .misfit
def decodeTickets (h : RecHead) (code : Nat) (rest : List Byte) : Instr :=
  match code with
  | 1 => .ticketsRelease h (body32 rest)
  | 2 => .ticketsReprint h (bodyReprint rest)
  | _ => .ticketsRelease h .misfit

/-- A clean long record (R202, R204). A payload holds at least one byte (R186). -/
def decodeLong (h : RecHead) (kind : Nat) (payload : List Byte) (mv : Nat) : Instr :=
  let code := match payload with
    | b :: _ => b.toNat
    | [] => 0
  let rest := payload.drop 1
  match kind with
  | 16 => .time h (body32 payload)
  | 17 => decodeSetup h code rest mv
  | 18 => decodeVehicle h code rest
  | 19 => decodeAccount h code rest
  | 20 => .ident h (bodyIdent payload)
  | 21 => decodeRead h code rest
  | 22 => decodeCal h code rest
  | 23 => decodeTickets h code rest
  | _ => .stock h (bodyStock payload)

/-- A clean short record (R202). -/
def decodeShort (h : RecHead) (kind : Nat) (arg : BitVec 16) : Instr :=
  match kind, arg.toNat with
  | 0, _ => .turn h
  | 1, 1 => .siteOpen h
  | 1, 2 => .siteClose h
  | 1, _ => .recordNotExecuted (.unlisted h .site)
  | 2, 1 => .laneOpen h
  | 2, 2 => .laneClose h
  | 2, 3 => .laneClear h
  | 2, _ => .recordNotExecuted (.unlisted h .lane)
  | 3, 1 => .barrierRaise h
  | 3, 2 => .barrierLower h
  | 3, 3 => .barrierReset h
  | 3, _ => .recordNotExecuted (.unlisted h .lane)
  | 4, _ => .approve h arg
  | 5, _ => .decline h arg
  | 6, _ => .returnVisit h arg
  | 7, _ => .zero h
  | 8, _ => .day h
  | _, 1 => .resetLink h
  | _, 2 => .resetLanes h
  | _, 3 => .resetAll h
  | _, _ => .recordNotExecuted (.unlisted h .site)

/-- What a header judged good or corrected adds as it is read (R186, R188). -/
def headerMarks (corrected : Bool) (d : BitVec 24) : HeaderMarks :=
  ⟨corrected, !hostKind (headerKind d), decide (5 ≤ headerChan d)⟩

/-- A complete record as a command: its header judged, its payload with the judgement of its checksum (R186, R190). -/
def decodeRecord (corrected : Bool) (d : BitVec 24) (payload : List Byte) (sumBad : Bool) (mv : Nat) : Instr :=
  let kind := headerKind d
  let m := headerMarks corrected d
  if m.channelBad || m.kindUnknown || sumBad then
    .recordNotExecuted (.damaged corrected sumBad m.kindUnknown m.channelBad (decide (kind = 0)))
  else
    let h : RecHead := ⟨chanOf (headerChan d), corrected⟩
    if longKind kind then decodeLong h kind payload mv else decodeShort h kind (headerArg d)

/-! ### Transmissions (R185, R186) -/

/-- What the next bytes of a transmission give, up to the gap that ends it: a record and the bytes after it, a header
that ends its reading, or a record cut short. -/
inductive WireItem where
  | record (c : Instr) (rest : List Byte)
  | badHeader (f : HeaderFault)
  | cut (m : HeaderMarks)
  deriving DecidableEq, Repr

/-- The rest of a record whose header has been judged. -/
def afterHeader (corrected : Bool) (d : BitVec 24) (rest : List Byte) (mv : Nat) : WireItem :=
  if longKind (headerKind d) then
    let len := (headerArg d).toNat
    if len = 0 ∨ 1024 < len then .badHeader (.length (headerMarks corrected d))
    else
      match rest.drop len with
      | hi :: lo :: tail =>
        .record (decodeRecord corrected d (rest.take len) (be16 hi lo != checksum (rest.take len)) mv) tail
      | _ => .cut (headerMarks corrected d)
  else .record (decodeRecord corrected d [] false mv) rest

/-- The next record of a transmission. -/
def nextItem (bytes : List Byte) (mv : Nat) : WireItem :=
  match bytes with
  | tag :: a :: b :: check :: rest =>
    match judgeHeader (tag ++ a ++ b) check with
    | .clean d => afterHeader false d rest mv
    | .corrected d => afterHeader true d rest mv
    | .bad => .badHeader .bad
  | _ => .cut HeaderMarks.none

/-- The commands of a transmission of these bytes, up to its gap, at most so many records. -/
def readTransmission (mv : Nat) : Nat → List Byte → List Instr
  | 0, _ => [.transmissionEnd none]
  | _, [] => [.transmissionEnd none]
  | fuel + 1, b :: bs =>
    match nextItem (b :: bs) mv with
    | .record c rest => c :: readTransmission mv fuel rest
    | .badHeader f => [.headerBad f, .transmissionEnd none]
    | .cut m => [.transmissionEnd (some m)]

/-- The commands of a transmission (R185): its records in order, and the gap that ends it. -/
def transmission (bytes : List Byte) (mv : Nat) : List Instr := readTransmission mv (bytes.length + 1) bytes

/-- The commands of a transmission wait behind those already waiting. -/
def State.withTransmission (s : State) (bytes : List Byte) (mv : Nat) : State :=
  { s with pending := s.pending ++ transmission bytes mv }

/-! ### Writing records (R202, R204) -/

/-- A record's kind with its argument or its payload. -/
inductive WireRecord where
  | short (kind : Nat) (arg : BitVec 16)
  | long (kind : Nat) (payload : List Byte)
  deriving DecidableEq, Repr

/-- A header's four bytes. -/
def headerBytes (chan kind : Nat) (arg : BitVec 16) : List Byte :=
  let d := headerOf chan kind arg
  [d.extractLsb' 16 8, d.extractLsb' 8 8, d.extractLsb' 0 8, checkByte d]

/-- A record's bytes on a channel. -/
def WireRecord.bytes (chan : Nat) : WireRecord → List Byte
  | .short kind arg => headerBytes chan kind arg
  | .long kind payload =>
    headerBytes chan kind (BitVec.ofNat 16 payload.length) ++ payload ++ split16 (checksum payload)

/-- A long record of an operation, item or target: its code and its fields. -/
def coded (kind code : Nat) (fields : List Byte) : WireRecord := .long kind (BitVec.ofNat 8 code :: fields)

/-- A long record with a code, where its payload fits its layout. -/
def codedBody {α : Type} (kind code : Nat) (b : Body α) (fields : α → List Byte) : Option WireRecord :=
  match b with
  | .misfit => none
  | .item a => some (coded kind code (fields a))

/-- A long record without a code, where its payload fits its layout. -/
def plainBody {α : Type} (kind : Nat) (b : Body α) (fields : α → List Byte) : Option WireRecord :=
  match b with
  | .misfit => none
  | .item a => some (.long kind (fields a))

def vehiclePayloadOf (i : VehicleItem) : List Byte :=
  split64 i.token ++ [i.account, i.cls, i.kind, i.stream] ++ split32 i.gross ++ [i.mask, i.barred, i.tareChoice]
    ++ split32 i.tare
def accountPayloadOf (i : AccountItem) : List Byte :=
  [i.account, i.state] ++ split32 i.allowance ++ [i.limitKind, i.approval, i.stream]
def settlingPayloadOf (i : SettlingItem) : List Byte := split16 i.band ++ [i.tTent, i.tSettle, i.tLock, i.tDrop]
def loopPayloadOf (i : LoopItem) : List Byte :=
  [i.loop] ++ split16 i.onThr ++ split16 i.offThr ++ split16 i.limit ++ [i.relearn]
def policyPayloadOf (i : PolicyItem) : List Byte :=
  [i.direction, i.admitting, i.account, i.cls, i.stream] ++ split16 i.passTimeout
def vehicleTablePayloadOf (i : VehicleTableItem) : List Byte :=
  split16 i.learnLimit ++ split16 i.provAge ++ split16 i.tareAge
def classPayloadOf (i : ClassItem) : List Byte :=
  [i.cls, i.parts] ++ split32 i.tare ++ split32 i.gross ++ split16 i.tolerance ++ [i.learning]
def streamPayloadOf (i : StreamItem) : List Byte :=
  [i.stream] ++ split32 i.capacity ++ [i.state] ++ split32 i.level1 ++ split32 i.level2 ++ split32 i.level3
    ++ split32 i.level4
def trimPayloadOf (ps : List TrimPair) : List Byte :=
  BitVec.ofNat 8 ps.length :: ps.flatMap fun p => p.cell :: split32 p.trim

/-- The header and the record of a command that is a host's record with a payload that fits; none for any other. -/
def hostRecord : Instr → Option (RecHead × WireRecord)
  | .turn h => some (h, .short 0 0)
  | .siteOpen h => some (h, .short 1 1)
  | .siteClose h => some (h, .short 1 2)
  | .laneOpen h => some (h, .short 2 1)
  | .laneClose h => some (h, .short 2 2)
  | .laneClear h => some (h, .short 2 3)
  | .barrierRaise h => some (h, .short 3 1)
  | .barrierLower h => some (h, .short 3 2)
  | .barrierReset h => some (h, .short 3 3)
  | .approve h k => some (h, .short 4 k)
  | .decline h k => some (h, .short 5 k)
  | .returnVisit h k => some (h, .short 6 k)
  | .zero h => some (h, .short 7 0)
  | .day h => some (h, .short 8 0)
  | .resetLink h => some (h, .short 9 1)
  | .resetLanes h => some (h, .short 9 2)
  | .resetAll h => some (h, .short 9 3)
  | .time h b => (plainBody 16 b split32).map (h, ·)
  | .vehicleWrite h b => (codedBody 18 1 b vehiclePayloadOf).map (h, ·)
  | .vehicleDelete h b => (codedBody 18 2 b split64).map (h, ·)
  | .accountWrite h b => (codedBody 19 1 b accountPayloadOf).map (h, ·)
  | .accountPeriodReset h b => (codedBody 19 2 b split16).map (h, ·)
  | .ident h b => (plainBody 20 b fun i => split64 i.token ++ [i.stream, i.kind]).map (h, ·)
  | .zeroCapture h b => (codedBody 22 1 b fun _ => []).map (h, ·)
  | .trim h b => (codedBody 22 2 b trimPayloadOf).map (h, ·)
  | .spanCapture h b => (codedBody 22 3 b split32).map (h, ·)
  | .range h b => (codedBody 22 4 b fun i => split32 i.max ++ [i.d]).map (h, ·)
  | .abort h => some (h, coded 22 5 [])
  | .ticketsRelease h b => (codedBody 23 1 b split32).map (h, ·)
  | .ticketsReprint h b => (codedBody 23 2 b fun i => split32 i.ticket ++ [i.lane]).map (h, ·)
  | .stock h b => (plainBody 24 b fun i => i.stream :: split32 i.stock).map (h, ·)
  | .setupSlotPlan h b => (codedBody 17 1 b fun v => v.toList).map (h, ·)
  | .setupDeckCells h b => (codedBody 17 2 b fun a => [a]).map (h, ·)
  | .setupDeckFilter h b => (codedBody 17 3 b fun a => [a]).map (h, ·)
  | .setupDeckSettling h b => (codedBody 17 4 b settlingPayloadOf).map (h, ·)
  | .setupOccupancyLevel h b => (codedBody 17 5 b split16).map (h, ·)
  | .setupPartAge h b => (codedBody 17 6 b split16).map (h, ·)
  | .setupLoop h b => (codedBody 17 7 b loopPayloadOf).map (h, ·)
  | .setupBarrier h b => (codedBody 17 8 b fun i => [i.start, i.run, i.step, i.travel]).map (h, ·)
  | .setupLanePolicy h b => (codedBody 17 9 b policyPayloadOf).map (h, ·)
  | .setupWaitingList h b => (codedBody 17 10 b fun i => i.depths.toList ++ [i.age]).map (h, ·)
  | .setupVehicleTable h b => (codedBody 17 11 b vehicleTablePayloadOf).map (h, ·)
  | .setupClass h b => (codedBody 17 12 b classPayloadOf).map (h, ·)
  | .setupStream h b => (codedBody 17 13 b streamPayloadOf).map (h, ·)
  | .setupAdmission h b => (codedBody 17 14 b fun i => split16 i.timeout ++ split32 i.cap).map (h, ·)
  | .setupPrinter h b => (codedBody 17 15 b fun i => [i.address, i.printFirst]).map (h, ·)
  | .setupLink h b => (codedBody 17 16 b fun i => split16 i.replyLimit ++ [i.timeout]).map (h, ·)
  | .setupSupply h b _ => (codedBody 17 17 b fun a => [a]).map (h, ·)
  | .readAcquisitionState h b => (codedBody 21 1 b fun _ => []).map (h, ·)
  | .readDeckReadings h b => (codedBody 21 2 b fun _ => []).map (h, ·)
  | .readCaptureState h b => (codedBody 21 3 b fun _ => []).map (h, ·)
  | .readCalibrationState h b => (codedBody 21 4 b fun _ => []).map (h, ·)
  | .readLaneDevices h b => (codedBody 21 5 b fun _ => []).map (h, ·)
  | .readLaneState h b => (codedBody 21 6 b fun _ => []).map (h, ·)
  | .readWaitingLists h b => (codedBody 21 7 b fun a => [a]).map (h, ·)
  | .readVehicleTable h b => (codedBody 21 8 b fun i => split64 i.token ++ [i.single]).map (h, ·)
  | .readClassTable h b => (codedBody 21 9 b fun _ => []).map (h, ·)
  | .readAccountTable h b => (codedBody 21 10 b fun a => [a]).map (h, ·)
  | .readVisitTable h b => (codedBody 21 11 b fun i => split16 i.number ++ [i.single]).map (h, ·)
  | .readStreams h b => (codedBody 21 12 b fun _ => []).map (h, ·)
  | .readJournal h b => (codedBody 21 13 b split32).map (h, ·)
  | .readPrinters h b => (codedBody 21 14 b fun _ => []).map (h, ·)
  | .readEvents h b => (codedBody 21 15 b fun _ => []).map (h, ·)
  | .readLink h b => (codedBody 21 16 b fun _ => []).map (h, ·)
  | .readSupply h b => (codedBody 21 17 b fun _ => []).map (h, ·)
  | _ => none

/-- The bytes a host sends for a command that is one of its records (R202). -/
def recordBytes (i : Instr) : Option (List Byte) :=
  (hostRecord i).map fun (h, r) => r.bytes (chanNumber h.chan)

/-- The supply that an executed record's transmission stands at: only SETUP supply carries it. -/
def carriedMv : Instr → Nat
  | .setupSupply _ _ mv => mv
  | _ => 0

/-! ### Writing replies (R192, R202) -/

/-- A reply's record. -/
def Reply.record : Reply → Nat × WireRecord
  | .result c code => (chanNumber c, .short 13 (BitVec.ofNat 16 code.code))
  | .data c payload => (chanNumber c, .long 31 payload)
  | .errors e => (0, .short 14 (BitVec.ofNat 16 (bitsValue
      [e.headerCorrected, e.headerBad, e.checksum, e.kindUnknown, e.channelBad, e.lengthBad, e.cutShort])))
  | .finish k => (0, .short 15 (BitVec.ofNat 16 k))

/-- A reply's bytes. -/
def Reply.bytes (r : Reply) : List Byte := r.record.2.bytes r.record.1

/-- What the controller sends while it holds the line: the held replies in order, END last (R193). DESIGN CHOICE: a part
held in reset sends nothing, the reply it was sending included (log 48). -/
def State.sent (s : State) : List Byte :=
  if s.running && decide (s.link.port = .sending) then s.link.replies.flatMap Reply.bytes else []

end Sys2Proof.Machine
end

