-- ==== Sys2Proof/Safety.lean ====
section
/-! DEFINITION. The vocabulary of the statements: what a command may touch, what it leaves alone, and the invariants that
every step keeps. -/

namespace Sys2Proof.Machine

/-! ### Frames -/

/-- The parts of the state, each marked when a command may change it: the five retained sections (R209), and the
volatile blocks in the order of the block diagram. -/
structure Parts where
  cal : Bool := false
  settings : Bool := false
  ident : Bool := false
  traffic : Bool := false
  tickets : Bool := false
  acq : Bool := false
  decks : Bool := false
  loops : Bool := false
  barriers : Bool := false
  readers : Bool := false
  lists : Bool := false
  lanes : Bool := false
  journalOrder : Bool := false
  clock : Bool := false
  link : Bool := false
  events : Bool := false
  printing : Bool := false
  power : Bool := false
  copy : Bool := false
  deriving DecidableEq, Repr

/-- A retained section may change. -/
def Parts.retained (p : Parts) : Bool := p.cal || p.settings || p.ident || p.traffic || p.tickets

/-- Every part that is not marked is the same in both states, and so are the commands that wait. The checks of the
sections change with a section alone, and the update copy with a section or by a reset (R209). -/
structure Keeps (p : Parts) (s t : State) : Prop where
  cal : p.cal = false → t.ret.cal = s.ret.cal
  settings : p.settings = false → t.ret.settings = s.ret.settings
  ident : p.ident = false → t.ret.ident = s.ret.ident
  traffic : p.traffic = false → t.ret.traffic = s.ret.traffic
  tickets : p.tickets = false → t.ret.tickets = s.ret.tickets
  acq : p.acq = false → t.acq = s.acq
  decks : p.decks = false → t.decks = s.decks
  loops : p.loops = false → t.loops = s.loops
  barriers : p.barriers = false → t.barriers = s.barriers
  readers : p.readers = false → t.readers = s.readers
  lists : p.lists = false → t.lists = s.lists
  lanes : p.lanes = false → t.lanes = s.lanes
  journalOrder : p.journalOrder = false → t.journalOrder = s.journalOrder
  clock : p.clock = false → t.clock = s.clock
  link : p.link = false → t.link = s.link
  events : p.events = false → t.events = s.events
  printing : p.printing = false → t.printing = s.printing
  power : p.power = false → t.power = s.power
  checks : p.retained = false → t.checks = s.checks
  copy : p.copy = false → p.retained = false → t.copy = s.copy
  pending : t.pending = s.pending

/-- What a sample of a deck may touch beyond its deck: the lane it is captured for, with its closed flag, its barrier and
the events. -/
def Parts.sample : Parts :=
  { acq := true, decks := true, lanes := true, events := true, settings := true, barriers := true }

/-- What any record of the host touches: the port, and the event of a link restored. -/
def Parts.record : Parts := { link := true, events := true }

/-- The parts that each command may change. -/
def touched : Instr → Parts
  | .frameStart => Parts.sample
  | .deckSample .. => { Parts.sample with cal := true }
  | .zeroCaptureComplete .. => { Parts.sample with cal := true }
  | .spanCaptureComplete .. => { Parts.sample with cal := true }
  | .siteTimeAdvance =>
    { clock := true, traffic := true, cal := true, decks := true, events := true, loops := true, readers := true,
      lists := true, lanes := true, link := true }
  | .loopStuck .. => { loops := true, events := true }
  | .approvalTimeout _ =>
    { traffic := true, ident := true, events := true, lanes := true, barriers := true, settings := true }
  | .passTimeout _ =>
    { traffic := true, ident := true, events := true, lanes := true, barriers := true, settings := true }
  | .minuteSweep => { clock := true, lists := true, ident := true, events := true }
  | .linkLost =>
    { link := true, traffic := true, ident := true, events := true, lanes := true, barriers := true, settings := true }
  | .loopMeasurement .. =>
    { loops := true, events := true, lanes := true, traffic := true, settings := true, barriers := true }
  | .learningEnd .. => { loops := true }
  | .limitSwitchChange .. => { barriers := true, events := true, lanes := true, settings := true }
  | .comparatorTrip _ => { barriers := true, events := true, lanes := true, settings := true }
  | .comparatorBlankingEnd _ => { barriers := true, events := true, lanes := true, settings := true }
  | .barrierRampStep _ => { barriers := true }
  | .travelTimeout _ => { barriers := true, events := true, lanes := true, settings := true }
  | .reversingPauseEnd _ => { barriers := true }
  | .tokenFrame .. =>
    { readers := true, lists := true, events := true, ident := true, lanes := true, barriers := true, settings := true }
  | .tokenFrameGap .. => { readers := true }
  | .admissionProcedure _ =>
    { ident := true, traffic := true, lanes := true, events := true, barriers := true, settings := true }
  | .exitProcedure _ =>
    { traffic := true, ident := true, tickets := true, events := true, printing := true, lanes := true,
      journalOrder := true, barriers := true, settings := true }
  | .close _ =>
    { traffic := true, ident := true, tickets := true, events := true, printing := true, lanes := true,
      journalOrder := true, barriers := true }
  | .printLineTransfer _ => { printing := true, tickets := true, lanes := true, events := true, barriers := true }
  | .printerStatusRead _ => { printing := true, tickets := true, lanes := true, events := true, barriers := true }
  | .printTimeout => { printing := true, tickets := true, events := true }
  | .transmissionEnd _ => { link := true }
  | .replyComplete => { link := true, power := true }
  | .headerBad _ => { link := true }
  | .recordNotExecuted _ => Parts.record
  | .turn _ => Parts.record
  | .siteOpen _ => { Parts.record with settings := true, lanes := true }
  | .siteClose _ => { Parts.record with settings := true, lanes := true, barriers := true }
  | .laneOpen _ => { Parts.record with settings := true, lanes := true, barriers := true }
  | .laneClose _ => { Parts.record with settings := true, lanes := true, barriers := true }
  | .laneClear _ => { Parts.record with settings := true, lanes := true, barriers := true }
  | .barrierRaise _ =>
    { Parts.record with lanes := true, barriers := true, traffic := true, ident := true, journalOrder := true }
  | .barrierLower _ => { Parts.record with lanes := true, barriers := true }
  | .barrierReset _ => { Parts.record with lanes := true, barriers := true, settings := true }
  | .approve .. =>
    { Parts.record with
      traffic := true, ident := true, tickets := true, printing := true, lanes := true, journalOrder := true
      barriers := true }
  | .decline .. =>
    { Parts.record with lanes := true, barriers := true, traffic := true, ident := true, settings := true }
  | .returnVisit .. => { Parts.record with lanes := true, barriers := true, traffic := true, settings := true }
  | .zero _ => { Parts.record with cal := true, decks := true }
  | .day _ => { Parts.record with traffic := true }
  | .resetLink _ => Parts.record
  | .resetLanes _ =>
    { Parts.record with
      traffic := true, ident := true, readers := true, lists := true, journalOrder := true, lanes := true
      settings := true, barriers := true }
  | .resetAll _ => Parts.record
  | .time .. => { Parts.record with clock := true }
  | .vehicleWrite .. => { Parts.record with ident := true }
  | .vehicleDelete .. => { Parts.record with ident := true, lists := true }
  | .accountWrite .. => { Parts.record with ident := true }
  | .accountPeriodReset .. => { Parts.record with ident := true }
  | .ident .. =>
    { Parts.record with ident := true, lists := true, lanes := true, barriers := true, settings := true }
  | .zeroCapture .. => { Parts.record with decks := true }
  | .spanCapture .. => { Parts.record with decks := true }
  | .trim .. => { Parts.record with cal := true, decks := true, lanes := true }
  | .range .. => { Parts.record with cal := true, decks := true }
  | .abort _ => { Parts.record with decks := true }
  | .ticketsRelease .. =>
    { Parts.record with
      traffic := true, ident := true, tickets := true, printing := true, lanes := true, journalOrder := true
      barriers := true }
  | .ticketsReprint .. => { Parts.record with printing := true }
  | .stock .. => { Parts.record with traffic := true }
  | .setupSlotPlan .. => { Parts.record with settings := true }
  | .setupDeckCells .. =>
    { Parts.record with settings := true, cal := true, decks := true, lanes := true, barriers := true }
  | .setupDeckFilter .. => { Parts.record with settings := true }
  | .setupDeckSettling .. => { Parts.record with settings := true }
  | .setupOccupancyLevel .. => { Parts.record with settings := true }
  | .setupPartAge .. => { Parts.record with settings := true }
  | .setupLoop .. => { Parts.record with settings := true, loops := true, lanes := true, barriers := true }
  | .setupBarrier .. => { Parts.record with settings := true }
  | .setupLanePolicy .. => { Parts.record with settings := true }
  | .setupWaitingList .. => { Parts.record with settings := true }
  | .setupVehicleTable .. => { Parts.record with settings := true }
  | .setupClass .. => { Parts.record with settings := true }
  | .setupStream .. => { Parts.record with settings := true }
  | .setupAdmission .. => { Parts.record with settings := true }
  | .setupPrinter .. => { Parts.record with settings := true }
  | .setupLink .. => { Parts.record with settings := true }
  | .setupSupply .. => { Parts.record with settings := true, power := true, decks := true }
  | .readAcquisitionState .. => Parts.record
  | .readDeckReadings .. => Parts.record
  | .readCaptureState .. => Parts.record
  | .readCalibrationState .. => Parts.record
  | .readLaneDevices .. => Parts.record
  | .readLaneState .. => Parts.record
  | .readWaitingLists .. => Parts.record
  | .readVehicleTable .. => Parts.record
  | .readClassTable .. => Parts.record
  | .readAccountTable .. => Parts.record
  | .readVisitTable .. => Parts.record
  | .readStreams .. => Parts.record
  | .readJournal .. => Parts.record
  | .readPrinters .. => Parts.record
  | .readEvents .. => Parts.record
  | .readLink .. => Parts.record
  | .readSupply .. => Parts.record
  | .calEnableRise => { power := true }
  | .calEnableFall => { power := true, decks := true, events := true }
  | .supplyWarningEnter _ => { power := true, decks := true, events := true }
  | .supplyWarningEnd _ => { power := true, lanes := true, events := true }
  | .brownOutReset .. => { power := true, copy := true }
  | .resetLine _ => { power := true, copy := true }
  | .startUp _ =>
    { cal := true, settings := true, ident := true, traffic := true, tickets := true, acq := true, decks := true
      loops := true, barriers := true, readers := true, lists := true, lanes := true, journalOrder := true
      clock := true, link := true, events := true, printing := true, power := true, copy := true }
  | .comparatorClear _ => { barriers := true }
  | .idleGapAtRelease => { link := true }

/-- The lane a channel addresses. -/
def laneOfChan : Chan → Option Lane
  | .site => none
  | .lane n => some n

/-- The lane that a command acts for, where no rule lets it reach another lane's devices: a yard command of one lane, a
DECK_SAMPLE of the deck that owns its slot, and a record on its lane's channel. (A DECLINE ends the hold of its visit's
entry lane, and is not listed.) -/
def State.laneOf (s : State) : Instr → Option Lane
  | .deckSample slot _ _ => s.acq.active.get slot
  | .zeroCaptureComplete slot _ _ => s.acq.active.get slot
  | .spanCaptureComplete slot _ _ => s.acq.active.get slot
  | .loopStuck n _ => some n
  | .passTimeout n => some n
  | .loopMeasurement n _ _ => some n
  | .learningEnd n _ => some n
  | .limitSwitchChange n _ _ => some n
  | .comparatorTrip n => some n
  | .comparatorBlankingEnd n => some n
  | .barrierRampStep n => some n
  | .travelTimeout n => some n
  | .reversingPauseEnd n => some n
  | .tokenFrame n _ _ => some n
  | .tokenFrameGap n _ => some n
  | .admissionProcedure n => some n
  | .exitProcedure n => some n
  | .close n => some n
  | .comparatorClear n => some n
  | .laneOpen h => laneOfChan h.chan
  | .laneClose h => laneOfChan h.chan
  | .laneClear h => laneOfChan h.chan
  | .barrierRaise h => laneOfChan h.chan
  | .barrierLower h => laneOfChan h.chan
  | .barrierReset h => laneOfChan h.chan
  | .approve h _ => laneOfChan h.chan
  | .returnVisit h _ => laneOfChan h.chan
  | .zero h => laneOfChan h.chan
  | .ident h _ => laneOfChan h.chan
  | .zeroCapture h _ => laneOfChan h.chan
  | .spanCapture h _ => laneOfChan h.chan
  | .trim h _ => laneOfChan h.chan
  | .range h _ => laneOfChan h.chan
  | .abort h => laneOfChan h.chan
  | .setupDeckCells h _ => laneOfChan h.chan
  | .setupDeckFilter h _ => laneOfChan h.chan
  | .setupDeckSettling h _ => laneOfChan h.chan
  | .setupOccupancyLevel h _ => laneOfChan h.chan
  | .setupPartAge h _ => laneOfChan h.chan
  | .setupLoop h _ => laneOfChan h.chan
  | .setupBarrier h _ => laneOfChan h.chan
  | .setupLanePolicy h _ => laneOfChan h.chan
  | .setupPrinter h _ => laneOfChan h.chan
  | _ => none

/-- Two states agree on everything that belongs to one lane alone, its waiting list apart: its deck with its
calibration, its loops, its barrier, its readers, its sequencer and its settings. -/
def SameLane (m : Lane) (s t : State) : Prop :=
  t.cal m = s.cal m ∧ t.deck m = s.deck m ∧ t.loops.get m = s.loops.get m ∧ t.barrier m = s.barrier m
    ∧ t.readers.get m = s.readers.get m ∧ t.lane m = s.lane m ∧ t.laneSettings m = s.laneSettings m
    ∧ t.deckSettings m = s.deckSettings m

/-! ### Invariants -/

/-- Retained contents as they stand, and those of an update copy marked complete (R209). -/
def State.eachRetained (s : State) (good : Retained → Prop) : Prop :=
  good s.ret ∧ ∀ c k, s.copy = .complete c k → good c

/-- Each section's check is the one formed over its contents, and so is the check of a complete update copy; and the
copy is empty while the part is out of reset (R209). -/
def State.ChecksFormed (s : State) : Prop :=
  s.checks = s.ret.checks ∧ (∀ c k, s.copy = .complete c k → k = Config.sectionCheck c)
    ∧ (s.power.held = none → s.copy = .empty)

/-- The event queue holds at most 64 events; the dropped count stops at 65,535, and counts only while the overflow
marker is set (R197). -/
def State.EventsBounded (s : State) : Prop :=
  s.events.queue.length ≤ 64 ∧ s.events.dropped ≤ 65535 ∧ (s.events.overflow = false → s.events.dropped = 0)

/-- Each zero offset stands within the zero limit of its deck, Max/5 fine units (R31). -/
def Retained.ZeroWithin (r : Retained) : Prop := ∀ n, (r.cal.get n).z.natAbs ≤ (r.cal.get n).max / 5

/-- Ticket numbers that follow one another, the last followed by the number given (R169, R170). -/
def numbersRunTo : List Nat → Nat → Prop
  | [], _ => True
  | [k], next => next = if k = 999999 then 1 else k + 1
  | k :: l :: ks, next => (l = if k = 999999 then 1 else k + 1) ∧ numbersRunTo (l :: ks) next

/-- The journal holds at most 128 tickets, numbered consecutively up to the ticket counter, every number and the counter
from 1 to 999,999 (R169, R170). -/
def Retained.JournalOrdered (r : Retained) : Prop :=
  r.tickets.journal.length ≤ 128 ∧ numbersRunTo (r.tickets.journal.map (·.number)) r.tickets.counter
    ∧ (1 ≤ r.tickets.counter ∧ r.tickets.counter ≤ 999999)
    ∧ ∀ t ∈ r.tickets.journal, 1 ≤ t.number ∧ t.number ≤ 999999

/-- At most 64 visits are open, no two with the same number or token, their numbers from 1 to 65,535 and in order; a
COLLECTION reserves nothing; each stream's reserved blocks and each account's pending are the sums over the open visits
(R134, R140, R141, R152). -/
def Retained.VisitsAccounted (r : Retained) : Prop :=
  r.traffic.visits.length ≤ 64
    ∧ (r.traffic.visits.map (·.number)).Pairwise (· < ·)
    ∧ (r.traffic.visits.map (·.token)).Nodup
    ∧ (∀ v ∈ r.traffic.visits, 1 ≤ v.number ∧ v.number ≤ 65535)
    ∧ (∀ v ∈ r.traffic.visits, v.kind = .collection → v.blocks = 0 ∧ v.estimate = 0)
    ∧ (∀ k : Fin 8, (r.traffic.streams.get k).reserved
        = ((r.traffic.visits.filter fun v => v.stream == k).map (·.blocks)).sum)
    ∧ (∀ a : Fin 256, (r.ident.accounts.get a).pending
        = ((r.traffic.visits.filter fun v => v.account == a).map (·.estimate)).sum)
    ∧ r.traffic.counter ≤ 65535

/-- The vehicle table holds at most 512 entries in the order of their token codes, no code twice; the PROVISIONAL count
is the number of PROVISIONAL entries, and does not exceed the learned-entry limit (R120, R123). -/
def Retained.ProvisionalCounted (r : Retained) : Prop :=
  r.ident.vehicles.length ≤ 512
    ∧ (r.ident.vehicles.map (·.token.toNat)).Pairwise (· < ·)
    ∧ r.ident.provisional = r.ident.vehicles.countP (fun v => v.origin == .provisional)
    ∧ r.ident.provisional ≤ r.settings.learnLimit

/-- The depths of the four lists sum to at most 32 (R96). -/
def Retained.DepthsShared (r : Retained) : Prop := (Lane.all.map fun n => (r.settings.lanes.get n).depth).sum ≤ 32

/-- No list holds more entries than its lane's depth, and a token appears at most once across all lists (R96). -/
def State.ListsWithinDepth (s : State) : Prop :=
  (∀ n, (s.list n).length ≤ (s.laneSettings n).depth) ∧ ((Lane.all.flatMap s.list).map (·.token)).Nodup

/-- The print queue holds at most one close job for each lane and at most four copy jobs, so at most eight jobs; one job
at most holds the bus, and one does whenever any job waits; a job in SENDING has completed fewer than nineteen transfers
(R174, R176, R177). -/
def State.PrintQueueBounded (s : State) : Prop :=
  s.printing.queue.length ≤ 8
    ∧ (∀ n, s.printing.queue.countP (fun j => j.lane == n && !j.copy) ≤ 1)
    ∧ s.printing.queue.countP (fun j => j.copy) ≤ 4
    ∧ s.printing.queue.countP (fun j => j.state != .queued) ≤ 1
    ∧ (s.printing.queue ≠ [] → ∃ j ∈ s.printing.queue, j.state ≠ .queued)
    ∧ ∀ j ∈ s.printing.queue, ∀ k, j.state = .sending k → k < 19

/-- A barrier is LOWERING only while its clear loop is reported FREE, and outside RAISING and LOWERING its motor is not
driven (R76, R79). -/
def State.BarrierSafe (s : State) : Prop :=
  ∀ n, ((s.barrier n).state = .lowering → (s.loop n .clear).report = .free)
    ∧ ((s.barrier n).state ≠ .raising → (s.barrier n).state ≠ .lowering →
        (s.barrier n).duty = 0 ∧ (s.barrier n).direction = none ∧ (s.barrier n).motionMs = none)

/-! ### Retained updates -/

/-- The state after a retained update to these sections (R209): written, with their checks formed over them, and the
update copy empty. -/
def State.storing (s : State) (r : Retained) : State := { s with ret := r, checks := r.checks, copy := .empty }

/-! ### Events, answers and records -/

/-- The queue with one more event: appended to fewer than 64, and otherwise dropped and counted (R197). -/
def EventQueue.add (q : EventQueue) (e : Event) : EventQueue :=
  if q.queue.length < 64 then { q with queue := q.queue ++ [e] }
  else { q with overflow := true, dropped := min (q.dropped + 1) 65535 }

/-- The queue after these events have been posted, in this order (R197). -/
def State.eventsAfter (s : State) (es : List Event) : EventQueue := es.foldl EventQueue.add s.events

/-- Between two states these events, and no others, have been posted, in this order (R197). -/
def State.posts (s t : State) (es : List Event) : Prop := t.events = s.eventsAfter es

/-- An event of the present site time (R197). -/
def State.event (s : State) (kind : EventKind) (lane : Option Lane) (subject : Subject) (detail : Detail) : Event :=
  ⟨kind, lane, s.now, subject, detail⟩

/-- The event that a clean record brings about before it is executed: LINK_RESTORED, where the link was LOST (R196). -/
def State.restored (s : State) : List Event :=
  if s.link.live then [] else [s.event .linkRestored none .none .none]

/-- A record with a good or corrected header is executed on its channel: the part is out of reset, the port is WAITING or
RECEIVING, the reply buffer has its eight bytes free beyond the END's four, and the channel is of the record's type
(R185, R191, R194). -/
def State.takes (s : State) (h : RecHead) (t : ChanType) : Prop :=
  s.power.held = none ∧ (s.link.port = .waiting ∨ s.link.port = .receiving) ∧ repliesSize s.link.replies + 12 ≤ 4096
    ∧ admits t h.chan = true

/-- The replies a record's answer appends: the answer itself, and one ERRORS with the whole error set where it is not
empty (R192). -/
def State.answering (s : State) (h : RecHead) (r : Reply) : List Reply :=
  let e := s.link.errors.union (correctedOnly h.corrected)
  if e = LinkErrors.none then [r] else [r, .errors e]

/-- The port after a record was executed and answered: RECEIVING, LIVE with the silence count at 0, the answer appended
and the error set carried away (R185, R190, R192, R196). -/
def State.linkAfter (s : State) (h : RecHead) (r : Reply) : LinkPort :=
  { s.link with
    port := .receiving, errors := LinkErrors.none, replies := s.link.replies ++ s.answering h r, live := true
    silence := 0, lostDue := false }

/-- The port stands as the answer of an executed record leaves it. -/
def State.answered (s : State) (h : RecHead) (r : Reply) (t : State) : Prop := t.link = s.linkAfter h r

/-- The state after a record was executed with this reply, these events posted after that of a restored link, and
everything but the port and the events as in `u`. -/
def State.recorded (s : State) (h : RecHead) (r : Reply) (es : List Event) (u : State) : State :=
  { u with link := s.linkAfter h r, events := s.eventsAfter (s.restored ++ es) }

/-- The same with the answer RESULT OK. -/
def State.executed (s : State) (h : RecHead) (es : List Event) (u : State) : State :=
  s.recorded h (.result h.chan .ok) es u

/-- The same with another RESULT: nothing but the port and the event of a restored link has changed. -/
def State.refusedWith (s : State) (h : RecHead) (code : ResultCode) : State := s.recorded h (.result h.chan code) [] s

/-- The state after these events have been posted, and everything else as in `u`. -/
def State.posted (s : State) (es : List Event) (u : State) : State := { u with events := s.eventsAfter es }

/-- VEHICLE_REFUSED, with the lane, the token and the reason (R105, R142, R152). -/
def State.refusal (s : State) (n : Lane) (t : Token) (r : Reason) : Event :=
  s.event .vehicleRefused (some n) (.token t) (.reason r)

/-- The STREAM_LEVEL events of a committed weight that goes from one value to another (R161). -/
def State.levelEvents (s : State) (k : Fin 8) (before after : Nat) : List Event :=
  (crossedLevels (s.streamSettings k).levels before after).map fun (l, up) =>
    s.event .streamLevel none (.stream k) (.level l up)

/-- The alert levels crossed as these visits are cancelled one after another, each with its stream and direction (R152,
R161, R211). -/
def levelsReleased (levels : Fin 8 → Quad (Option Nat)) :
    Vector StreamTotals 8 → List Visit → List (Fin 8 × Nat × Bool)
  | _, [] => []
  | ts, v :: vs =>
    let t := ts.get v.stream
    let after : StreamTotals := { t with reserved := t.reserved - v.blocks }
    (crossedLevels (levels v.stream) (committed t) (committed after)).map (fun x => (v.stream, x))
      ++ levelsReleased levels (ts.set v.stream after) vs

/-- The readers with one port replaced. -/
def State.withPort (s : State) (n : Lane) (side : ReaderSide) (p : ReaderPort) : Quad ReaderPair :=
  s.readers.upd n fun q =>
    match side with
    | .approach => { q with approach := p }
    | .deck => { q with deck := p }

/-- The sections with one visit gone, its blocks and its estimate released (R134, R152). -/
def State.cancelled (s : State) (v : Visit) : Retained :=
  { s.ret with
    traffic := { s.ret.traffic with
      visits := s.ret.traffic.visits.filter fun u => u.number != v.number
      streams := s.ret.traffic.streams.set v.stream
        { s.streamTotals v.stream with reserved := (s.streamTotals v.stream).reserved - v.blocks } }
    ident := { s.ret.ident with
      accounts := s.ret.ident.accounts.set v.account
        { s.account v.account with pending := (s.account v.account).pending - v.estimate } } }

/-- The STREAM_LEVEL events of a visit's cancellation (R152, R161). -/
def State.cancelEvents (s : State) (v : Visit) : List Event :=
  let t := s.streamTotals v.stream
  s.levelEvents v.stream (committed t) (t.stock + 500 * (t.reserved - v.blocks))

/-- A number is the one that a new visit takes (R141): the first, counting upward from the counter and wrapping from
65,535 to 1, that no open visit has. -/
def State.takesNumber (s : State) (k : Nat) : Prop :=
  let up (c : Nat) : Nat := if c = 65535 then 1 else c + 1
  let used (c : Nat) : Prop := ∃ v ∈ s.ret.traffic.visits, v.number = c
  ∃ j, k = up^[j + 1] s.ret.traffic.counter ∧ (∀ i < j, used (up^[i + 1] s.ret.traffic.counter)) ∧ ¬ used k

/-- HELD, with the lane, the number of the visit it handles and the reason (R101). -/
def State.heldEvent (s : State) (n : Lane) (k : Option Nat) (r : HoldReason) : Event :=
  s.event .held (some n)
    (match k with
      | some k => .visit k
      | none => .none) (.hold r)

/-- A lane held for a reason other than BARRIER (R101, R109). -/
def LaneSeq.heldFor (l : LaneSeq) (r : HoldReason) : LaneSeq :=
  { l with state := .held r, passTimer := none, passDue := false }

/-- The state as the record's own effect finds it: the event of a restored link posted (R196). -/
def State.heard (s : State) : State := { s with events := s.eventsAfter s.restored }

/-- The state with the answer RESULT OK in its port, and everything else as in `u`. -/
def State.acknowledged (s : State) (h : RecHead) (u : State) : State :=
  { u with link := s.linkAfter h (.result h.chan .ok) }

/-! ### Barriers as R77 to R79 state them -/

/-- A barrier at rest that seeks its target (R77): up at once, down only over a clear loop that is FREE. -/
def Barrier.sought (cfg : BarrierSettings) (clear : LoopReport) (b : Barrier) : Barrier :=
  match b.state, b.target with
  | .down, .up => beginMotion cfg .up b
  | .unknown, .up => beginMotion cfg .up b
  | .up, .down => if clear = .free then beginMotion cfg .down b else b
  | .unknown, .down => if clear = .free then beginMotion cfg .down b else b
  | _, _ => b

/-- A barrier after a RAISE or LOWER command (R77): nothing where the target stands already, the reversal pause for a
RAISE in LOWERING, and the new target sought otherwise. -/
def Barrier.obeyed (cfg : BarrierSettings) (clear : LoopReport) (t : Toward) (b : Barrier) : Barrier :=
  if b.target = t then b
  else if b.state = .lowering ∧ t = .up then
    { b with target := t, state := .reversing, duty := 0, direction := none, motionMs := none, blanked := false }
  else Barrier.sought cfg clear { b with target := t }

/-- Every barrier as it is, but that of one lane, which has obeyed a command (R77). -/
def State.obeying (s : State) (n : Lane) (t : Toward) : Quad Barrier :=
  s.barriers.upd n (Barrier.obeyed (s.laneSettings n).barrier (s.clearReport n) t)

/-! ### Lanes as R102 and R115 state them -/

/-- A suspend cause other than the deck: the barrier in FAULT, or a loop reported FAULTED (R115). -/
def State.yardCause (s : State) (n : Lane) : Bool :=
  isFault (s.barrier n).state || decide ((s.loop n .entry).report = .faulted)
    || decide ((s.loop n .clear).report = .faulted)

/-- A lane that has entered IDLE (R102), given whether a suspend cause stands and whether the deck is occupied: what
belongs to a vehicle is cleared, and the first case that applies gives the state. -/
def State.idled (s : State) (n : Lane) (suspends occupied : Bool) : LaneSeq :=
  let l := s.lane n
  let closes := l.closePending || decide (s.ret.settings.siteMode = .closed)
  { l with
    state := if closes then .closed else if suspends then .suspended else if occupied then .occupied else .idle
    identity := none, visit := none, heldWeighing := none, postponed := false, passTimer := none, passDue := false
    closePending := l.closePending && !closes }

/-! ### Values on the office link as R203 states them -/

/-- An unsigned number in so many bytes, most significant byte first (R203). -/
def wireNum (width n : Nat) : List Byte := (List.range width).map fun k => BitVec.ofNat 8 (n / 256 ^ (width - 1 - k))

/-- A number that may be negative, in four bytes of two's complement (R203). -/
def wireInt (a : Int) : List Byte := wireNum 4 (a % 4294967296).toNat

/-- A number that is all ones when it is absent (R203). -/
def wireOr (width : Nat) (o : Option Nat) : List Byte := wireNum width (o.getD (256 ^ width - 1))

/-- A number after its presence byte, its bytes 0 when it is absent (R203). -/
def wireOpt (width : Nat) (o : Option Nat) : List Byte :=
  match o with
  | none => List.replicate (width + 1) 0
  | some n => 1 :: wireNum width n

/-- The same for a number that may be negative (R203). -/
def wireOptInt (o : Option Int) : List Byte := wireOpt 4 (o.map fun a => (a % 4294967296).toNat)

/-- An enumeration, code 0 when it is absent (R203). -/
def wireCode (o : Option Nat) : List Byte := wireNum 1 (o.getD 0)

/-- A flag (R203). -/
def wireFlag (b : Bool) : List Byte := wireNum 1 (if b then 1 else 0)

/-- A set of up to eight members: bit k is the k-th (R203). -/
def wireSet (members : List Bool) : List Byte :=
  wireNum 1 ((List.range members.length).map fun k => if members.getD k false then 2 ^ k else 0).sum

/-- A captured part as a slot of eleven bytes (R205). -/
def wirePart (p : Part) : List Byte :=
  wireNum 4 p.value ++ wireNum 1 p.deck.number ++ wireNum 4 p.time.toNat ++ wireNum 2 p.counter

/-- A weighing as a block of 55 bytes, its part slots beyond the part count 0 (R205). -/
def wireWeighing (w : Weighing) : List Byte :=
  wireNum 4 w.value ++ wireNum 1 w.lane.number ++ wireNum 4 w.time.toNat ++ wireFlag w.unset ++ wireNum 1 w.parts.length
    ++ (List.range 4).flatMap fun k => ((w.parts[k]?).map wirePart).getD (List.replicate 11 0)

/-- The flags of a visit or a ticket (R140, R168). -/
def wireFlags (f : VisitFlags) : List Byte :=
  wireSet [f.overweightIn, f.tareDeviation, f.allowanceExceeded, f.negativeNet, f.stockUnderrun, f.timeUnset, f.approvedIn]

/-- A payload is that of a list target within a reply limit: the code, the opening figures, the count, the first items as
many as fit, at least one where there is any, the figures after them, and the next index, "end" after the last item (R195,
R205). -/
def listLaid (limit code : Nat) (opening after : List Byte) (width : Nat) (items : List (List Byte))
    (index : Nat → List Byte) (payload : List Byte) : Prop :=
  let size (k : Nat) : Nat :=
    2 + opening.length + after.length + ((items.take k).map List.length).sum
      + if items.length ≤ k then 1 else 1 + width
  ∃ k, k ≤ items.length ∧ k ≤ 255 ∧ (items ≠ [] → 1 ≤ k) ∧ (k ≤ 1 ∨ size k ≤ limit)
    ∧ (∀ j, k < j → j ≤ items.length → j ≤ 255 → limit < size j)
    ∧ payload = wireNum 1 code ++ opening ++ wireNum 1 k ++ (items.take k).flatten ++ after
      ++ if items.length ≤ k then [0] else 1 :: index k

/-- The payload of a single read: one item, or none, and "end" (R205). -/
def singleLaid (code : Nat) (opening : List Byte) (item : Option (List Byte)) : List Byte :=
  wireNum 1 code ++ opening ++ (match item with
    | none => [0]
    | some x => 1 :: x) ++ [0]

/-- The header and the channel type of a command that is a record a host can send whole (R191). -/
def recordType : Instr → Option (RecHead × ChanType)
  | .recordNotExecuted (.unlisted h t) => some (h, t)
  | .siteOpen h => some (h, .site)
  | .siteClose h => some (h, .site)
  | .laneOpen h => some (h, .lane)
  | .laneClose h => some (h, .lane)
  | .laneClear h => some (h, .lane)
  | .barrierRaise h => some (h, .lane)
  | .barrierLower h => some (h, .lane)
  | .barrierReset h => some (h, .lane)
  | .approve h _ => some (h, .lane)
  | .decline h _ => some (h, .lane)
  | .returnVisit h _ => some (h, .lane)
  | .zero h => some (h, .lane)
  | .day h => some (h, .site)
  | .resetLink h => some (h, .site)
  | .resetLanes h => some (h, .site)
  | .resetAll h => some (h, .site)
  | .time h _ => some (h, .site)
  | .vehicleWrite h _ => some (h, .site)
  | .vehicleDelete h _ => some (h, .site)
  | .accountWrite h _ => some (h, .site)
  | .accountPeriodReset h _ => some (h, .site)
  | .ident h _ => some (h, .lane)
  | .zeroCapture h _ => some (h, .lane)
  | .spanCapture h _ => some (h, .lane)
  | .trim h _ => some (h, .lane)
  | .range h _ => some (h, .lane)
  | .abort h => some (h, .lane)
  | .ticketsRelease h _ => some (h, .site)
  | .ticketsReprint h _ => some (h, .site)
  | .stock h _ => some (h, .site)
  | .setupSlotPlan h _ => some (h, .site)
  | .setupDeckCells h _ => some (h, .lane)
  | .setupDeckFilter h _ => some (h, .lane)
  | .setupDeckSettling h _ => some (h, .lane)
  | .setupOccupancyLevel h _ => some (h, .lane)
  | .setupPartAge h _ => some (h, .lane)
  | .setupLoop h _ => some (h, .lane)
  | .setupBarrier h _ => some (h, .lane)
  | .setupLanePolicy h _ => some (h, .lane)
  | .setupWaitingList h _ => some (h, .site)
  | .setupVehicleTable h _ => some (h, .site)
  | .setupClass h _ => some (h, .site)
  | .setupStream h _ => some (h, .site)
  | .setupAdmission h _ => some (h, .site)
  | .setupPrinter h _ => some (h, .lane)
  | .setupLink h _ => some (h, .site)
  | .setupSupply h _ _ => some (h, .site)
  | .readAcquisitionState h _ => some (h, .any)
  | .readDeckReadings h _ => some (h, .any)
  | .readCaptureState h _ => some (h, .lane)
  | .readCalibrationState h _ => some (h, .lane)
  | .readLaneDevices h _ => some (h, .lane)
  | .readLaneState h _ => some (h, .lane)
  | .readWaitingLists h _ => some (h, .any)
  | .readVehicleTable h _ => some (h, .site)
  | .readClassTable h _ => some (h, .site)
  | .readAccountTable h _ => some (h, .site)
  | .readVisitTable h _ => some (h, .site)
  | .readStreams h _ => some (h, .site)
  | .readJournal h _ => some (h, .site)
  | .readPrinters h _ => some (h, .site)
  | .readEvents h _ => some (h, .site)
  | .readLink h _ => some (h, .site)
  | .readSupply h _ => some (h, .site)
  | _ => none

/-- A number lies within a range. -/
abbrev Within (lo hi n : Nat) : Prop := lo ≤ n ∧ n ≤ hi

/-- A four-byte number lies within a range, or is absent, all bits 1 (R203). -/
abbrev WithinOrAbsent (lo hi : Nat) (v : BitVec 32) : Prop := Within lo hi v.toNat ∨ v.toNat = 4294967295

/-- A stream number or a printer address, 1 to 8, or 255 for absence (R203). -/
abbrev NumberedOrAbsent (b : Byte) : Prop := Within 1 8 b.toNat ∨ b.toNat = 255

/-- Of a TABLE or SETUP record, whether its payload fits its layout with every value in the range that its owning rule
gives it: VEHICLE (R120, R124), ACCOUNT (R132, R133, R135), TICKETS (R171, R175), STOCK (R162), and the items of SETUP
(R3, R5, R25, R35, R44, R50, R68, R75, R76, R86, R94, R97, R123, R131, R160, R164, R173, R195, R207). A flag is 0 or 1,
and an enumeration one of its listed codes (R203). -/
def readable : Instr → Option Bool
  | .vehicleWrite _ b => some (fits b fun i =>
      i.cls.toNat ≤ 15 ∧ Within 1 2 i.kind.toNat ∧ NumberedOrAbsent i.stream ∧ WithinOrAbsent 1 150000 i.gross
        ∧ (Within 1 15 i.mask.toNat ∨ i.mask.toNat = 255) ∧ i.barred.toNat ≤ 1 ∧ Within 1 3 i.tareChoice.toNat
        ∧ (i.tareChoice.toNat = 1 → i.tare.toNat ≤ 150000))
  | .vehicleDelete _ b => some (fits b fun _ => true)
  | .accountWrite _ b => some (fits b fun i =>
      Within 1 3 i.state.toNat ∧ WithinOrAbsent 1 4000000000 i.allowance ∧ Within 1 2 i.limitKind.toNat
        ∧ i.approval.toNat ≤ 1 ∧ NumberedOrAbsent i.stream)
  | .accountPeriodReset _ b => some (fits b fun v => v.toNat ≤ 255 ∨ v.toNat = 65535)
  | .ticketsRelease _ b => some (fits b fun v => Within 1 999999 v.toNat)
  | .ticketsReprint _ b => some (fits b fun i => Within 1 999999 i.ticket.toNat ∧ Within 1 4 i.lane.toNat)
  | .stock _ b => some (fits b fun i => Within 1 8 i.stream.toNat ∧ i.stock.toNat ≤ 4000000000)
  | .setupSlotPlan _ b => some (fits b fun v => ∀ i : Fin 16, (v.get i).toNat ≤ 4)
  | .setupDeckCells _ b => some (fits b fun c => Within 1 8 c.toNat)
  | .setupDeckFilter _ b => some (fits b fun c => c.toNat ∈ [1, 2, 4, 8, 16])
  | .setupDeckSettling _ b => some (fits b fun i =>
      Within 1 5000 i.band.toNat ∧ 1 ≤ i.tTent.toNat ∧ 1 ≤ i.tSettle.toNat ∧ 1 ≤ i.tLock.toNat ∧ 1 ≤ i.tDrop.toNat)
  | .setupOccupancyLevel _ b => some (fits b fun _ => true)
  | .setupPartAge _ b => some (fits b fun v => Within 1 600 v.toNat)
  | .setupLoop _ b => some (fits b fun i =>
      Within 1 2 i.loop.toNat ∧ Within 10 20000 i.onThr.toNat ∧ Within 1 19999 i.offThr.toNat
        ∧ i.offThr.toNat < i.onThr.toNat ∧ i.limit.toNat ≤ 3600 ∧ i.relearn.toNat ≤ 1)
  | .setupBarrier _ b => some (fits b fun i =>
      1 ≤ i.start.toNat ∧ i.start.toNat ≤ i.run.toNat ∧ 1 ≤ i.step.toNat ∧ Within 1 30 i.travel.toNat)
  | .setupLanePolicy _ b => some (fits b fun i =>
      Within 1 3 i.direction.toNat ∧ i.admitting.toNat ≤ 1 ∧ i.cls.toNat ≤ 15 ∧ NumberedOrAbsent i.stream
        ∧ Within 5 300 i.passTimeout.toNat)
  | .setupWaitingList _ b => some (fits b fun i =>
      (∀ d ∈ i.depths.toList, d.toNat ≤ 32) ∧ 1 ≤ i.age.toNat)
  | .setupVehicleTable _ b => some (fits b fun i =>
      i.learnLimit.toNat ≤ 512 ∧ i.learnLimit.toNat % 64 = 0 ∧ i.provAge.toNat ≤ 365 ∧ i.tareAge.toNat ≤ 8760)
  | .setupClass _ b => some (fits b fun i =>
      i.cls.toNat ≤ 15 ∧ Within 1 4 i.parts.toNat ∧ i.tare.toNat ≤ 150000 ∧ Within 1 150000 i.gross.toNat
        ∧ i.tolerance.toNat ≤ 10000 ∧ i.learning.toNat ≤ 1)
  | .setupStream _ b => some (fits b fun i =>
      Within 1 8 i.stream.toNat ∧ i.capacity.toNat ≤ 5000000 ∧ i.capacity.toNat % 500 = 0 ∧ Within 1 2 i.state.toNat
        ∧ ∀ l ∈ [i.level1, i.level2, i.level3, i.level4], WithinOrAbsent 1 5000000 l)
  | .setupAdmission _ b => some (fits b fun i => WithinOrAbsent 1 4000000000 i.cap)
  | .setupPrinter _ b => some (fits b fun i => NumberedOrAbsent i.address ∧ i.printFirst.toNat ≤ 1)
  | .setupLink _ b => some (fits b fun i => Within 64 1024 i.replyLimit.toNat)
  | .setupSupply _ b _ => some (fits b fun c => Within 19 22 c.toNat)
  | _ => none
where
  /-- A payload that fits its layout, with values that are in range. -/
  fits {α : Type} (b : Body α) (inRange : α → Bool) : Bool :=
    match b with
    | .misfit => false
    | .item a => inRange a

end Sys2Proof.Machine
end

