-- ==== Sys2Proof/Certificates/Slice0/Obligations.lean ====
section
/-! DEFINITION. The statements for the provers. Beside each stand the rules of the spec it rests on. -/

section

open Sys2Proof Sys2Proof.Machine

/-! ### The machine as a whole -/

/-- A step takes the command at the front of the queue and runs it on the state with the queue's rest. The queue is the
model's form (log 3). -/
def Obligations.StepTakesTheFrontCommand : Prop :=
  ∀ (c : Instr) (rest : List Instr) (s : State), step { s with pending := c :: rest } = exec c { s with pending := rest }

/-- Every command answers a next state from every state, and no command touches the commands that wait. That a command
not due or out of its situation leaves the state as it is, is the model's choice (log 4). -/
def Obligations.EveryCommandCompletes : Prop := ∀ (c : Instr) (s : State), ∃ t, exec c s = .next t ∧ t.pending = s.pending

/-- A command changes only the parts of the state that `touched` marks for it. -/
def Obligations.CommandsKeepWhatTheyDoNotTouch : Prop :=
  ∀ (c : Instr) (s t : State), exec c s = .next t → Keeps (touched c) s t

/-- A command that acts for one lane leaves everything that belongs to each other lane alone, but for the waiting lists:
a read or an identification may take its token's entry out of another lane's list (R99, R104). -/
def Obligations.OtherLanesUntouched : Prop :=
  ∀ (c : Instr) (s t : State) (n m : Lane), s.laneOf c = some n → exec c s = .next t → m ≠ n → SameLane m s t

/-- While the part is held in reset no command changes it but the start-up, a further reset, and the levels of its
inputs (R207, R210). That a held part passes such a command over, and follows its input levels, is the model's choice
(log 21). -/
def Obligations.HeldPartKeepsStill : Prop :=
  ∀ (c : Instr) (s : State), s.power.held ≠ none →
    (∀ env, c ≠ .startUp env) → (∀ mv k, c ≠ .brownOutReset mv k) → (∀ k, c ≠ .resetLine k) →
    c ≠ .calEnableRise → c ≠ .calEnableFall →
    (∀ n side a, c ≠ .limitSwitchChange n side a) → (∀ n, c ≠ .comparatorTrip n) → (∀ n, c ≠ .comparatorClear n) →
    exec c s = .next s

/-! ### Invariants that every step keeps -/

/-- The event queue stays within 64 events, its dropped count within 65,535 and at 0 without the marker; and the print
queue keeps to its jobs, one of which holds the bus whenever any waits (R174, R176, R177, R197). -/
def Obligations.StepKeepsQueuesBounded : Prop :=
  ∀ s t : State, step s = .next t →
    (s.EventsBounded → t.EventsBounded) ∧ (s.PrintQueueBounded → t.PrintQueueBounded)

/-- Each zero offset stays within its deck's zero limit (R31). -/
def Obligations.StepKeepsZeroWithinLimit : Prop :=
  ∀ s t : State, s.eachRetained Retained.ZeroWithin → step s = .next t → t.eachRetained Retained.ZeroWithin

/-- The journal stays within 128 tickets, numbered without a gap up to the ticket counter (R169, R170). -/
def Obligations.StepKeepsJournalNumbered : Prop :=
  ∀ s t : State, s.eachRetained Retained.JournalOrdered → step s = .next t → t.eachRetained Retained.JournalOrdered

/-- The open visits stay numbered and distinct, and the reserved blocks and pending amounts stay their sums (R134, R140,
R141, R152). -/
def Obligations.StepKeepsVisitsAccounted : Prop :=
  ∀ s t : State, s.eachRetained Retained.VisitsAccounted → step s = .next t → t.eachRetained Retained.VisitsAccounted

/-- The vehicle table stays within 512 entries in token order, and the PROVISIONAL count stays right and within its
limit (R120, R123). -/
def Obligations.StepKeepsProvisionalCounted : Prop :=
  ∀ s t : State, s.eachRetained Retained.ProvisionalCounted → step s = .next t →
    t.eachRetained Retained.ProvisionalCounted

/-- The list depths keep to the pool of 32, no waiting list outgrows its depth, and no token stands in the lists twice
(R96). -/
def Obligations.StepKeepsWaitingLists : Prop :=
  ∀ s t : State, step s = .next t →
    (s.eachRetained Retained.DepthsShared → t.eachRetained Retained.DepthsShared)
      ∧ (s.ListsWithinDepth → t.ListsWithinDepth)

/-- A barrier is LOWERING only over a clear loop that is FREE, and is not driven outside a motion (R76, R79). The
barrier's direction and motion time are absent without a motion in the model (log 18). -/
def Obligations.StepKeepsBarriersSafe : Prop := ∀ s t : State, s.BarrierSafe → step s = .next t → t.BarrierSafe

/-- The check of each section stays the one formed over its contents, so does that of a complete update copy, and the
copy stays empty while the part is out of reset (R209). The check's formula is left free (log 7), and what a reset
leaves in the copy is the command's operand (log 8). -/
def Obligations.StepKeepsChecksFormed : Prop := ∀ s t : State, s.ChecksFormed → step s = .next t → t.ChecksFormed

/-- The machine after reset meets every invariant. The values of the reset state that the manual leaves open are the
model's choices (log 1 and 2). -/
def Obligations.ResetMeetsInvariants : Prop :=
  State.reset.EventsBounded ∧ State.reset.eachRetained Retained.ZeroWithin
    ∧ State.reset.eachRetained Retained.JournalOrdered ∧ State.reset.eachRetained Retained.VisitsAccounted
    ∧ State.reset.eachRetained Retained.ProvisionalCounted ∧ State.reset.eachRetained Retained.DepthsShared
    ∧ State.reset.ListsWithinDepth ∧ State.reset.PrintQueueBounded ∧ State.reset.BarrierSafe
    ∧ State.reset.ChecksFormed

/-! ### Deck acquisition and weight arithmetic (R1 to R34) -/

/-- What makes a cell count saturated and a sample saturated (R6), and a reference in tolerance (R6, R7). -/
def Obligations.SampleChecks : Prop :=
  (∀ (cells : List Int), (∀ x ∈ cells, -2097152 ≤ x ∧ x ≤ 2097151) →
      (saturatedSample cells = true ↔ ∃ x ∈ cells, x = -2097152 ∨ x = 2097151))
    ∧ (∀ (c : DeckCal) (e : Int), e ≤ 0 ∨ 2097151 ≤ e → refInTolerance c e = false)
    ∧ (∀ (c : DeckCal) (e : Int), 1 ≤ e → e ≤ 2097150 → c.zeroDone = false → refInTolerance c e = true)
    ∧ ∀ (c : DeckCal) (e : Int), 1 ≤ e → e ≤ 2097150 → c.zeroDone = true →
        (refInTolerance c e = true ↔ e - c.eCal ≤ (c.eCal / 16 : Nat) ∧ c.eCal - e ≤ (c.eCal / 16 : Nat))

/-- FRAME_START (R1, R10, R13, R14, R51, R64, R115): the stored plan becomes the active plan, and NO_SLOTS is held by
exactly the decks without a slot in it. A deck that becomes INVALID by it loses its history, reading and occupancy, its
IDLE lane becomes SUSPENDED and its WEIGHING lane loses its parts; a capture in flight on a deck that NO_SLOTS joins
ends INVALID; and a deck that becomes VALID lets its SUSPENDED lane enter IDLE where that was the last cause. The order
of the events of one deck (log 13), deck 1 first (log 42), and the absent age count of an emptied parts list in WEIGHING
(log 45), are the model's choices. -/
def Obligations.FrameStartTakesThePlan : Prop :=
  ∀ s : State, s.power.held = none →
    let plan := s.ret.settings.slotPlan
    let bare (n : Lane) : Bool := decide (some n ∉ plan.toList)
    let after (n : Lane) : ReasonSet := { s.reasons n with noSlots := bare n }
    let joins (n : Lane) : Bool := bare n && !(s.deck n).noSlots
    let falls (n : Lane) : Bool := s.deckValid n && joins n
    let rises (n : Lane) : Bool := !s.deckValid n && (after n).isEmpty
    let freed (n : Lane) : Bool := rises n && (s.lane n).state = .suspended && !s.yardCause n
    let closes (n : Lane) : Bool := freed n && ((s.lane n).closePending || s.ret.settings.siteMode = .closed)
    let posted (n : Lane) : List Event :=
      (if falls n ∧ (s.lane n).state = .weighing ∧ (s.lane n).capture.parts ≠ [] then
          [s.event .partDiscarded (some n) .none (.parts (s.lane n).capture.parts.length)] else [])
        ++ (if joins n then [s.event .deckInvalid (some n) .none (.reasons (after n))] else [])
        ++ (if rises n then [s.event .deckValid (some n) .none .none] else [])
        ++ match (s.deck n).op with
          | some op => if joins n then [s.event .calAborted (some n) .none (.calAborted op.sub .invalid)] else []
          | none => []
    ∃ t, exec .frameStart s = .next t ∧ t.acq = ⟨plan, 0⟩ ∧ (∀ n, t.reasons n = after n)
      ∧ (∀ n,
          let d := { s.deck n with noSlots := bare n }
          let e : Deck :=
            if falls n then
              { d with history := [], reading := none, settling := ⟨.unsettled, none, 0, 0⟩, occupancy := .neither }
            else d
          t.deck n = match d.op with
            | some op =>
              if joins n then { e with op := none, lastOutcome := some ⟨op.sub, .aborted .invalid, s.now⟩ } else e
            | none => e)
      ∧ (∀ n, ¬ (rises n = true ∧ (s.lane n).state = .idle) →
          t.lane n =
            if falls n then
              match (s.lane n).state with
              | .idle => { s.lane n with state := .suspended }
              | .weighing =>
                { s.lane n with capture := { (s.lane n).capture with parts := [], moved := false, age := none } }
              | _ => s.lane n
            else if freed n then s.idled n false (decide ((s.deck n).occupancy = .occupied))
            else s.lane n)
      ∧ (∀ n, t.barrier n = if closes n then (s.obeying n .down).get n else s.barrier n)
      ∧ (∀ n, t.laneSettings n
          = if closes n then { s.laneSettings n with closed := true } else s.laneSettings n)
      ∧ s.posts t (Lane.all.flatMap posted)

/-- DECK_SAMPLE with a bad sample (R6 to R8, R11, R13): the causes join the deck's reasons, its good count is 0, the
sample is kept as the last one, a zero limit held since a RANGE is held no longer (R63), a deck that was VALID loses its
history, reading and occupancy, its IDLE lane becomes SUSPENDED and its WEIGHING lane loses its parts (R51, R115), a
capture in flight ends when a cause joins (R64), and one DECK_INVALID is posted, or one for each cause that joins an
INVALID deck. The order of the events of one sample (log 13), the end of the slot as the command's own time (log 19), a
bad sample ending the held zero limit too (log 39), and the absent age count of an emptied parts list in WEIGHING (log
45), are the model's choices. -/
def Obligations.BadSampleIsDiscarded : Prop :=
  ∀ (s : State) (slot : Fin 16) (cells : List Int) (e : Int) (n : Lane),
    s.power.held = none → s.acq.active.get slot = some n → cells.length = (s.deckSettings n).cells →
    goodSample (s.cal n) cells e = false →
    let after : ReasonSet :=
      { s.reasons n with
        cellSaturated := (s.deck n).saturated || saturatedSample cells
        excitation := (s.deck n).excitation || !refInTolerance (s.cal n) e }
    let joined := (s.reasons n).faultJoined after
    let invalid := s.event .deckInvalid (some n) .none (.reasons after)
    let parts := (s.lane n).capture.parts
    ∃ t, exec (.deckSample slot cells e) s = .next t
      ∧ t.acq = { s.acq with position := (slot.val + 1) % 16 }
      ∧ t.cal n = s.cal n ∧ t.reasons n = after
      ∧ (t.deck n).good = 0 ∧ (t.deck n).lastSample = some ⟨cells, e, s.now, false⟩
      ∧ (t.deck n).heldLimit = none
      ∧ (if s.deckValid n then
          (t.deck n).history = [] ∧ (t.deck n).reading = none ∧ (t.deck n).settling = ⟨.unsettled, none, 0, 0⟩
            ∧ (t.deck n).occupancy = .neither
        else
          (t.deck n).history = (s.deck n).history ∧ (t.deck n).reading = (s.deck n).reading
            ∧ (t.deck n).settling = (s.deck n).settling ∧ (t.deck n).occupancy = (s.deck n).occupancy)
      ∧ (t.deck n).op = (if joined then none else (s.deck n).op)
      ∧ (∀ op, (s.deck n).op = some op →
          (t.deck n).lastOutcome
            = if joined then some ⟨op.sub, .aborted .invalid, s.now⟩ else (s.deck n).lastOutcome)
      ∧ t.lane n =
        (if s.deckValid n then
          match (s.lane n).state with
          | .idle => { s.lane n with state := .suspended }
          | .weighing =>
            { s.lane n with capture := { (s.lane n).capture with parts := [], moved := false, age := none } }
          | _ => s.lane n
        else s.lane n)
      ∧ s.posts t
        ((if s.deckValid n ∧ (s.lane n).state = .weighing ∧ parts ≠ [] then
            [s.event .partDiscarded (some n) .none (.parts parts.length)] else [])
          ++ (if s.deckValid n then [invalid] else List.replicate ((s.reasons n).joined after) invalid)
          ++ match (s.deck n).op with
            | some op => if joined then [s.event .calAborted (some n) .none (.calAborted op.sub .invalid)] else []
            | none => [])

/-- Stages 1 to 4 of the weight arithmetic and the range status of a filtered weight (R19 to R22, R28). The stages are
for a sample of up to eight cells: each raw count less its zero, times its trim, summed, divided by 65,536 and rounded;
corrected by E_cal over the reference; and times K over 65,536, held within two thousand million. A rounded quotient
lies within half of the exact one, a half going away from zero; a rounded-up quotient is the least that covers it. -/
def Obligations.WeightStages : Prop :=
  (∀ (a : Int) (b : Nat), 0 < b →
      2 * (a - b * roundDiv a b).natAbs ≤ b
        ∧ (2 * (a - b * roundDiv a b).natAbs = b → a.natAbs < (b * roundDiv a b).natAbs))
    ∧ (∀ a b : Nat, 0 < b → a ≤ b * ceilDiv a b ∧ b * ceilDiv a b < a + b)
    ∧ (∀ (c : DeckCal) (f : Int),
      (rangeStatus c f = .over ↔ ((c.max : Int) + 9 * c.d) * 10 < f)
        ∧ (rangeStatus c f = .under ↔ f < -(200 * (c.d : Int)))
        ∧ (rangeStatus c f = .normal ↔ -(200 * (c.d : Int)) ≤ f ∧ f ≤ ((c.max : Int) + 9 * c.d) * 10))
    ∧ ∀ (c : DeckCal) (cells : List Int) (e : Int), cells.length ≤ 8 →
    let sum := ∑ i : Fin 8,
      match cells[i.val]? with
      | some raw => (raw - c.zeros.get i) * (c.trims.get i : Int)
      | none => 0
    trimmedSum c cells = roundDiv sum 65536
      ∧ correctedSum c cells e = roundDiv (roundDiv sum 65536 * c.eCal) e.toNat
      ∧ spanWeight c cells e
        = max (-2000000000) (min 2000000000 (roundDiv (correctedSum c cells e * c.k) 65536))

/-- DECK_SAMPLE with a good sample that completes no capture (R8, R12, R14, R18 to R29, R36 to R39, R44, R47, R115): the
good count, the fourth good sample that takes the sample reasons away, and the zero limit that a RANGE left standing no
longer held (R63); and, on a deck that is then VALID, with a capture in flight or none, the reading made from the sample
and the newest values of the history, the settling monitor's judgement of it, the moved mark of a WEIGHING lane whose
deck leaves LOCKED, and a SUSPENDED lane that enters IDLE where the deck was its last cause. The end of the slot as the
command's own time (log 19), and the monitor before the operation (log 41), are the model's choices. -/
def Obligations.GoodSampleMakesTheReading : Prop :=
  ∀ (s : State) (slot : Fin 16) (cells : List Int) (e : Int) (n : Lane),
    s.power.held = none → s.acq.active.get slot = some n → cells.length = (s.deckSettings n).cells →
    goodSample (s.cal n) cells e = true →
    (∀ first sums refSum, (s.deck n).op ≠ some (.zero 63 first sums refSum)) →
    (∀ load first sum, (s.deck n).op ≠ some (.span load 63 first sum)) →
    let cfg := s.deckSettings n
    let faulty := (s.deck n).saturated || (s.deck n).excitation
    let recovers := faulty && decide ((s.deck n).good = 3)
    let after : ReasonSet :=
      if recovers then { s.reasons n with cellSaturated := false, excitation := false } else s.reasons n
    let w := spanWeight (s.cal n) cells e
    let history := ((s.deck n).history ++ [w]).drop ((s.deck n).history.length + 1 - 16)
    let newest := history.drop (history.length - cfg.depth)
    let f := roundDiv newest.sum newest.length - (s.cal n).z
    let r : Reading :=
      { w := w, g := w - (s.cal n).z, f := f, d := (s.cal n).d * roundDiv f (10 * (s.cal n).d)
        range := rangeStatus (s.cal n) f, entries := newest.length, time := s.now, minimum := 20 * (s.cal n).d }
    let m := (s.deck n).settling
    let unsettled : Settling := ⟨.unsettled, some f, 0, 0⟩
    let inside (a : Int) : Prop := r.range = .normal ∧ (f - a).natAbs ≤ cfg.band
    let counted (run : Nat) (next : SettleState) : Settling :=
      { m with state := if run ≤ m.run + 1 then next else m.state, run := m.run + 1, out := 0 }
    let outside : Settling := if cfg.tDrop ≤ m.out + 1 then unsettled else { m with out := m.out + 1 }
    let judged : Settling :=
      match m.anchor, m.state with
      | none, _ => unsettled
      | some a, .unsettled => if inside a then counted cfg.tTent .tentative else { m with anchor := some f, run := 0 }
      | some a, .tentative => if inside a then counted (cfg.tTent + cfg.tSettle) .settled else outside
      | some a, .settled => if inside a then counted (cfg.tTent + cfg.tSettle + cfg.tLock) .locked else outside
      | some a, .locked => if inside a then { m with out := 0 } else outside
    let loaded := decide (((s.laneSettings n).occupancy : Int) * 10 ≤ f)
    let valid := recovers && after.isEmpty
    ∃ t, exec (.deckSample slot cells e) s = .next t
      ∧ t.acq = { s.acq with position := (slot.val + 1) % 16 }
      ∧ t.cal n = s.cal n ∧ t.reasons n = after ∧ ((s.deck n).op = none → (t.deck n).op = none)
      ∧ (t.deck n).good = (if recovers then 0 else if faulty then (s.deck n).good + 1 else (s.deck n).good)
      ∧ (t.deck n).lastSample = some ⟨cells, e, s.now, true⟩ ∧ (t.deck n).heldLimit = none
      ∧ (if after.isEmpty then
          (t.deck n).history = history ∧ (t.deck n).reading = some r ∧ (t.deck n).settling = judged
            ∧ (t.deck n).occupancy = (if loaded then .occupied else .empty)
            ∧ ((s.lane n).state = .weighing → loaded = true → m.state = .locked → judged.state ≠ .locked →
                (t.lane n).capture.moved = true)
            ∧ (valid = true → (s.lane n).state = .suspended → s.yardCause n = false →
                t.lane n = s.idled n false loaded)
        else
          (t.deck n).history = (s.deck n).history ∧ (t.deck n).reading = (s.deck n).reading
            ∧ (t.deck n).settling = (s.deck n).settling ∧ (t.deck n).occupancy = (s.deck n).occupancy
            ∧ t.lane n = s.lane n)
      ∧ ((s.deck n).op = none → (s.lane n).state ≠ .weighing →
          s.posts t (if valid then [s.event .deckValid (some n) .none .none] else []))

/-! ### Settling, zero, captures and calibration (R35 to R67) -/

/-- The capture of a part (R45 to R50, R108): at a reading, as the entry loop becomes FREE, and at entry into WEIGHING.
A reading that meets every condition is captured as the next part with its value, deck, time, calibration counter and
unset mark; the part that brings the list to the required count, for which the entry loop must be FREE, forms the
weighing, whose decision is postponed in WARNING; and a list older than its limit is discarded first, the same reading
becoming a new first part. That the decision then waits for a command of its own (log 4), and the absent age count of an
empty parts list in WEIGHING (log 45), are the model's choices. -/
def Obligations.PartIsCaptured : Prop :=
  ∀ (s : State) (n : Lane) (k : Nat),
    let taken (l : LaneSeq) (r : Reading) : LaneSeq :=
      let p : Part := ⟨r.d.toNat, n, s.now, (s.cal n).counter, s.clock.unset⟩
      let ps := l.capture.parts ++ [p]
      if k = ps.length then
        { l with
          capture := ⟨some k, [], false, none⟩
          heldWeighing := some ⟨(ps.map fun q => q.value).sum, n, s.now, ps, ps.any fun q => q.unset⟩
          postponed := decide (s.power.supply = .warning) }
      else
        { l with
          capture := ⟨some k, ps, false, if l.capture.parts = [] then some 0 else l.capture.age⟩ }
    let meets (r : Reading) : Prop := r.range = .normal ∧ (r.minimum : Int) ≤ r.d
    let last (c : Capture) : Prop := k = c.parts.length + 1
    let empty : Capture := ⟨some k, [], false, none⟩
    let discarded := s.event .weighingDiscarded (some n) .none (.parts (s.lane n).capture.parts.length)
    let ready := (s.lane n).state = .weighing ∧ (s.lane n).heldWeighing = none
      ∧ (s.lane n).capture.required = some k ∧ ((s.lane n).capture.parts = [] ∨ (s.lane n).capture.moved = true)
    let aged := (s.lane n).capture.parts ≠ [] ∧ ∃ a, (s.lane n).capture.age = some a ∧ (s.laneSettings n).partAge < a
    (∀ (slot : Fin 16) (cells : List Int) (e : Int),
        s.power.held = none → s.acq.active.get slot = some n → cells.length = (s.deckSettings n).cells →
        goodSample (s.cal n) cells e = true → (s.deck n).op = none → s.deckValid n = true → ready →
        let w := spanWeight (s.cal n) cells e
        let r := makeReading (s.cal n) (s.deckSettings n).depth (pushHistory (s.deck n).history w) w s.now
        (judgeReading (s.deckSettings n) (s.deck n).settling r).state = .locked →
        ((s.laneSettings n).occupancy : Int) * 10 ≤ r.f →
        ∃ t, exec (.deckSample slot cells e) s = .next t ∧ r.minimum = 20 * (s.cal n).d
          ∧ (¬ meets r ∨ (last (s.lane n).capture ∧ (s.loop n .entry).report ≠ .free) →
              s.posts t [] ∧ t.lane n = s.lane n)
          ∧ (meets r → (last (s.lane n).capture → (s.loop n .entry).report = .free) →
              (¬ aged → s.posts t [] ∧ t.lane n = taken (s.lane n) r)
                ∧ (aged → 2 ≤ k → s.posts t [discarded] ∧ t.lane n = taken { s.lane n with capture := empty } r)))
      ∧ (∀ (count : Nat) (r : Reading),
        s.power.held = none → s.deckValid n = true → ready → (s.deck n).settling.state = .locked →
        (s.deck n).reading = some r →
        ∃ t, exec (.loopMeasurement n .entry count) s = .next t
          ∧ ((s.loop n .entry).report ≠ .free → (t.loop n .entry).report = .free →
            (¬ meets r → s.posts t [] ∧ t.lane n = s.lane n)
              ∧ (meets r → ¬ aged → s.posts t [] ∧ t.lane n = taken (s.lane n) r)
              ∧ (meets r → aged → s.posts t [discarded] ∧ t.lane n = taken { s.lane n with capture := empty } r)))
      ∧ ((s.lane n).heldWeighing = none →
        let l : LaneSeq := { s.lane n with state := .weighing, capture := empty }
        ((s.deck n).reading = none → s.enterWeighing n k = { s with lanes := s.lanes.set n l })
          ∧ ∀ r, (s.deck n).reading = some r →
            s.enterWeighing n k =
              { s with
                lanes := s.lanes.set n
                  (if s.deckValid n = true ∧ (s.deck n).settling.state = .locked ∧ meets r
                      ∧ (last empty → (s.loop n .entry).report = .free) then taken l r
                  else l) })

/-- DECK_SAMPLE and the lane (R44, R102, R103, R107, R108, R113): a deck that becomes occupied makes an IDLE lane
OCCUPIED; one that becomes empty sends an OCCUPIED or a REFUSED lane, or a WEIGHING lane with no weighing completed or
one whose decision is postponed, back to IDLE, examined at once, with WEIGHING_DISCARDED and the parts' count for the
latter two. A decision already called, which keeps the lane as it is (log 4), and the occupancy before the capture at
one reading (log 41) are the model's choices. -/
def Obligations.OccupancyReachesTheLane : Prop :=
  ∀ (s : State) (slot : Fin 16) (cells : List Int) (e : Int) (n : Lane),
    s.power.held = none → s.acq.active.get slot = some n → cells.length = (s.deckSettings n).cells →
    goodSample (s.cal n) cells e = true → (s.deck n).op = none → s.deckValid n = true →
    let l := s.lane n
    let w := spanWeight (s.cal n) cells e
    let r := makeReading (s.cal n) (s.deckSettings n).depth (pushHistory (s.deck n).history w) w s.now
    let level : Int := (s.laneSettings n).occupancy * 10
    let back : LaneState :=
      if l.closePending ∨ s.ret.settings.siteMode = .closed then .closed
      else if s.suspendCause n then .suspended else .idle
    ∃ t, exec (.deckSample slot cells e) s = .next t
      ∧ (l.state = .idle → s.suspendCause n = false → level ≤ r.f → (s.deck n).occupancy ≠ .occupied →
          t.lane n = { l with state := .occupied } ∧ s.posts t [])
      ∧ (l.state = .occupied ∨ l.state = .refused → r.f < level → (s.deck n).occupancy ≠ .empty →
          (t.lane n).state = back ∧ (t.lane n).identity = none ∧ (t.lane n).visit = none ∧ s.posts t [])
      ∧ (l.state = .weighing → r.f < level → (s.deck n).occupancy ≠ .empty → l.heldWeighing = none →
          (t.lane n).state = back ∧ (t.lane n).identity = none ∧ (t.lane n).visit = none
            ∧ (t.lane n).capture = ⟨none, [], false, none⟩
            ∧ s.posts t [s.event .weighingDiscarded (some n) .none (.parts l.capture.parts.length)])
      ∧ (∀ x, l.state = .weighing → r.f < level → (s.deck n).occupancy ≠ .empty → l.heldWeighing = some x →
          if l.postponed then
            (t.lane n).state = back ∧ (t.lane n).identity = none ∧ (t.lane n).visit = none
              ∧ (t.lane n).heldWeighing = none ∧ (t.lane n).postponed = false
              ∧ (t.lane n).capture = ⟨none, [], false, none⟩
              ∧ s.posts t [s.event .weighingDiscarded (some n) .none (.parts x.parts.length)]
          else (t.lane n).state = .weighing ∧ (t.lane n).heldWeighing = some x ∧ s.posts t [])

/-- DECK_SAMPLE handed to a capture in flight (R8, R58, R60, R63, R64): a stable sample short of the sixty-fourth is
counted and added to the sums, and one that differs from the first by more than 2,000 counts ends the capture UNSTABLE;
the constants stay as they are, and a zero limit held since a RANGE is held no longer. The end of the slot as the
command's own time is the model's choice (log 19). -/
def Obligations.CaptureCountsTheSample : Prop :=
  ∀ (s : State) (slot : Fin 16) (cells : List Int) (e : Int) (n : Lane) (op : CalOp),
    s.power.held = none → s.acq.active.get slot = some n → cells.length = (s.deckSettings n).cells →
    goodSample (s.cal n) cells e = true → (s.deck n).op = some op →
    (s.deck n).noSlots = false → (s.deck n).saturated = false → (s.deck n).excitation = false →
    let unstable := s.event .calAborted (some n) .none (.calAborted op.sub .unstable)
    ∃ t, exec (.deckSample slot cells e) s = .next t ∧ (t.deck n).heldLimit = none
      ∧ match op with
        | .zero taken first sums refSum =>
          let kept := first.getD cells
          if ∀ p ∈ kept.zip cells, (p.2 - p.1).natAbs ≤ 2000 then
            taken ≠ 63 →
              t.cal n = s.cal n
                ∧ (t.deck n).op = some (.zero (taken + 1) (some kept)
                    (if sums = [] then cells else List.zipWith (· + ·) sums cells) (refSum + e))
          else
            t.cal n = s.cal n ∧ (t.deck n).op = none
              ∧ (t.deck n).lastOutcome = some ⟨.zeroCapture, .aborted .unstable, s.now⟩
              ∧ ((s.lane n).state = .closed → s.posts t [unstable])
        | .span load taken first sum =>
          let sr := correctedSum (s.cal n) cells e
          let kept := first.getD sr
          if (sr - kept).natAbs ≤ 2000 then
            taken ≠ 63 →
              t.cal n = s.cal n ∧ (t.deck n).op = some (.span load (taken + 1) (some kept) (sum + sr))
          else
            t.cal n = s.cal n ∧ (t.deck n).op = none
              ∧ (t.deck n).lastOutcome = some ⟨.spanCapture, .aborted .unstable, s.now⟩
              ∧ ((s.lane n).state = .closed → s.posts t [unstable])

/-- ZERO_CAPTURE_COMPLETE and SPAN_CAPTURE_COMPLETE (R59, R61, R63). At the sixty-fourth stable sample of a zero capture
the zero counts and E_cal become the rounded averages, Z becomes 0, the zero-done mark is set and the counter rises; the
operation ends DONE, the history is emptied, the monitor and the zero-limit marker are cleared, and CAL_DONE is posted,
with DECK_VALID where the deck becomes VALID. At that of a span capture the average of the corrected sums decides: below
10,000 the capture ends SPAN_TOO_SMALL; a K outside its range ends it BAD_ARGUMENT; otherwise K is set, the span-done
mark is set, the counter rises, the history is emptied, the monitor cleared, and CAL_DONE is posted, with DECK_VALID
likewise. A zero limit held since a RANGE is held no longer. A row is the end of a slot: a DECK_SAMPLE of the same
sample does the same, which is the model's reading (log 5); and on a VALID deck the monitor judges the completing sample
before it is cleared, which is the model's choice (log 41). -/
def Obligations.CapturesComplete : Prop :=
  (∀ (s : State) (slot : Fin 16) (cells : List Int) (e : Int) (n : Lane) (first : Option (List Int)) (sums : List Int)
        (refSum : Int),
      s.power.held = none → s.acq.active.get slot = some n → cells.length = (s.deckSettings n).cells →
      goodSample (s.cal n) cells e = true → (s.deck n).op = some (.zero 63 first sums refSum) →
      (s.deck n).noSlots = false → (s.deck n).saturated = false → (s.deck n).excitation = false →
      sums.length = cells.length → (∀ p ∈ (first.getD cells).zip cells, (p.2 - p.1).natAbs ≤ 2000) →
      ∃ t, exec (.zeroCaptureComplete slot cells e) s = .next t ∧ exec (.deckSample slot cells e) s = .next t
        ∧ t.acq = { s.acq with position := (slot.val + 1) % 16 }
        ∧ t.cal n =
          { s.cal n with
            zeros := Vector.ofFn fun i =>
              match sums[i.val]?, cells[i.val]? with
              | some a, some b => roundDiv (a + b) 64
              | _, _ => (s.cal n).zeros.get i
            eCal := (roundDiv (refSum + e) 64).toNat, z := 0, zeroDone := true, counter := (s.cal n).counter + 1 }
        ∧ (t.deck n).op = none ∧ (t.deck n).lastOutcome = some ⟨.zeroCapture, .done, s.now⟩
        ∧ (t.deck n).history = [] ∧ (t.deck n).settling = clearedSettling ∧ (t.deck n).zeroMarker = false
        ∧ (t.deck n).heldLimit = none
        ∧ t.deckValid n = (s.cal n).spanDone
        ∧ ((s.lane n).state = .closed →
            s.posts t
              (s.event .calDone (some n) .none (.calDone .zeroCapture ((s.cal n).counter + 1))
                :: if s.deckValid n = false ∧ (s.cal n).spanDone = true then [s.event .deckValid (some n) .none .none]
                  else [])))
    ∧ ∀ (s : State) (slot : Fin 16) (cells : List Int) (e : Int) (n : Lane) (load : Nat) (first : Option Int) (sum : Int),
      s.power.held = none → s.acq.active.get slot = some n → cells.length = (s.deckSettings n).cells →
      goodSample (s.cal n) cells e = true → (s.deck n).op = some (.span load 63 first sum) →
      (s.deck n).noSlots = false → (s.deck n).saturated = false → (s.deck n).excitation = false →
      let sr := correctedSum (s.cal n) cells e
      let average := roundDiv (sum + sr) 64
      let k := roundDiv ((load : Int) * 655360) average.toNat
      let aborted (c : AbortCause) (t : State) : Prop :=
        t.cal n = s.cal n ∧ (t.deck n).lastOutcome = some ⟨.spanCapture, .aborted c, s.now⟩
          ∧ ((s.lane n).state = .closed →
              s.posts t [s.event .calAborted (some n) .none (.calAborted .spanCapture c)])
      (sr - first.getD sr).natAbs ≤ 2000 →
      ∃ t, exec (.spanCaptureComplete slot cells e) s = .next t ∧ exec (.deckSample slot cells e) s = .next t
        ∧ t.acq = { s.acq with position := (slot.val + 1) % 16 } ∧ (t.deck n).op = none
        ∧ (t.deck n).heldLimit = none
        ∧ if average < 10000 then aborted .spanTooSmall t
          else if k < 1 ∨ 16777215 < k then aborted .badArgument t
          else
            t.cal n = { s.cal n with k := k.toNat, spanDone := true, counter := (s.cal n).counter + 1 }
              ∧ (t.deck n).lastOutcome = some ⟨.spanCapture, .done, s.now⟩
              ∧ (t.deck n).history = [] ∧ (t.deck n).settling = clearedSettling
              ∧ t.deckValid n = (s.cal n).zeroDone
              ∧ ((s.lane n).state = .closed →
                  s.posts t
                    (s.event .calDone (some n) .none (.calDone .spanCapture ((s.cal n).counter + 1))
                      :: if s.deckValid n = false ∧ (s.cal n).zeroDone = true then
                          [s.event .deckValid (some n) .none .none]
                        else []))

/-- A CAL record that passes every step (R55 to R58, R60, R62 to R64): a capture is put in flight with nothing counted;
a TRIM or a RANGE changes the constants, raises the counter and posts CAL_DONE, a TRIM emptying the history and clearing
the monitor too, a RANGE leaving the zero limit as it stands to the deck's next sample; an ABORT ends the operation in
flight. The limit held from before the first of several RANGEs is the model's choice (log 39). -/
def Obligations.CalRecordsCarriedOut : Prop :=
  ∀ (s : State) (h : RecHead) (n : Lane), s.takes h .lane → h.chan = .lane n → s.power.calEnable = true →
    let c := s.cal n
    let d := s.deck n
    let done (sub : CalSub) := s.event .calDone (some n) .none (.calDone sub (c.counter + 1))
    (∀ op, d.op = some op →
        exec (.abort h) s = .next (s.executed h [s.event .calAborted (some n) .none (.calAborted op.sub .command)]
          { s with
            decks := s.decks.set n
              { d with op := none, lastOutcome := some ⟨op.sub, .aborted .command, s.now⟩ } }))
      ∧ (s.power.supply ≠ .warning → d.op = none → (s.lane n).state = .closed → c.counter < 65535 →
          (d.noSlots = false → d.saturated = false → d.excitation = false →
              exec (.zeroCapture h (.item ())) s
                  = .next (s.executed h [] { s with decks := s.decks.set n { d with op := some (.zero 0 none [] 0) } })
                ∧ ∀ v : BitVec 32, 1 ≤ v.toNat → v.toNat ≤ 100000 → c.zeroDone = true →
                  exec (.spanCapture h (.item v)) s = .next (s.executed h []
                    { s with decks := s.decks.set n { d with op := some (.span v.toNat 0 none 0) } }))
            ∧ (∀ ps : List TrimPair, 1 ≤ ps.length → ps.length ≤ 8 → (ps.map fun p => p.cell.toNat).Nodup →
                (∀ p ∈ ps, 1 ≤ p.cell.toNat ∧ p.cell.toNat ≤ (s.deckSettings n).cells
                  ∧ 49152 ≤ p.trim.toNat ∧ p.trim.toNat ≤ 81920) →
                exec (.trim h (.item ps)) s = .next (s.executed h [done .trim]
                  { s.storing { s.ret with
                      cal := s.ret.cal.set n
                        { c with
                          trims := Vector.ofFn fun i =>
                            match ps.find? fun p => p.cell.toNat == i.val + 1 with
                            | some p => p.trim.toNat
                            | none => c.trims.get i
                          counter := c.counter + 1 } } with
                    decks := s.decks.set n
                      { d with
                        history := [], settling := clearedSettling, lastOutcome := some ⟨.trim, .done, s.now⟩ } }))
            ∧ ∀ i : RangeItem, i.d.toNat ∈ [5, 10, 20, 50, 100] → 1000 ≤ i.max.toNat → i.max.toNat ≤ 100000 →
                i.max.toNat % i.d.toNat = 0 → i.max.toNat / i.d.toNat ≤ 10000 → c.z.natAbs ≤ i.max.toNat / 5 →
                exec (.range h (.item i)) s = .next (s.executed h [done .range]
                  { s.storing { s.ret with
                      cal := s.ret.cal.set n
                        { c with max := i.max.toNat, d := i.d.toNat, counter := c.counter + 1 } } with
                    decks := s.decks.set n
                      { d with
                        lastOutcome := some ⟨.range, .done, s.now⟩
                        heldLimit := some (d.heldLimit.getD (c.max / 5)) } }))

/-- A CAL record other than ABORT is examined in the order of its steps (R56): CAL_LOCKED, BUSY in WARNING, BUSY with an
operation in flight, WRONG_STATE outside CLOSED, COUNTER_FULL, whatever its argument; then BAD_ARGUMENT for a payload
that does not fit (R204), a test load, a trim list or a range out of its values (R60, R62, R63); then WRONG_STATE for a
capture on a deck with a reason other than UNCALIBRATED, or a SPAN CAPTURE before a zero capture (R58, R60), and LIMIT
for a RANGE that leaves Z past the new limit (R63). An ABORT is refused CAL_LOCKED, and WRONG_STATE with nothing in
flight (R64). A record refused changes nothing but the port. What does not fit is found last, which is the model's
choice for an unknown operation code (log 10). -/
def Obligations.CalRecordsRefusedInOrder : Prop :=
  ∀ (s : State) (h : RecHead) (n : Lane), s.takes h .lane → h.chan = .lane n →
    let gate : Option ResultCode :=
      if s.power.calEnable = false then some .calLocked
      else if s.power.supply = .warning then some .busy
      else if (s.deck n).op ≠ none then some .busy
      else if (s.lane n).state ≠ .closed then some .wrongState
      else if 65535 ≤ (s.cal n).counter then some .counterFull else none
    let refuses (c : Instr) (code : ResultCode) : Prop := exec c s = .next (s.refusedWith h code)
    let divisions : List Nat := [5, 10, 20, 50, 100]
    let clean := (s.deck n).noSlots = false ∧ (s.deck n).saturated = false ∧ (s.deck n).excitation = false
    (∀ code, gate = some code →
        (∀ b, refuses (.zeroCapture h b) code) ∧ (∀ b, refuses (.spanCapture h b) code)
          ∧ (∀ b, refuses (.trim h b) code) ∧ ∀ b, refuses (.range h b) code)
      ∧ (gate = none →
        refuses (.zeroCapture h .misfit) .badArgument ∧ refuses (.spanCapture h .misfit) .badArgument
          ∧ refuses (.trim h .misfit) .badArgument ∧ refuses (.range h .misfit) .badArgument
          ∧ (∀ v : BitVec 32,
            (v.toNat = 0 ∨ 100000 < v.toNat → refuses (.spanCapture h (.item v)) .badArgument)
              ∧ (1 ≤ v.toNat → v.toNat ≤ 100000 → (s.cal n).zeroDone = false ∨ ¬ clean →
                refuses (.spanCapture h (.item v)) .wrongState))
          ∧ (¬ clean → refuses (.zeroCapture h (.item ())) .wrongState)
          ∧ (∀ ps : List TrimPair,
            ps = [] ∨ 8 < ps.length ∨ ¬ (ps.map fun p => p.cell.toNat).Nodup
                ∨ (∃ p ∈ ps, p.cell.toNat = 0 ∨ (s.deckSettings n).cells < p.cell.toNat ∨ p.trim.toNat < 49152
                  ∨ 81920 < p.trim.toNat) →
            refuses (.trim h (.item ps)) .badArgument)
          ∧ ∀ i : RangeItem,
            let fits := i.d.toNat ∈ divisions ∧ 1000 ≤ i.max.toNat ∧ i.max.toNat ≤ 100000
              ∧ i.max.toNat % i.d.toNat = 0 ∧ i.max.toNat / i.d.toNat ≤ 10000
            (¬ fits → refuses (.range h (.item i)) .badArgument)
              ∧ (fits → i.max.toNat / 5 < (s.cal n).z.natAbs → refuses (.range h (.item i)) .limit))
      ∧ (s.power.calEnable = false → refuses (.abort h) .calLocked)
      ∧ (s.power.calEnable = true → (s.deck n).op = none → refuses (.abort h) .wrongState)

/-- ZERO (R31, R40, R42, R43, R63): refused WRONG_CHANNEL on channel 0, BUSY with a calibration operation in flight,
WRONG_STATE outside its conditions and LIMIT past the zero limit; otherwise Z rises by the reading's F, the anchor falls
by as much, and a Z strictly within the limit clears the zero-limit marker. The limit is Max/5; between a RANGE and the
deck's next sample it is the one formed before the RANGE, and no more than the new Max/5, which is the model's choice
(log 39). -/
def Obligations.ZeroRecordSetsZ : Prop :=
  ∀ (s : State) (h : RecHead) (n : Lane), s.takes h .lane → h.chan = .lane n →
    let c := s.cal n
    let d := s.deck n
    let bound : Nat := min (d.heldLimit.getD (c.max / 5)) (c.max / 5)
    exec (.zero { h with chan := .site }) s = .next (s.refusedWith { h with chan := .site } .wrongChannel)
      ∧ ((d.op ≠ none → exec (.zero h) s = .next (s.refusedWith h .busy))
      ∧ (d.op = none → ((s.lane n).state ≠ .idle ∧ (s.lane n).state ≠ .closed) ∨ s.deckValid n = false
            ∨ d.reading = none ∨ d.settling.state = .unsettled ∨ d.settling.state = .tentative →
          exec (.zero h) s = .next (s.refusedWith h .wrongState))
      ∧ ∀ r, d.op = none → ((s.lane n).state = .idle ∨ (s.lane n).state = .closed) → s.deckValid n = true →
          d.reading = some r → (d.settling.state = .settled ∨ d.settling.state = .locked) →
          exec (.zero h) s = .next
            (if r.range ≠ .normal then s.refusedWith h .wrongState
            else if bound < (c.z + r.f).natAbs then s.refusedWith h .limit
            else s.executed h []
              { s.storing { s.ret with cal := s.ret.cal.set n { c with z := c.z + r.f } } with
                decks := s.decks.set n
                  { d with
                    settling := { d.settling with anchor := d.settling.anchor.map fun a => a - r.f }
                    zeroMarker := if (c.z + r.f).natAbs < bound then false else d.zeroMarker } }))

/-! ### Loops and barriers (R68 to R86) -/

/-- LOOP_MEASUREMENT (R68 to R73, R110, R112, R115, R117): the measured loop takes its latest P and moves by its
condition, and every other loop stays as it is. LOOP_FAULT is posted for a fault entered, SHORT or OPENED, or RECOVERED;
then OUT_OF_HOURS where a FREE loop becomes OCCUPIED on a CLOSED site, and UNEXPECTED_PASS where a clear loop becomes
FREE with a cycle that is no pass, outside MANUAL. A loop that becomes FAULTED makes an IDLE lane SUSPENDED, and one
that leaves FAULTED lets a SUSPENDED lane enter IDLE where that was the last cause. Where the reported value is
unchanged nothing else happens. What an entry loop becoming FREE captures is the statement PartIsCaptured's. The count
held at 400,001 (log 19) and the recovery count 0 outside FAULTED (log 44) are the model's choices. -/
def Obligations.LoopMeasurementJudged : Prop :=
  ∀ (s : State) (n : Lane) (side : LoopSide) (count : Nat), s.power.held = none →
    let p := min count 400001
    let l : Loop := { s.loop n side with latest := some p }
    let cfg := s.loopSettings n side
    let settled (c : LoopCondition) : Loop := { l with condition := c, presence := 0, stuck := false, stuckDue := false }
    let learning : Loop := { l with condition := .learning, baseline := some p, learnTimer := some 0, recovery := 0 }
    let expected : Loop :=
      if p < 20000 ∨ 400000 < p then
        if l.condition = .faulted then { l with recovery := 0 }
        else { settled .faulted with baseline := none, learnTimer := none, recovery := 0 }
      else
        match l.condition, l.baseline with
        | .start, _ => learning
        | .learning, _ => l
        | .faulted, _ => if l.recovery = 8 then learning else { l with recovery := l.recovery + 1 }
        | .free, some b =>
          if p + cfg.onThr ≤ b then settled .occupied
          else if b + cfg.onThr ≤ p then { l with baseline := some p } else l
        | .occupied, some b => if b ≤ p + cfg.offThr then settled .free else l
        | .free, none => l
        | .occupied, none => l
    let before := (s.loop n side).report
    let fault (k : LoopFaultKind) : List Event := [s.event .loopFault (some n) .none (.loopFault side k)]
    let faults : List Event :=
      if l.condition = .faulted then
        if p < 20000 ∨ 400000 < p then [] else if l.recovery = 8 then fault .recovered else []
      else if p < 20000 then fault .short else if 400000 < p then fault .opened else []
    let hours : List Event :=
      if s.ret.settings.siteMode = .closed ∧ before = .free ∧ expected.report = .occupied then
        [s.event .outOfHours (some n) .none (.loop side)] else []
    let seq := s.lane n
    let passes (marked : Bool) : Bool := marked && seq.state = .passing && (s.barrier n).state = .up
    let ends : List Event :=
      match side, before, expected.report, seq.cycle with
      | .clear, .occupied, .free, some marked =>
        if passes marked = true ∨ seq.state = .manual then [] else [s.event .unexpectedPass (some n) .none .none]
      | _, _, _, _ => []
    let other := (s.loop n (match side with
      | .entry => .clear
      | .clear => .entry)).report
    let kept (x : LaneSeq) : LaneSeq :=
      match side with
      | .entry => x
      | .clear => { x with cycle := none }
    ∃ t, exec (.loopMeasurement n side count) s = .next t ∧ t.loop n side = expected
      ∧ (∀ m sd, (m ≠ n ∨ sd ≠ side) → t.loop m sd = s.loop m sd)
      ∧ (expected.report = before → t = s.posted faults { s with loops := t.loops })
      ∧ (¬ (side = .entry ∧ expected.report = .free ∧ seq.state = .weighing) → s.posts t (faults ++ hours ++ ends))
      ∧ (before ≠ .faulted → expected.report = .faulted →
        t.lane n = kept (if seq.state = .idle then { seq with state := .suspended } else seq))
      ∧ (before = .faulted → expected.report ≠ .faulted → seq.state ≠ .idle →
        t.lane n = kept
          (if seq.state = .suspended ∧ isFault (s.barrier n).state = false ∧ s.deckValid n = true ∧ other ≠ .faulted then
            s.idled n false (decide ((s.deck n).occupancy = .occupied))
          else seq))

/-- The clear loop and the barrier (R77, R79), at a measurement that changes the loop's report, with the target DOWN: a
lowering reverses when the report is no longer FREE, a barrier waiting in UP or UNKNOWN begins lowering when it becomes
FREE, and a barrier in any other state is left alone. A reversing motor without a direction is the model's choice (log
18). -/
def Obligations.ClearLoopMovesTheBarrier : Prop :=
  ∀ (s : State) (n : Lane) (count : Nat), s.power.held = none → (s.barrier n).target = .down →
    let b := s.barrier n
    ∃ t, exec (.loopMeasurement n .clear count) s = .next t
      ∧ ((t.loop n .clear).report ≠ (s.loop n .clear).report →
          t.barrier n =
            match b.state with
            | .lowering =>
              if (t.loop n .clear).report = .free then b
              else { b with state := .reversing, duty := 0, direction := none, motionMs := none, blanked := false }
            | .up => if (t.loop n .clear).report = .free then beginMotion (s.laneSettings n).barrier .down b else b
            | .unknown => if (t.loop n .clear).report = .free then beginMotion (s.laneSettings n).barrier .down b else b
            | _ => b)

/-- The pass (R77, R110, R112, R153): a report that turns from FREE to OCCUPIED begins a cycle, marked when the lane is
PASSING with its barrier UP; one that turns FAULTED leaves none; a marked cycle that ends there is the pass, which makes
an ENTRY's visit ON_SITE, puts the lane in CLEARING and begins the lowering; and any other cycle that ends posts
UNEXPECTED_PASS, outside MANUAL. The absent pass timer outside PASSING is the model's choice (log 45). -/
def Obligations.ClearLoopCycle : Prop :=
  ∀ (s : State) (n : Lane) (count : Nat), s.power.held = none →
    let l := s.lane n
    let before := (s.loop n .clear).report
    let passing := decide (l.state = .passing) && decide ((s.barrier n).state = .up)
    ∃ t, exec (.loopMeasurement n .clear count) s = .next t
      ∧ (before = .free → (t.loop n .clear).report = .occupied → (t.lane n).cycle = some passing)
      ∧ (before ≠ .faulted → (t.loop n .clear).report = .faulted → (t.lane n).cycle = none)
      ∧ ∀ marked, before = .occupied → (t.loop n .clear).report = .free → l.cycle = some marked →
          (t.lane n).cycle = none
            ∧ (if marked && passing then
                t.lane n = { l with state := .clearing, passTimer := none, passDue := false, cycle := none }
                  ∧ t.barrier n
                    = beginMotion (s.laneSettings n).barrier .down { s.barrier n with target := .down }
                  ∧ s.posts t []
                  ∧ ∀ i k, l.identity = some i → l.visit = some k →
                      t.ret.traffic.visits =
                        if i.direction = .entry then
                          s.ret.traffic.visits.map fun v => if v.number = k then { v with state := .onSite } else v
                        else s.ret.traffic.visits
              else
                t.ret.traffic = s.ret.traffic
                  ∧ s.posts t (if l.state = .manual then [] else [s.event .unexpectedPass (some n) .none .none]))

/-- Entry to FAULT (R85, R110, R115): the duty is 0, the motion time stops, BARRIER_FAULT is posted; a PASSING lane is
HELD with reason BARRIER and gives RAISE, an IDLE lane is SUSPENDED, and a lane in any other state is left alone. A
motor without duty has no direction in the model (log 18), and BARRIER_FAULT before HELD (log 42) and the absent pass
timer outside PASSING (log 45) are its choices. -/
def Obligations.BarrierEntersFault : Prop :=
  ∀ (s : State) (n : Lane) (r : BarrierFault),
    let b := { s.barrier n with
      state := .fault r, duty := 0, direction := none, motionMs := none, blanked := false }
    let l := s.lane n
    let event := s.event .barrierFault (some n) .none (.barrierFault r)
    s.enterFault n r =
      match l.state with
      | .passing =>
        s.posted
          [event, s.event .held (some n)
            (match l.visit with
              | some k => .visit k
              | none => .none) (.hold .barrier)]
          { s with
            barriers := s.barriers.set n { b with target := .up }
            lanes := s.lanes.set n
              { l with
                state := .held .barrier, passTimer := none, passDue := false, cycle := l.cycle.map fun _ => false } }
      | .idle =>
        s.posted [event]
          { s with barriers := s.barriers.set n b, lanes := s.lanes.set n { l with state := .suspended } }
      | _ => s.posted [event] { s with barriers := s.barriers.set n b }

/-- LIMIT_SWITCH_CHANGE (R80, R82, R102, R112): both switches active is a FAULT with reason SWITCH outside FAULT; the
matching switch ends a motion in UP or DOWN, a lowering's end clearing the obstruction count and taking a CLEARING lane
to IDLE; the wrong one is a FAULT; a switch that falls at rest leaves UNKNOWN; the barrier then seeks its target; and
any other change is the level alone. A motor without duty has no direction in the model (log 18). -/
def Obligations.LimitSwitchesActed : Prop :=
  ∀ (s : State) (n : Lane) (side : SwitchSide) (active : Bool), s.power.held = none →
    switchLevel side (s.barrier n) ≠ active →
    let b := setSwitch side active (s.barrier n)
    let u : State := { s with barriers := s.barriers.set n b }
    let rest (st : BarrierState) : Barrier :=
      { b with state := st, duty := 0, direction := none, motionMs := none, blanked := false }
    let sought (c : Barrier) : State :=
      { s with
        barriers := s.barriers.set n (Barrier.sought (s.laneSettings n).barrier (s.clearReport n) c) }
    let arrived : Barrier := { rest .down with obstructions := 0 }
    exec (.limitSwitchChange n side active) s = .next
      (if b.downSwitch = true ∧ b.upSwitch = true then
        match b.state with
        | .fault _ => u
        | _ => u.enterFault n .switch
      else
        match b.state, side, active with
        | .raising, .up, true => sought (rest .up)
        | .raising, .down, true => u.enterFault n .switch
        | .lowering, .up, true => u.enterFault n .switch
        | .lowering, .down, true =>
          if (s.lane n).state = .clearing ∧ b.target = .down then
            State.enterIdle { s with barriers := s.barriers.set n arrived } n
          else if (s.lane n).state = .clearing then
            State.seek (State.enterIdle { s with barriers := s.barriers.set n arrived } n) n
          else sought arrived
        | .down, .down, false => sought (rest .unknown)
        | .up, .up, false => sought (rest .unknown)
        | _, _, _ => u)

/-- COMPARATOR_TRIP, COMPARATOR_BLANKING_END and COMPARATOR_CLEAR (R83, R84): in the first 200 ms of a motion a trip is
disregarded; after them, or as they elapse with the comparator tripped, it is an obstruction of a lowering, with
REVERSING, or FAULT at the third in a row, and a FAULT with reason STALL of a raising; in the reversal pause a change to
tripped is a FAULT; elsewhere it is the level alone. That the command itself says that 200 ms have passed (log 6), and a
reversing motor without a direction (log 18), are the model's choices. -/
def Obligations.ComparatorActed : Prop :=
  ∀ (s : State) (n : Lane), s.power.held = none →
    let b := s.barrier n
    let taken (c : Barrier) : State :=
      let u : State := { s with barriers := s.barriers.set n c }
      let count := b.obstructions + 1
      let event := s.event .barrierObstructed (some n) .none (.obstructions count)
      match b.state with
      | .raising => u.enterFault n .stall
      | .lowering =>
        if count < 3 then
          s.posted [event]
            { s with
              barriers := s.barriers.set n
                { c with
                  state := .reversing, obstructions := count, duty := 0, direction := none, motionMs := none
                  blanked := false } }
        else
          State.enterFault
            (s.posted [event] { s with barriers := s.barriers.set n { c with obstructions := count } }) n .obstruction
      | _ => u
    exec (.comparatorTrip n) s = .next
        (if b.state = .reversing then
          if b.comparator then { s with barriers := s.barriers.set n { b with comparator := true } }
          else State.enterFault { s with barriers := s.barriers.set n { b with comparator := true } } n .stall
        else if b.blanked then { s with barriers := s.barriers.set n { b with comparator := true } }
        else taken { b with comparator := true })
      ∧ exec (.comparatorBlankingEnd n) s = .next
        (if b.blanked = true ∧ b.comparator = true then taken { b with blanked := false }
        else { s with barriers := s.barriers.set n { b with blanked := false } })
      ∧ exec (.comparatorClear n) s = .next { s with barriers := s.barriers.set n { b with comparator := false } }

/-- RAISE and LOWER, BARRIER_RAMP_STEP, TRAVEL_TIMEOUT and REVERSING_PAUSE_END (R77 to R79, R81): the whole of what a
RAISE or LOWER command of a lane sequencer changes is its own barrier; the duty climbs by the step to the run duty of
the settings the motion began with; a motion that reaches its travel timeout is a FAULT with reason TRAVEL; and the
pause ends in a raising. In any other barrier state each of the three does nothing. That each of them itself says that
its time has passed, and the count of the motion time (log 6), and a reversing motor without a direction (log 18), are
the model's choices. -/
def Obligations.BarrierDriven : Prop :=
  (∀ (s : State) (n : Lane) (t : Toward), s.command n t = { s with barriers := s.obeying n t })
    ∧ ∀ (s : State) (n : Lane), s.power.held = none →
    let b := s.barrier n
    let moving := b.state = .raising ∨ b.state = .lowering
    exec (.barrierRampStep n) s = .next
        (if moving then
          { s with
            barriers := s.barriers.set n
              { b with
                duty := min (b.duty + b.ramp.step) b.ramp.run
                motionMs := b.motionMs.map fun t => min (t + 20) 30000 } }
        else s)
      ∧ exec (.travelTimeout n) s = .next (if moving then s.enterFault n .travel else s)
      ∧ exec (.reversingPauseEnd n) s = .next
        (if b.state = .reversing then
          { s with
            barriers := s.barriers.set n
              { b with
                state := .raising, duty := (s.laneSettings n).barrier.start, direction := some .up, motionMs := some 0
                blanked := true, ramp := (s.laneSettings n).barrier } }
        else s)

/-! ### The lane sequencer's entries (R101, R102, R109 to R113) -/

/-- The lane sequencer's entries (R101, R102, R109, R110, R112, R113, R115). Entry to IDLE clears the identity, visit,
held weighing and pass timer, and the first case applies: CLOSED with the flag written and LOWER given, SUSPENDED,
OCCUPIED, or IDLE. A suspend cause is the barrier in FAULT, the deck INVALID, or a loop FAULTED; an IDLE lane is
examined again as one comes or goes, and a SUSPENDED lane without one enters IDLE. PASSING gives RAISE and starts an
ENTRY's pass timer, and becomes HELD with reason BARRIER where the barrier is in FAULT; HELD posts its event; REFUSED
keeps the reason, lights its lamp and gives LOWER, and an empty deck takes it on to IDLE; CLEARING gives LOWER. The pass
timeout kept as it stood at entry (log 29), the absent pass timer outside PASSING (log 45) and, where a RAISE reverses a
lowering, a motor without a direction (log 18) are the model's forms. -/
def Obligations.LaneEntries : Prop :=
  ∀ (s : State) (n : Lane),
    (s.suspendCause n = true ↔
        ((∃ r, (s.barrier n).state = .fault r) ∨ s.deckValid n = false ∨ (s.loop n .entry).condition = .faulted
          ∨ (s.loop n .clear).condition = .faulted))
    ∧ (let l := { s.lane n with
        identity := none, visit := none, heldWeighing := none, postponed := false, passTimer := none, passDue := false }
      s.enterIdle n =
        if l.closePending = true ∨ s.ret.settings.siteMode = .closed then
          { s.storing { s.ret with
              settings := { s.ret.settings with
                lanes := s.ret.settings.lanes.set n { s.laneSettings n with closed := true } } } with
            lanes := s.lanes.set n { l with state := .closed, closePending := false }
            barriers := s.obeying n .down }
        else
          { s with
            lanes := s.lanes.set n
              { l with
                state :=
                  if s.suspendCause n = true then .suspended
                  else if (s.deck n).occupancy = .occupied then .occupied else .idle } })
    ∧ (s.laneSettle n =
      match (s.lane n).state with
      | .idle =>
        if s.suspendCause n = true then { s with lanes := s.lanes.set n { s.lane n with state := .suspended } }
        else if (s.deck n).occupancy = .occupied then
          { s with lanes := s.lanes.set n { s.lane n with state := .occupied } }
        else s
      | .suspended => if s.suspendCause n = true then s else s.enterIdle n
      | _ => s) ∧
    let l := s.lane n
    let held (r : HoldReason) := s.event .held (some n)
      (match l.visit with
        | some k => .visit k
        | none => .none) (.hold r)
    s.letGo n =
        (if isFault (s.barrier n).state then
          s.posted [held .barrier]
            { s with
              lanes := s.lanes.set n { l with state := .held .barrier, passTimer := none, passDue := false }
              barriers := s.obeying n .up }
        else
          { s with
            lanes := s.lanes.set n
              { l with
                state := .passing
                passTimer := if l.identity.map (fun i => i.direction) = some .entry then some 0 else none
                passLimit := (s.laneSettings n).policy.passTimeout, passDue := false }
            barriers := s.obeying n .up })
      ∧ (∀ r, r ≠ .barrier → s.enterHeld n r =
          s.posted [held r]
            { s with lanes := s.lanes.set n { l with state := .held r, passTimer := none, passDue := false } })
      ∧ (∀ r,
          let u : State :=
            { s with
              lanes := s.lanes.set n
                { l with
                  state := .refused, lastRefusal := some r, flashLit := true, passTimer := none, passDue := false
                  heldWeighing := none, postponed := false }
              barriers := s.obeying n .down }
          s.enterRefused n r = if (s.deck n).occupancy = .empty then u.enterIdle n else u)
      ∧ s.enterClearing n =
        { s with
          lanes := s.lanes.set n { l with state := .clearing, passTimer := none, passDue := false }
          barriers := s.obeying n .down }

/-! ### Readers, waiting lists and identification (R92 to R106) -/

/-- TOKEN_FRAME and TOKEN_FRAME_GAP (R92, R93, R98, R99, R121, R122, R142 to R144): bytes short of nine are gathered, a
gap discards them, nine make a frame, whose first eight spell a token, and the bytes past it begin the next. A wrong
check byte, or a repeat of the last token within ten seconds, is ignored; any other read is accepted. A CLOSED site
posts OUT_OF_HOURS; a deck read identifies the vehicle of an OCCUPIED lane; an approach read is ignored in its own list,
finds no room in a full one, and otherwise joins its lane's list, leaving any other, with its pre-check: that of an open
visit is the EXIT checks, and any other token's a lane that is not CLOSED, the direction, and items 1 to 7 on what it
resolves to. How a frame's bytes gather over several commands is the model's choice (log 20). The two named lists of
checks are those of TokenIsIdentified. -/
def Obligations.TokenFramesRead : Prop :=
  (∀ bs : List Byte, bs.length = 8 → ∃ t : Token, tokenBytes t = bs)
    ∧ (∀ (s : State) (n : Lane) (t : Token),
      let policy := (s.laneSettings n).policy
      let fresh : Vehicle :=
        ⟨t, policy.account, policy.cls, .delivery, policy.stream, none, none, none, false, .provisional, s.now⟩
      s.precheck n t =
        match s.visitNaming t with
        | some v => s.exitChecks n v
        | none =>
          if (s.lane n).state = .closed then some .laneClosed
          else if s.ret.settings.siteMode = .closed then some .siteClosed
          else if policy.direction = .outward then some .wrongDirection
          else
            match s.vehicleOf t with
            | some v => s.itemsTwoToSeven n v none
            | none =>
              if policy.admitUnknown = false then some .unknownVehicle
              else if 512 ≤ s.ret.ident.vehicles.length then some .tableFull
              else if s.ret.settings.learnLimit ≤ s.ret.ident.provisional then some .learnLimit
              else s.itemsTwoToSeven n fresh none)
    ∧ (∀ (s t : State) (n : Lane) (side : ReaderSide) (a b : List Byte), exec (.tokenFrame n side a) s = .next t →
      exec (.tokenFrame n side (a ++ b)) s = exec (.tokenFrame n side b) t)
    ∧ ∀ (s : State) (n : Lane) (side : ReaderSide), s.power.held = none →
      let port := s.readerPort n side
      let cleared : ReaderPort := { port with gathered := [] }
      exec (.tokenFrameGap n side) s = .next { s with readers := s.withPort n side cleared }
        ∧ (∀ bytes, port.gathered.length + bytes.length < 9 →
            exec (.tokenFrame n side bytes) s
              = .next { s with readers := s.withPort n side { port with gathered := port.gathered ++ bytes } })
        ∧ ∀ (bytes : List Byte) (t : Token) (check : Byte),
          port.gathered ++ bytes = tokenBytes t ++ [check] → bytes ≠ [] →
          let frame := Instr.tokenFrame n side bytes
          let repeated := port.last = some t ∧ port.lockout < 10
          let u : State := { s with readers := s.withPort n side ⟨[], some t, 0⟩ }
          let r := s.precheck n t
          (check.toNat ≠ ((tokenBytes t).map (·.toNat)).sum % 256 →
              exec frame s = .next { s with readers := s.withPort n side cleared })
            ∧ (check.toNat = ((tokenBytes t).map (·.toNat)).sum % 256 → repeated →
              exec frame s = .next { s with readers := s.withPort n side cleared })
            ∧ (check.toNat = ((tokenBytes t).map (·.toNat)).sum % 256 → ¬ repeated →
              exec frame s = .next
                (if s.ret.settings.siteMode = .closed then s.posted [s.event .outOfHours (some n) (.token t) .none] u
                else
                  match side with
                  | .deck => if (s.lane n).state = .occupied then u.identify n t .deckReader none none else u
                  | .approach =>
                    if t ∈ (s.list n).map (·.token) then u
                    else if (s.laneSettings n).depth ≤ (s.list n).length then
                      s.posted [s.event .queueFull (some n) (.token t) .none] u
                    else
                      s.posted
                        (match r with
                          | some r => [s.event .precheckFail (some n) (.token t) (.reason r)]
                          | none => [])
                        { u with
                          lists := Quad.ofFn fun m =>
                            (s.list m).filter (fun e => e.token != t)
                              ++ if m = n then
                                  [⟨t, s.now, 0, if (s.visitNaming t).isSome then .exit else .entry, r⟩]
                                else [] }))

/-- An identification (R98, R104, R105, R122, R142 to R144): the token leaves its place in the lists with QUEUE_SKIPPED
for each entry passed over in its own, its entry is stamped as used, and it becomes the current identity. The checks
follow; the first that fails gives VEHICLE_REFUSED and REFUSED, an unknown token may be entered as PROVISIONAL, and a
token that passes takes the lane to WEIGHING with its class's part count (an entry that PartIsCaptured states whole).
IDENT does this in OCCUPIED alone, with its overrides: a stream from 1 to 8 or 255 for none and a kind of 1, 2 or 0 for
none, any other value being refused BAD_ARGUMENT (R106, R203). -/
def Obligations.TokenIsIdentified : Prop :=
  (∀ (s : State) (n : Lane) (v : Visit), s.exitChecks n v =
      if (s.lane n).state = .closed then some .laneClosed
      else if (s.laneSettings n).policy.direction = .inward then some .wrongDirection
      else if v.state ≠ .onSite then some .wrongState else none)
    ∧ (∀ (s : State) (n : Lane) (v : Vehicle) (o : Option (Fin 8)), s.itemsTwoToSeven n v o =
      if v.barred = true then some .barred
      else if (v.mask.map fun m => m.get n) = some false then some .laneNotPermitted
      else if (s.visitNaming v.token).isSome then some .visitOpen
      else if (s.account v.account).state ≠ .active then some .accountStopped
      else match o.or (v.stream.or (s.account v.account).stream) with
        | none => some .noStream
        | some k =>
          if (s.streamSettings k).state = .closed then some .streamClosed
          else if 64 ≤ s.ret.traffic.visits.length then some .siteFull else none)
    ∧ (∀ (s : State) (n : Lane) (t : Token) (src : Source) (stream : Option (Fin 8)) (kind : Option Kind),
      let listed := t ∈ (s.list n).map (·.token)
      let skipped := if listed then (s.list n).takeWhile fun e => e.token != t else []
      let skips := skipped.map fun e => s.event .queueSkipped (some n) (.token e.token) .none
      let exits := (s.visitNaming t).isSome
      let u : State :=
        { s.storing { s.ret with
            ident := { s.ret.ident with
              vehicles := s.ret.ident.vehicles.map fun v => if v.token = t then { v with lastUse := s.now } else v } } with
          lists :=
            if listed then s.lists.set n ((s.list n).drop (skipped.length + 1))
            else s.lists.map fun es => es.filter fun e => e.token != t
          lanes := s.lanes.set n
            { s.lane n with identity := some ⟨t, if exits then .exit else .entry, stream, kind, src⟩ } }
      let refused (u : State) (r : Reason) : State := s.posted (skips ++ [s.refusal n t r]) (u.enterRefused n r)
      let weighed (u : State) (c : Fin 16) : State := s.posted skips (u.enterWeighing n (s.cls c).parts)
      let policy := (s.laneSettings n).policy
      let fresh : Vehicle :=
        ⟨t, policy.account, policy.cls, .delivery, policy.stream, none, none, none, false, .provisional, s.now⟩
      let created : State :=
        u.storing { u.ret with
          ident := { u.ret.ident with
            vehicles := putVehicle fresh u.ret.ident.vehicles, provisional := s.ret.ident.provisional + 1 } }
      s.identify n t src stream kind =
        match s.visitNaming t with
        | some v =>
          (match s.exitChecks n v with
          | some r => refused u r
          | none => weighed { u with lanes := u.lanes.set n { u.lane n with visit := some v.number } } v.cls)
        | none =>
          if s.ret.settings.siteMode = .closed then refused u .siteClosed
          else if (s.lane n).state = .closed then refused u .laneClosed
          else if policy.direction = .outward then refused u .wrongDirection
          else
            match s.vehicleOf t with
            | some v =>
              (match s.itemsTwoToSeven n v stream with
              | some r => refused u r
              | none => weighed u v.cls)
            | none =>
              if policy.admitUnknown = false then refused u .unknownVehicle
              else if 512 ≤ s.ret.ident.vehicles.length then refused u .tableFull
              else if s.ret.settings.learnLimit ≤ s.ret.ident.provisional then refused u .learnLimit
              else
                match s.itemsTwoToSeven n fresh stream with
                | some r => refused created r
                | none => weighed created policy.cls)
    ∧ (∀ (i : IdentItem) (stream : Option (Fin 8)) (kind : Option Kind), identFields i = some (stream, kind) ↔
      i.stream.toNat = (stream.map fun k => k.val + 1).getD 255
        ∧ i.kind.toNat = match kind with
          | none => 0
          | some .delivery => 1
          | some .collection => 2)
    ∧ ∀ (s : State) (h : RecHead) (n : Lane), s.takes h .lane → h.chan = .lane n →
      exec (.ident h .misfit) s = .next (s.refusedWith h .badArgument)
        ∧ ∀ i : IdentItem,
          (identFields i = none → exec (.ident h (.item i)) s = .next (s.refusedWith h .badArgument))
            ∧ ∀ stream kind, identFields i = some (stream, kind) →
              exec (.ident h (.item i)) s = .next
                (if (s.lane n).state = .occupied then
                  { State.identify { s with events := s.eventsAfter s.restored } n i.token .ident stream kind with
                    link := s.linkAfter h (.result h.chan .ok) }
                else s.refusedWith h .wrongState)

/-! ### Site time and the expiries it brings (R41, R42, R50, R73, R74, R88, R93, R100, R111, R130, R150, R196, R199) -/

/-- SITE_TIME_ADVANCE (R31, R41, R42, R63, R199): the clock, each deck's zero tracking, each loop's baseline and
presence, each lockout, each list's and part list's age, each pass and approval timer, the flashing lamps and the
silence count advance by one second, and each expiry the second brings is marked for its own command. The due marks, by
which an expiry waits for its command (log 4), a learning timer that stands still (log 35), timers held at 301 and 601
(log 38), the zero limit and the half division between a RANGE and the next sample (log 39), and ZERO_LIMIT for deck 1
first (log 42) are the model's choices. -/
def Obligations.SiteTimeAdvances : Prop :=
  ∀ s : State, s.power.held = none →
    let now := s.now + 1
    let bound (n : Lane) : Nat := min ((s.deck n).heldLimit.getD ((s.cal n).max / 5)) ((s.cal n).max / 5)
    let limit (n : Lane) : Int := bound n
    let sum (n : Lane) (r : Reading) : Int := (s.cal n).z + r.f
    let held (n : Lane) (r : Reading) : Int := max (-limit n) (min (limit n) (sum n r))
    let tracking (n : Lane) : Option Reading := (s.deck n).reading.filter fun r =>
      s.deckValid n && (s.deck n).settling.state = .locked && ((s.lane n).state = .idle || (s.lane n).state = .closed)
        && (s.deck n).op.isNone && r.f.natAbs ≤ 5 * (s.cal n).d && r.f ≠ 0
    let aged (cfg : LoopSettings) (l : Loop) : Loop :=
      let presence := min (l.presence + 1) 3601
      match l.condition, l.baseline, l.latest with
      | .faulted, _, _ => l
      | .free, some b, some p =>
        { l with baseline := some (if b < p then b + 1 else if p < b then b - 1 else b) }
      | .free, _, _ => l
      | _, _, _ =>
        { l with presence := presence, stuckDue := cfg.limit ≠ 0 && cfg.limit < presence && !l.stuck }
    let port (p : ReaderPort) : ReaderPort := { p with lockout := min (p.lockout + 1) 10 }
    ∃ t, exec .siteTimeAdvance s = .next t ∧ t.checks = t.ret.checks ∧ t.copy = .empty
      ∧ t.clock =
        { s.clock with
          siteTime := now
          sweep := if s.clock.sweep = 59 then 0 else s.clock.sweep + 1
          sweepDue := s.clock.sweepDue || s.clock.sweep = 59 }
      ∧ t.ret.traffic =
        { s.ret.traffic with
          lastTime := now
          visits := s.ret.traffic.visits.map fun v =>
            if v.state = .heldIn then
              { v with
                timer := min (v.timer + 1) 601
                approvalDue := decide (s.ret.settings.approvalTimeout < min (v.timer + 1) 601) }
            else v }
      ∧ (∀ n,
          t.cal n = (match tracking n with
            | some r => { s.cal n with z := held n r }
            | none => s.cal n)
          ∧ t.deck n = (match tracking n with
            | some r =>
              { s.deck n with
                settling := { (s.deck n).settling with
                  anchor := (s.deck n).settling.anchor.map fun a => a - (held n r - (s.cal n).z) }
                zeroMarker :=
                  if held n r ≠ sum n r then true
                  else if (sum n r).natAbs < bound n then false else (s.deck n).zeroMarker }
            | none => s.deck n)
          ∧ t.loops.get n
            = ⟨aged (s.laneSettings n).entryLoop (s.loop n .entry), aged (s.laneSettings n).clearLoop (s.loop n .clear)⟩
          ∧ t.readers.get n = ⟨port (s.readerPort n .approach), port (s.readerPort n .deck)⟩
          ∧ t.list n = (s.list n).map (fun e => { e with age := e.age + 1 })
          ∧ t.lane n =
            { s.lane n with
              capture := { (s.lane n).capture with
                age :=
                  if (s.lane n).capture.parts = [] then (s.lane n).capture.age
                  else (s.lane n).capture.age.map (· + 1) }
              passTimer := (s.lane n).passTimer.map fun k => min (k + 1) 301
              passDue := match (s.lane n).passTimer with
                | some k => decide ((s.lane n).passLimit < min (k + 1) 301)
                | none => (s.lane n).passDue
              flashLit := if (s.lane n).state = .refused then !(s.lane n).flashLit else (s.lane n).flashLit })
      ∧ t.link =
        { s.link with
          silence := min (s.link.silence + 1) 256
          lostDue := s.link.live && s.ret.settings.linkTimeout ≠ 0
            && s.ret.settings.linkTimeout < min (s.link.silence + 1) 256 }
      ∧ s.posts t (Lane.all.filterMap fun n =>
          match tracking n with
          | some r =>
            if held n r ≠ sum n r ∧ (s.deck n).zeroMarker = false then
              some ⟨.zeroLimit, some n, now, .none, .limitSide (if limit n < sum n r then .upper else .lower)⟩
            else none
          | none => none)

/-- LOOP_STUCK, APPROVAL_TIMEOUT and PASS_TIMEOUT, each where the second called it (R74, R111, R150, R152): the marker
is set with its event; a HELD_IN visit is cancelled, its lane REFUSED with the late number kept; the visit of a PASSING
lane is cancelled, its lane REFUSED. Not called, each does nothing. LEARNING_END (R71) takes a loop from LEARNING to
OCCUPIED, whatever the learning timer shows: that the command itself says that its second has passed is the model's
choice (log 6). The due marks (log 4), a cancellation's STREAM_LEVEL before its VEHICLE_REFUSED or PASS_TIMEOUT (log
31), and the limit that LOOP_STUCK names (log 35) are the model's choices. -/
def Obligations.TimersExpire : Prop :=
  ∀ s : State, s.power.held = none →
    (∀ n side,
        let l := s.loop n side
        exec (.loopStuck n side) s = .next
          (if l.stuckDue then
            s.posted [s.event .loopStuck (some n) .none (.stuck side (s.loopSettings n side).limit)]
              (s.modLoop n side fun l => { l with stuck := true, stuckDue := false })
          else s))
      ∧ (∀ n side,
        exec (.learningEnd n side) s = .next
          (if (s.loop n side).condition = .learning then
            s.modLoop n side fun l => { l with condition := .occupied, learnTimer := none }
          else s))
      ∧ (∀ k v, s.visitNumbered k = some v →
          let l := { s.lane v.entryLane with lateNumber := some v.number }
          exec (.approvalTimeout k) s = .next
            (if v.state = .heldIn ∧ v.approvalDue = true then
              s.posted (s.cancelEvents v ++ [s.refusal v.entryLane v.token .approvalTimeout])
                (State.enterRefused { s.storing (s.cancelled v) with lanes := s.lanes.set v.entryLane l } v.entryLane
                  .approvalTimeout)
            else s))
      ∧ (∀ k, s.visitNumbered k = none → exec (.approvalTimeout k) s = .next s)
      ∧ ∀ n v, (s.lane n).visit.bind s.visitNumbered = some v →
        exec (.passTimeout n) s = .next
          (if (s.lane n).state = .passing ∧ (s.lane n).passDue = true then
            s.posted (s.cancelEvents v ++ [s.event .passTimeout (some n) (.visit v.number) (.token v.token)])
              (State.enterRefused (s.storing (s.cancelled v)) n .passTimeout)
          else s)

/-- LINK_LOST where the second called it (R151, R152, R196): the link is LOST, with its event first; every HELD_IN visit
is cancelled, with what it had reserved, and its entry lane keeps its number as the late number and LINK_LOST as its
last refusal (R152); every other visit stands. The due mark is the model's choice (log 4), and the order of the events
of one cancellation is not stated. -/
def Obligations.LinkLossCancelsHolds : Prop :=
  ∀ s : State, s.power.held = none → s.ret.VisitsAccounted →
    ∃ t, exec .linkLost s = .next t
      ∧ (if s.link.lostDue = true ∧ s.link.live = true then
          t.link = { s.link with live := false, lostDue := false }
            ∧ t.ret.traffic.visits = s.ret.traffic.visits.filter (fun v => v.state != .heldIn)
            ∧ t.ret.VisitsAccounted
            ∧ (∀ n, (∃ v ∈ s.ret.traffic.visits, v.state = .heldIn ∧ v.entryLane = n) →
                (t.lane n).lastRefusal = some .linkLost ∧ (t.lane n).heldWeighing = none
                  ∧ (t.lane n).lateNumber
                    = ((s.ret.traffic.visits.filter fun v => v.state == .heldIn && v.entryLane == n).getLast?.map
                      fun v => v.number)
                  ∧ ((t.lane n).state = .refused ∨ (s.deck n).occupancy = .empty))
            ∧ (∀ n, (∀ v ∈ s.ret.traffic.visits, v.state = .heldIn → v.entryLane ≠ n) → SameLane n s t)
            ∧ ∃ more, s.posts t (s.event .linkLost none .none .none :: more)
              ∧ ((more.filter fun e => e.kind == .vehicleRefused)
                = (s.ret.traffic.visits.filter fun v => v.state == .heldIn).map
                  fun v => s.refusal v.entryLane v.token .linkLost)
        else t = s)

/-- MINUTE_SWEEP where a sixtieth advance called it (R100, R130): the entries older than the list age leave the lists
with QUEUE_EXPIRED; then, in token order, a PROVISIONAL entry past its age, named by no open visit and no lane, leaves
the table with ENTRY_EXPIRED, and any other learned tare past its age becomes absent with TARE_EXPIRED. The due mark and
the order of the lists before the vehicles are the model's choices (log 4 and 32), and the events of the vehicle table
without a lane its inference (log 33). -/
def Obligations.MinuteSweepExpires : Prop :=
  ∀ s : State, s.power.held = none → s.ret.ProvisionalCounted →
    let old (e : WaitEntry) : Bool := 60 * s.ret.settings.listAge < e.age
    let age (t : SiteTime) : Nat := s.now.toNat - t.toNat
    let entryGone (v : Vehicle) : Bool :=
      s.ret.settings.provAge ≠ 0 && v.origin = .provisional && 86400 * s.ret.settings.provAge < age v.lastUse
        && s.ret.traffic.visits.all (fun u => u.token != v.token)
        && Lane.all.all fun n => ((s.lane n).identity.map fun i => i.token) != some v.token
    let tareGone (v : Vehicle) : Option Nat := (v.tare.filter fun x =>
      s.ret.settings.tareAge ≠ 0 && x.origin = .learned && 3600 * s.ret.settings.tareAge < age x.setTime).map fun x =>
        x.value
    let swept : Retained :=
      { s.ret with
        ident := { s.ret.ident with
          provisional := s.ret.ident.provisional - (s.ret.ident.vehicles.filter entryGone).length
          vehicles := (s.ret.ident.vehicles.filter fun v => !entryGone v).map fun v =>
            if (tareGone v).isSome then { v with tare := none } else v } }
    exec .minuteSweep s = .next
      (if s.clock.sweepDue then
        s.posted
          (Lane.all.flatMap (fun n =>
              ((s.list n).filter old).map fun e => s.event .queueExpired (some n) (.token e.token) .none)
            ++ s.ret.ident.vehicles.filterMap fun v =>
              if entryGone v then some (s.event .entryExpired none (.token v.token) (.days (age v.lastUse / 86400)))
              else (tareGone v).map fun kg => s.event .tareExpired none (.token v.token) (.weight kg))
          { (if ∃ v ∈ s.ret.ident.vehicles, entryGone v = true ∨ (tareGone v).isSome = true then s.storing swept
            else s) with
            clock := { s.clock with sweepDue := false }
            lists := s.lists.map fun es => es.filter fun e => !old e }
      else s)

/-! ### Admission, exit and close (R127, R128, R141 to R159, R169, R174, R181) -/

/-- ADMISSION_PROCEDURE on a completed weighing judged an ENTRY (R122, R127, R134, R141 to R148): items 2 to 11 in
order, the first that fails giving VEHICLE_REFUSED and REFUSED; otherwise a visit takes the next free number, the
stream's blocks and the account's pending rise by its reservation, and the lane is let go with VEHICLE_ADMITTED, or is
HELD with reason APPROVAL. In WARNING the decision is postponed instead (R108). That the procedure is a command of its
own, and that its call in WARNING postpones it (log 4), and that a delivery of 0 blocks meets item 8 on a stream
committed past its capacity (log 40), are the model's choices. -/
def Obligations.VehicleIsAdmitted : Prop :=
  ∀ (s : State) (n : Lane) (w : Weighing) (i : Identity),
    s.power.held = none → (s.lane n).state = .weighing → (s.lane n).heldWeighing = some w →
    (s.lane n).postponed = false → (s.lane n).identity = some i → i.direction = .entry →
    s.ret.traffic.counter ≤ 65535 →
    let refused (u : State) (r : Reason) : State := s.posted [s.refusal n i.token r] (u.enterRefused n r)
    (s.power.supply = .warning → exec (.admissionProcedure n) s = .next
        { s with lanes := s.lanes.set n { s.lane n with postponed := true } })
      ∧ (∀ r, s.power.supply ≠ .warning → s.resolve n i.token = .fails r →
        exec (.admissionProcedure n) s = .next (refused s r))
      ∧ ∀ (v : Vehicle) (u : State), s.power.supply ≠ .warning →
        (s.resolve n i.token = .found v ∧ u = s) ∨ (s.resolve n i.token = .creates v ∧ u = s.createEntry v) →
        let a := s.account v.account
        let stream := i.stream.or (v.stream.or a.stream)
        let kind := i.kind.getD v.kind
        let load := kind = .delivery
        let tare := (v.tare.map fun x => x.value).getD (s.cls v.cls).tare
        let e := if load then w.value - tare else 0
        let b := (e + 499) / 500
        let early : Option Reason :=
          if v.barred = true then some .barred
          else if (v.mask.map fun m => m.get n) = some false then some .laneNotPermitted
          else if (s.visitNaming v.token).isSome then some .visitOpen
          else if a.state ≠ .active then some .accountStopped
          else match stream with
            | none => some .noStream
            | some k =>
              if (s.streamSettings k).state = .closed then some .streamClosed
              else if 64 ≤ s.ret.traffic.visits.length then some .siteFull else none
        (∀ r, early = some r → exec (.admissionProcedure n) s = .next (refused u r))
          ∧ ∀ k, stream = some k → early = none →
            let t := s.streamTotals k
            let total := (s.ret.traffic.streams.toList.map (·.reserved)).sum
            let past := load ∧ ∃ lim, a.allowance = some lim ∧ lim < a.consumed + a.pending + e
            let late : Option Reason :=
              if load ∧ 0 < b ∧ (s.streamSettings k).capacity < t.stock + 500 * (t.reserved + b) then some .streamCapacity
              else if load ∧ (s.ret.settings.permitCap.map fun cap =>
                  decide (cap < s.ret.traffic.accepted + 500 * total + 500 * b)) = some true then some .permitCap
              else if past ∧ a.limitKind = .hard then some .allowance
              else if a.approval = true ∧ s.link.live = false then some .linkLost else none
            (∀ r, late = some r → exec (.admissionProcedure n) s = .next (refused u r))
              ∧ (late = none → ∃ number, s.takesNumber number ∧
                let visit : Visit :=
                  { number := number, token := v.token, account := v.account, cls := v.cls, stream := k, kind := kind
                    state := if a.approval then .heldIn else .entering
                    entryLane := n, exitLane := none, entry := w, exit := none, estimate := e, blocks := b, net := none
                    flags :=
                      { overweightIn := decide (load ∧ v.gross.getD (s.cls v.cls).gross < w.value)
                        tareDeviation := false, allowanceExceeded := decide past, negativeNet := false
                        stockUnderrun := false, timeUnset := w.unset, approvedIn := false }
                    timer := 0, approvalDue := false }
                let lane := { s.lane n with visit := some number, heldWeighing := none, postponed := false }
                let created : State :=
                  { u.storing { u.ret with
                      traffic := { s.ret.traffic with
                        visits := insertVisit visit s.ret.traffic.visits, counter := number
                        streams := s.ret.traffic.streams.set k { t with reserved := t.reserved + b } }
                      ident := { u.ret.ident with
                        accounts := s.ret.ident.accounts.set v.account { a with pending := a.pending + e } } } with
                    lanes := s.lanes.set n lane }
                let levels := s.levelEvents k (committed t) (t.stock + 500 * (t.reserved + b))
                exec (.admissionProcedure n) s = .next
                  (if a.approval then
                    s.posted (levels ++ [s.heldEvent n (some number) .approval])
                      { created with lanes := s.lanes.set n (lane.heldFor .approval) }
                  else
                    State.letGo (s.posted (levels ++ [s.event .vehicleAdmitted (some n) (.visit number) (.blocks b)])
                      created) n))

/-- EXIT_PROCEDURE on a completed weighing judged an EXIT (R108, R127, R154 to R158): refused NO_VISIT where the lane's
visit is not open or names another token and WRONG_STATE where it is not ON_SITE; otherwise the exit weighing and the
net are attached, and the lane is HELD with reason OVERWEIGHT for a collection past its plated gross, APPROVAL where the
account requires it, or JOURNAL where 128 tickets stand, and else the close, which the next statement states whole, is
made at once. In WARNING the decision is postponed instead. That the procedure is a command of its own, and that its
call in WARNING postpones it (log 4), and JOURNAL_FULL or OVERWEIGHT_OUT before HELD (log 14), are the model's choices.
-/
def Obligations.VehicleLeaves : Prop :=
  ∀ (s : State) (n : Lane) (w : Weighing) (i : Identity),
    s.power.held = none → (s.lane n).state = .weighing → (s.lane n).heldWeighing = some w →
    (s.lane n).postponed = false → (s.lane n).identity = some i → i.direction = .exit →
    let refused (r : Reason) : State := s.posted [s.refusal n i.token r] (s.enterRefused n r)
    let found := (s.lane n).visit.bind s.visitNumbered
    (s.power.supply = .warning → exec (.exitProcedure n) s = .next
        { s with lanes := s.lanes.set n { s.lane n with postponed := true } })
      ∧ (s.power.supply ≠ .warning → found = none → exec (.exitProcedure n) s = .next (refused .noVisit))
      ∧ ∀ v, s.power.supply ≠ .warning → found = some v →
        (v.token ≠ i.token → exec (.exitProcedure n) s = .next (refused .noVisit))
          ∧ (v.token = i.token → v.state ≠ .onSite → exec (.exitProcedure n) s = .next (refused .wrongState))
          ∧ (v.token = i.token → v.state = .onSite →
            let entry := s.vehicleOf v.token
            let gross := ((entry.bind fun x => x.gross).getD (s.cls v.cls).gross)
            let deviates := v.kind = .delivery ∧ ∃ x, (entry.bind fun e => e.tare) = some x
              ∧ (s.cls v.cls).tolerance < ((w.value : Int) - x.value).natAbs
            let past := v.kind = .collection ∧ gross < w.value
            let attached (u : Visit) : Visit :=
              { u with
                state := if past then .overweight else .heldOut
                exitLane := some n, exit := some w
                net := some (match u.kind with
                  | .delivery => u.entry.value - w.value
                  | .collection => w.value - u.entry.value)
                flags := { u.flags with
                  negativeNet := match u.kind with
                    | .delivery => decide (u.entry.value < w.value)
                    | .collection => decide (w.value < u.entry.value)
                  timeUnset := u.flags.timeUnset || w.unset
                  tareDeviation := u.flags.tareDeviation || (decide deviates && !decide past) } }
            let lane := { s.lane n with heldWeighing := none, postponed := false }
            let a : State :=
              { s.storing { s.ret with
                  traffic := { s.ret.traffic with
                    visits := s.ret.traffic.visits.map fun u => if u.number = v.number then attached u else u } } with
                lanes := s.lanes.set n lane }
            exec (.exitProcedure n) s = .next
              (if past then
                s.posted [s.event .overweightOut (some n) (.visit v.number) (.weight w.value),
                    s.heldEvent n (s.lane n).visit .overweight]
                  { a with lanes := s.lanes.set n (lane.heldFor .overweight) }
              else if (s.account v.account).approval = true then
                s.posted [s.heldEvent n (s.lane n).visit .approval]
                  { a with lanes := s.lanes.set n (lane.heldFor .approval) }
              else if 128 ≤ s.ret.tickets.journal.length then
                s.posted [s.event .journalFull (some n) (.visit v.number) .none, s.heldEvent n (s.lane n).visit .journal]
                  { a with
                    lanes := s.lanes.set n (lane.heldFor .journal)
                    journalOrder := s.journalOrder ++ [n] }
              else State.closeVisit a n (attached v)))

/-- The close of a visit, and CLOSE (R128, R134, R158, R159, R163, R168, R169, R174, R181): the stream, the account and
the day's tonnage take the net, the visit is gone, its ticket joins the journal with the next number, a tare may be
learned, the events follow in order, a close job may be queued, and the lane is HELD with reason PRINT or let go. A
CLOSE taken for itself makes the close that is due outside WARNING with fewer than 128 tickets: that of an exit
procedure that comes to it, or that of the first lane held for the journal; any other CLOSE does nothing. What such a
CLOSE makes (log 4), and the detail of PRINT_FAILED for a job never queued (log 17), are the model's choices; the events
without a lane (log 33) and a tare learned as weighed (log 34) are its inferences. -/
def Obligations.VisitIsClosed : Prop :=
  (∀ (s : State) (n : Lane) (v : Visit),
      let k := s.ret.tickets.counter
      let net := v.net.getD 0
      let left := v.exit.getD v.entry
      let load := v.kind = .delivery
      let t := s.streamTotals v.stream
      let after : StreamTotals :=
        if load then { stock := min (t.stock + net) 4000000000, reserved := t.reserved - v.blocks }
        else { t with stock := t.stock - net }
      let a := s.account v.account
      let account : Account :=
        if load then
          { a with pending := a.pending - v.estimate, consumed := min (a.consumed + net) 4000000000 }
        else a
      let learned : Option Nat :=
        match s.vehicleOf v.token with
        | none => none
        | some x =>
          if (s.cls v.cls).learning = true ∧ (x.tare.map fun y => y.origin) ≠ some .loaded
              ∧ v.flags.tareDeviation = false then
            some (if load then left.value else v.entry.value)
          else none
      let printer := (s.laneSettings n).printer
      let busy := ∃ j ∈ s.printing.queue, j.lane = n ∧ j.copy = false
      let queued : PrintState × Option PrintFailure × List Event × List PrintJob :=
        match printer with
        | none => (.none, none, [], s.printing.queue)
        | some address =>
          if busy then
            (.failed, some .laneBusy, [s.event .printFailed (some n) (.ticket k) (.notQueued .laneBusy)],
              s.printing.queue)
          else (.queued, none, [], granted (s.printing.queue ++ [⟨k, n, address, false, .queued⟩]))
      let ticket : Ticket :=
        { number := k, visit := v.number, issued := s.now, kind := v.kind, token := v.token, account := v.account
          cls := v.cls, stream := v.stream, entry := v.entry, exit := left, net := net
          flags := { v.flags with
            stockUnderrun := decide (v.kind = .collection ∧ t.stock < net)
            timeUnset := v.flags.timeUnset || s.clock.unset }
          print := .none, failure := none, copies := 0 }
      let first (x : Ticket) : Ticket :=
        if x.number = k then { x with print := queued.1, failure := queued.2.1, copies := 0 } else x
      let events := s.levelEvents v.stream (committed t) (committed after)
        ++ (learned.toList.map fun kg => s.event .tareLearned none (.token v.token) (.weight kg))
        ++ s.event .visitClosed (some n) (.visit v.number) (.ticket k) :: queued.2.2.1
      let holds := (s.laneSettings n).printFirst = true ∧ printer ≠ none
      let u : State :=
        { s.storing { s.ret with
            traffic := { s.ret.traffic with
              visits := s.ret.traffic.visits.filter fun x => x.number != v.number
              streams := s.ret.traffic.streams.set v.stream after
              accepted := if load then min (s.ret.traffic.accepted + net) 4000000000 else s.ret.traffic.accepted }
            ident := { s.ret.ident with
              accounts := s.ret.ident.accounts.set v.account account
              vehicles := s.ret.ident.vehicles.map fun x =>
                if x.token = v.token then
                  { x with tare := (learned.map fun kg => ⟨kg, .learned, s.now⟩).or x.tare }
                else x }
            tickets :=
              { journal := (s.ret.tickets.journal ++ [ticket]).map first
                counter := if 999999 ≤ k then 1 else k + 1 } } with
          printing := { s.printing with queue := queued.2.2.2 }
          journalOrder := s.journalOrder.filter fun m => m != n }
      s.closeVisit n v =
        if holds then
          s.posted (events ++ [s.heldEvent n (s.lane n).visit .print])
            { u with lanes := s.lanes.set n { (s.lane n).heldFor .print with heldTicket := some k } }
        else State.letGo (s.posted events u) n)
    ∧ ∀ (s : State) (n : Lane), s.power.held = none →
      let l := s.lane n
      let room := s.ret.tickets.journal.length < 128 ∧ s.power.supply ≠ .warning
      (s.laneVisit n = none → exec (.close n) s = .next s)
        ∧ ∀ v, s.laneVisit n = some v →
          (∀ w i, l.state = .weighing → l.heldWeighing = some w → l.postponed = false → l.identity = some i →
            i.direction = .exit →
            let gross := ((s.vehicleOf v.token).bind fun x => x.gross).getD (s.cls v.cls).gross
            exec (.close n) s =
              if v.token = i.token ∧ v.state = .onSite ∧ ¬ (v.kind = .collection ∧ gross < w.value)
                  ∧ (s.account v.account).approval = false ∧ room then exec (.exitProcedure n) s
              else .next s)
          ∧ (l.state ≠ .weighing ∨ l.heldWeighing = none ∨ l.postponed = true ∨ l.identity = none
              ∨ l.identity.map (fun i => i.direction) = some .entry →
            exec (.close n) s = .next
              (if l.state = .held .journal ∧ s.journalOrder.head? = some n ∧ v.state = .heldOut ∧ room then
                s.closeVisit n v
              else s))

/-! ### Records of the host (R85, R113 to R117, R124 to R126, R133, R135, R149 to R163, R171, R175, R191, R194, R199) -/

/-- What every whole record meets before its own rule (R185, R190, R191, R194, R196, R203, R204, R208): nothing outside
the time in which the port listens; no execution and no answer where its answer has no place; WRONG_CHANNEL on a channel
its type does not admit; and, for a table or SETUP record, BAD_ARGUMENT for a payload out of its layout, or with a value
outside the range that its owning rule gives, as `readable` writes each out, and then BUSY in WARNING. That an ACCOUNT PERIOD RESET of 256 to 65,534 is BAD_ARGUMENT before BUSY is the model's inference (log
24), and that a held part passes a record over is its choice (log 21). -/
def Obligations.RecordsAreGated : Prop :=
  ∀ (c : Instr) (h : RecHead) (t : ChanType) (s : State), recordType c = some (h, t) →
    let listening := s.power.held = none ∧ (s.link.port = .waiting ∨ s.link.port = .receiving)
    (¬ listening → exec c s = .next s)
      ∧ (listening → 4096 < repliesSize s.link.replies + 12 →
        exec c s = .next
          { s.heard with
            link := { s.link with
              port := .receiving, errors := s.link.errors.union (correctedOnly h.corrected), live := true, silence := 0
              lostDue := false } })
      ∧ (listening → repliesSize s.link.replies + 12 ≤ 4096 → admits t h.chan = false →
        exec c s = .next (s.refusedWith h .wrongChannel))
      ∧ (s.takes h t → readable c = some false → exec c s = .next (s.refusedWith h .badArgument))
      ∧ (s.takes h t → readable c = some true → s.power.supply = .warning → exec c s = .next (s.refusedWith h .busy))

/-- LANE and BARRIER records (R65, R77, R85, R109, R112 to R116, R152, R155): LANE OPEN takes a CLOSED lane to IDLE on
an OPEN site with no calibration in flight; LANE CLOSE closes an IDLE or SUSPENDED lane; LANE CLEAR takes REFUSED to
IDLE; BARRIER LOWER takes MANUAL to CLEARING; BARRIER RESET takes a barrier out of FAULT to what its switches show, or
to FAULT again; and BARRIER RAISE takes any lane but a CLOSED one to MANUAL, its work in hand settled. MANUAL_PASS after
the work in hand is settled (log 31), the absent pass timer outside PASSING (log 45) and a reversing motor without a
direction (log 18) are the model's choices. -/
def Obligations.LaneRecordsCarriedOut : Prop :=
  ∀ (s : State) (h : RecHead) (n : Lane), s.takes h .lane → h.chan = .lane n →
    let l := s.lane n
    let flagged (closed : Bool) : Retained :=
      { s.ret with
        settings := { s.ret.settings with
          lanes := s.ret.settings.lanes.set n { s.laneSettings n with closed := closed } } }
    exec (.laneOpen h) s = .next
        (if (s.deck n).op ≠ none then s.refusedWith h .busy
        else if l.state ≠ .closed ∨ s.ret.settings.siteMode = .closed then s.refusedWith h .wrongState
        else s.executed h [] (State.enterIdle (s.storing (flagged false)) n))
      ∧ exec (.laneClose h) s = .next
        (if l.state = .idle ∨ l.state = .suspended then
          s.executed h []
            { s.storing (flagged true) with
              lanes := s.lanes.set n { l with state := .closed }, barriers := s.obeying n .down }
        else s.refusedWith h .wrongState)
      ∧ exec (.laneClear h) s = .next
        (if l.state = .refused then s.executed h [] (s.enterIdle n) else s.refusedWith h .wrongState)
      ∧ exec (.barrierLower h) s = .next
        (if l.state = .manual then s.executed h [] (s.enterClearing n) else s.refusedWith h .wrongState)
      ∧ (let b := { s.barrier n with obstructions := 0 }
        let reset (st : BarrierState) : State :=
          let u := { s.heard with barriers := s.barriers.set n { b with state := st } }
          let moved :=
            if l.state = .held .barrier then u.letGo n
            else if l.state = .clearing ∧ st = .down then u.enterIdle n
            else if l.state = .suspended ∧ u.suspendCause n = false then u.enterIdle n else u
          s.acknowledged h (moved.seek n)
        exec (.barrierReset h) s = .next
          (if isFault b.state then
            match b.downSwitch, b.upSwitch with
            | true, true =>
              s.acknowledged h (State.enterFault { s.heard with barriers := s.barriers.set n b } n .switch)
            | true, false => reset .down
            | false, true => reset .up
            | false, false => reset .unknown
          else s.refusedWith h .wrongState))
      ∧ (let visit := s.laneVisit n
        let entry := l.identity.map (fun i => i.direction) = some .entry
        let ends := l.state = .held .approval ∧ entry
        let passes := (l.state = .passing ∨ l.state = .held .barrier) ∧ entry
        let returns := (l.state = .held .approval ∧ ¬ entry) ∨ l.state = .held .journal ∨ l.state = .held .overweight
        let changed (k : Nat) (f : Visit → Visit) : Retained :=
          { s.ret with
            traffic := { s.ret.traffic with
              visits := s.ret.traffic.visits.map fun v => if v.number = k then f v else v } }
        let back (v : Visit) : Visit :=
          { v with
            state := .onSite, exit := none, exitLane := none, net := none
            flags := { v.flags with negativeNet := false, tareDeviation := false, timeUnset := v.entry.unset } }
        exec (.barrierRaise h) s = .next
          (if l.state = .closed then s.refusedWith h .wrongState
          else if l.state = .manual then s.executed h [] s
          else
            s.executed h
              ((match visit with
                  | some v => if ends then s.cancelEvents v else []
                  | none => []) ++ [s.event .manualPass (some n) .none (.laneState l.state)])
              { (match visit with
                  | none => s
                  | some v =>
                    if ends then s.storing (s.cancelled v)
                    else if passes then s.storing (changed v.number fun u => { u with state := .onSite })
                    else if returns then s.storing (changed v.number back) else s) with
                lanes := s.lanes.set n
                  { l with
                    state := .manual, passTimer := none, passDue := false, capture := ⟨none, [], false, none⟩
                    heldWeighing := none, postponed := false, heldTicket := none
                    lateNumber := if ends then (visit.map fun v => v.number).or l.lateNumber else l.lateNumber }
                journalOrder := s.journalOrder.filter fun m => m != n
                barriers := s.obeying n .up }))

/-- APPROVE, DECLINE and RETURN (R148 to R152, R155 to R158): BAD_ARGUMENT for number 0; TOO_LATE for the lane's late
number to an APPROVE or DECLINE its hold does not take; WRONG_STATE for another open visit's number, and NOT_FOUND. An
APPROVE admits a vehicle held at entry, or, outside WARNING, makes at once the close of one held at exit, which its own
statement states whole; a DECLINE cancels an entry; a RETURN sends an overweight vehicle back on site. JOURNAL_FULL
before HELD (log 14), and STREAM_LEVEL before VEHICLE_REFUSED at a DECLINE (log 31), are the model's choices. -/
def Obligations.ApprovalRecordsCarriedOut : Prop :=
  ∀ (s : State) (h : RecHead) (n : Lane) (a : BitVec 16), s.takes h .lane → h.chan = .lane n →
    let k := a.toNat
    let l := s.lane n
    let entry := l.identity.map (fun i => i.direction) = some .entry
    let held (r : HoldReason) : Option Visit :=
      if l.state = .held r ∧ l.visit = some k then s.visitNumbered k else none
    let absent : ResultCode := if s.visitNumbered k = none then .notFound else .wrongState
    let late : ResultCode := if l.lateNumber = some k then .tooLate else absent
    let changed (f : Visit → Visit) : Retained :=
      { s.ret with
        traffic := { s.ret.traffic with
          visits := s.ret.traffic.visits.map fun v => if v.number = k then f v else v } }
    (k = 0 → exec (.approve h a) s = .next (s.refusedWith h .badArgument)
        ∧ exec (.decline h a) s = .next (s.refusedWith h .badArgument)
        ∧ exec (.returnVisit h a) s = .next (s.refusedWith h .badArgument))
      ∧ (k ≠ 0 →
        exec (.approve h a) s = .next
            (match held .approval with
            | none => s.refusedWith h late
            | some v =>
              if entry then
                s.acknowledged h
                  (State.letGo
                    (s.posted (s.restored ++ [s.event .vehicleAdmitted (some n) (.visit k) (.blocks v.blocks)])
                      (s.storing (changed fun u =>
                        { u with
                          state := .entering, approvalDue := false, flags := { u.flags with approvedIn := true } })))
                    n)
              else if s.power.supply = .warning then s.refusedWith h .busy
              else if 128 ≤ s.ret.tickets.journal.length then
                s.executed h [s.event .journalFull (some n) (.visit k) .none, s.heldEvent n (some k) .journal]
                  { s with
                    lanes := s.lanes.set n (l.heldFor .journal)
                    journalOrder := s.journalOrder ++ [n] }
              else s.acknowledged h (s.heard.closeVisit n v))
          ∧ exec (.decline h a) s = .next
            (match held .approval with
            | none => s.refusedWith h late
            | some v =>
              if entry then
                s.executed h (s.cancelEvents v ++ [s.refusal v.entryLane v.token .declined])
                  (State.enterRefused
                    { s.storing (s.cancelled v) with
                      lanes := s.lanes.set v.entryLane { s.lane v.entryLane with lateNumber := some v.number } }
                    v.entryLane .declined)
              else s.refusedWith h late)
          ∧ exec (.returnVisit h a) s = .next
            (match held .overweight with
            | none => s.refusedWith h absent
            | some v =>
              s.executed h [s.refusal n v.token .overweight]
                (State.enterRefused
                  (s.storing (changed fun u =>
                    { u with
                      state := .onSite, exit := none, exitLane := none, net := none
                      flags := { u.flags with
                        negativeNet := false, tareDeviation := false, timeUnset := u.entry.unset } }))
                  n .overweight)))

/-- SITE, DAY, RESET and TIME records (R117, R163, R199, R201, R211, R212): the site opens or closes with its lanes; the
day's tonnage becomes 0; the clock is set; RESET LINK empties the events and the errors; RESET ALL passes the rest of
its transmission over; and RESET LANES posts STARTED, restarts readers, lists and lanes, lowers each barrier, and treats
the open visits. The last site time left as it was by TIME (log 35), the steps of RESET ALL after its answer (log 16),
LOWER for each barrier at RESET LANES (log 22), and the pass limit of 60 that a restarted lane holds before any PASSING
(log 29), are the model's choices. -/
def Obligations.SiteRecordsCarriedOut : Prop :=
  ∀ (s : State) (h : RecHead), s.takes h .site →
    let mode (m : OpenState) : Settings := { s.ret.settings with siteMode := m }
    let returned (v : Visit) : Visit :=
      { v with
        state := .onSite, exit := none, exitLane := none, net := none
        flags := { v.flags with negativeNet := false, tareDeviation := false, timeUnset := v.entry.unset } }
    exec (.siteOpen h) s = .next (s.executed h []
        { s.storing { s.ret with settings := mode .opened } with
          lanes := s.lanes.map fun l => { l with closePending := false } })
      ∧ exec (.siteClose h) s = .next (s.executed h []
        { s.storing { s.ret with
            settings := { mode .closed with
              lanes := Quad.ofFn fun n =>
                { s.laneSettings n with
                  closed := (s.laneSettings n).closed || decide ((s.lane n).state = .idle) } } } with
          lanes := s.lanes.map fun l =>
            match l.state with
            | .idle => { l with state := .closed }
            | .closed => l
            | _ => { l with closePending := true }
          barriers := Quad.ofFn fun n =>
            if (s.lane n).state = .idle then (s.obeying n .down).get n else s.barrier n })
      ∧ exec (.day h) s = .next (s.executed h []
        (s.storing { s.ret with traffic := { s.ret.traffic with accepted := 0 } }))
      ∧ exec (.time h .misfit) s = .next (s.refusedWith h .badArgument)
      ∧ (∀ t : SiteTime, exec (.time h (.item t)) s = .next (s.executed h []
        { s with clock := { s.clock with siteTime := t, unset := false } }))
      ∧ exec (.resetLink h) s = .next
        { s with
          events := ⟨[], false, 0⟩
          link := { s.link with
            port := .receiving, errors := LinkErrors.none, replies := s.link.replies ++ [.result h.chan .ok]
            live := true, silence := 0, lostDue := false } }
      ∧ exec (.resetAll h) s = .next (s.posted s.restored
        { s with
          link := { s.linkAfter h (.result h.chan .ok) with port := .discarding, turn := true, resetAll := true } })
      ∧ (s.ret.VisitsAccounted → ∃ t, exec (.resetLanes h) s = .next t
        ∧ s.answered h (.result h.chan .ok) t
        ∧ t.readers = Quad.fill ⟨⟨[], none, 10⟩, ⟨[], none, 10⟩⟩ ∧ t.lists = Quad.fill [] ∧ t.journalOrder = []
        ∧ t.ret.VisitsAccounted ∧ (s.checks = s.ret.checks → t.checks = t.ret.checks)
        ∧ t.ret.ident.vehicles = s.ret.ident.vehicles ∧ t.ret.ident.provisional = s.ret.ident.provisional
        ∧ (∀ a, t.account a = { s.account a with pending := (t.account a).pending })
        ∧ (∀ k, t.streamTotals k = { s.streamTotals k with reserved := (t.streamTotals k).reserved })
        ∧ t.ret.traffic.counter = s.ret.traffic.counter ∧ t.ret.traffic.accepted = s.ret.traffic.accepted
        ∧ t.ret.traffic.lastTime = s.ret.traffic.lastTime
        ∧ t.ret.settings = { s.ret.settings with lanes := t.ret.settings.lanes }
        ∧ t.ret.traffic.visits = (s.ret.traffic.visits.filter fun v => v.state != .heldIn).map (fun v =>
            match v.state with
            | .entering => { v with state := .onSite }
            | .heldOut => returned v
            | .overweight => returned v
            | .heldIn => v
            | .onSite => v)
        ∧ (∀ n,
            let closed := (s.laneSettings n).closed = true ∨ s.ret.settings.siteMode = .closed
            t.lane n =
              { state :=
                  if closed then .closed
                  else if s.suspendCause n = true then .suspended
                  else if (s.deck n).occupancy = .occupied then .occupied else .idle
                identity := none, visit := none, heldWeighing := none, postponed := false, passTimer := none
                passLimit := 60, passDue := false, closePending := false, cycle := none, lastRefusal := none
                lateNumber := none, heldTicket := none, flashLit := false
                capture := ⟨none, [], false, none⟩ }
            ∧ t.laneSettings n = { s.laneSettings n with closed := decide closed }
            ∧ t.barrier n = (s.obeying n .down).get n)
        ∧ s.posts t
          (s.restored
            ++ s.event .started none .none
              (.started .record ⟨false, false, false, false, false⟩
                (s.ret.traffic.visits.countP fun v => v.state == .entering))
            :: (levelsReleased (fun k => (s.streamSettings k).levels) s.ret.traffic.streams
                (s.ret.traffic.visits.filter fun v => v.state == .heldIn)).map fun (k, l, up) =>
              s.event .streamLevel none (.stream k) (.level l up)))

/-- VEHICLE, ACCOUNT, TICKETS and STOCK records outside WARNING (R120, R124 to R126, R132, R133, R135, R158, R160 to
R162, R170, R171, R174 to R176): what each field may hold; a vehicle entry is written over or added, or is deleted with
its waiting-list entry when nothing uses it; an account is written with its amounts kept, or its consumed amount is set
to 0; the journal is released from its oldest ticket through the one named, when none is in use, a number outside 1 to
999,999 being refused BAD_ARGUMENT, and the closes that wait for the journal are made with it, in their order; a copy job is queued; a stock is set. Of the account numbers past
255 nothing is said here (log 24). -/
def Obligations.TableRecordsCarriedOut : Prop :=
  (∀ (i : VehicleItem) (f : VehicleFields), vehicleFields i = some f ↔
      f.token = i.token ∧ f.account.val = i.account.toNat ∧ f.cls.val = i.cls.toNat
        ∧ i.kind.toNat = (match f.kind with
          | .delivery => 1
          | .collection => 2)
        ∧ i.stream.toNat = (f.stream.map fun k => k.val + 1).getD 255
        ∧ i.gross.toNat = f.gross.getD 4294967295 ∧ (∀ g ∈ f.gross, 1 ≤ g ∧ g ≤ 150000)
        ∧ i.mask.toNat = (f.mask.map fun m =>
            (Lane.all.map fun n => if m.get n then 2 ^ (n.number - 1) else 0).sum).getD 255
        ∧ f.mask ≠ some (Quad.fill false)
        ∧ i.barred.toNat = (if f.barred then 1 else 0)
        ∧ match f.tare with
          | .value kg => i.tareChoice = 1 ∧ i.tare.toNat = kg ∧ kg ≤ 150000
          | .absent => i.tareChoice = 2
          | .keep => i.tareChoice = 3)
    ∧ (∀ (i : AccountItem) (f : AccountFields), accountFields i = some f ↔
      f.account.val = i.account.toNat
        ∧ i.state.toNat = (match f.state with
          | .active => 1
          | .onStop => 2
          | .closed => 3)
        ∧ i.allowance.toNat = f.allowance.getD 4294967295 ∧ (∀ a ∈ f.allowance, 1 ≤ a ∧ a ≤ 4000000000)
        ∧ i.limitKind.toNat = (match f.limitKind with
          | .hard => 1
          | .soft => 2)
        ∧ i.approval.toNat = (if f.approval then 1 else 0)
        ∧ i.stream.toNat = (f.stream.map fun k => k.val + 1).getD 255)
    ∧ (∀ (i : ReprintItem) (k : Nat) (n : Lane), reprintFields i = some (k, n) ↔
      i.ticket.toNat = k ∧ 1 ≤ k ∧ k ≤ 999999 ∧ i.lane.toNat = n.number)
    ∧ (∀ (i : StockItem) (k : Fin 8) (kg : Nat), stockFields i = some (k, kg) ↔
      i.stream.toNat = k.val + 1 ∧ i.stock.toNat = kg ∧ kg ≤ 4000000000)
    ∧ (∀ (levels : Quad (Option Nat)) (before after : Nat) (l : Nat) (up : Bool),
      ((l, up) ∈ crossedLevels levels before after ↔
          some l ∈ levels.toList ∧ if up then before < l ∧ l ≤ after else after < l ∧ l ≤ before)
        ∧ (crossedLevels levels before after).Pairwise fun x y =>
          x.2 = y.2 ∧ if x.2 then x.1 ≤ y.1 else y.1 ≤ x.1)
    ∧ ∀ (s : State) (h : RecHead), s.takes h .site → s.power.supply ≠ .warning →
    let ident (i : Identities) : State := s.storing { s.ret with ident := i }
    let old (t : Token) := s.vehicleOf t
    let fewer (o : Option Vehicle) : Nat :=
      if o.map (fun v => v.origin) = some .provisional then s.ret.ident.provisional - 1 else s.ret.ident.provisional
    (∀ i f, vehicleFields i = some f →
        exec (.vehicleWrite h (.item i)) s = .next
          (if old f.token = none ∧ 512 ≤ s.ret.ident.vehicles.length then s.refusedWith h .full
          else
            s.executed h [] (ident { s.ret.ident with
              provisional := fewer (old f.token)
              vehicles := putVehicle
                { token := f.token, account := f.account, cls := f.cls, kind := f.kind, stream := f.stream
                  gross := f.gross, mask := f.mask, barred := f.barred, origin := .loaded, lastUse := s.now
                  tare := match f.tare with
                    | .value kg => some ⟨kg, .loaded, s.now⟩
                    | .absent => none
                    | .keep => (old f.token).bind fun v => v.tare }
                s.ret.ident.vehicles })))
      ∧ (∀ t : Token,
        exec (.vehicleDelete h (.item t)) s = .next
          (if old t = none then s.refusedWith h .notFound
          else if (∃ v ∈ s.ret.traffic.visits, v.token = t)
              ∨ (∃ n ∈ Lane.all, (s.lane n).identity.map (fun i => i.token) = some t) then
            s.refusedWith h .inUse
          else
            s.executed h []
              { ident { s.ret.ident with
                  provisional := fewer (old t), vehicles := s.ret.ident.vehicles.filter fun v => v.token != t } with
                lists := s.lists.map fun es => es.filter fun e => e.token != t }))
      ∧ (∀ i f, accountFields i = some f →
        exec (.accountWrite h (.item i)) s = .next (s.executed h [] (ident { s.ret.ident with
          accounts := s.ret.ident.accounts.set f.account
            { s.account f.account with
              state := f.state, allowance := f.allowance, limitKind := f.limitKind, approval := f.approval
              stream := f.stream } })))
      ∧ (∀ v : BitVec 16,
        (∀ a : Fin 256, v.toNat = a.val →
            exec (.accountPeriodReset h (.item v)) s = .next (s.executed h [] (ident { s.ret.ident with
              accounts := s.ret.ident.accounts.set a { s.account a with consumed := 0 } })))
          ∧ (v.toNat = 65535 →
            exec (.accountPeriodReset h (.item v)) s = .next (s.executed h [] (ident { s.ret.ident with
              accounts := s.ret.ident.accounts.map fun a => { a with consumed := 0 } }))))
      ∧ (∀ v : BitVec 32, v.toNat = 0 ∨ 999999 < v.toNat →
        exec (.ticketsRelease h (.item v)) s = .next (s.refusedWith h .badArgument))
      ∧ (∀ v : BitVec 32, 1 ≤ v.toNat → v.toNat ≤ 999999 →
        ((∀ x ∈ s.ret.tickets.journal, x.number ≠ v.toNat) →
            exec (.ticketsRelease h (.item v)) s = .next (s.refusedWith h .notFound))
          ∧ ∀ gone last kept, s.ret.tickets.journal = gone ++ last :: kept → last.number = v.toNat →
            (∀ x ∈ gone, x.number ≠ v.toNat) →
            let used := ∃ x ∈ gone ++ [last], (∃ j ∈ s.printing.queue, j.ticket = x.number)
              ∨ (∃ n ∈ Lane.all, (s.lane n).state = .held .print ∧ (s.lane n).heldTicket = some x.number)
            let released : State :=
              s.heard.storing { s.ret with tickets := { s.ret.tickets with journal := kept } }
            let closed := s.journalOrder.foldl
              (fun (o : Host.Outcome State Fault Refusal) m =>
                match o with
                | .next u => if (u.lane m).state = .held .journal then exec (.close m) u else .next u
                | .fault f => .fault f
                | .refused r => .refused r) (.next released)
            (used → exec (.ticketsRelease h (.item v)) s = .next (s.refusedWith h .inUse))
              ∧ (¬ used → ∃ u, closed = .next u ∧ exec (.ticketsRelease h (.item v)) s
                = .next (s.acknowledged h u)))
      ∧ (∀ i k n, reprintFields i = some (k, n) →
        exec (.ticketsReprint h (.item i)) s = .next
          (match s.ticketNumbered k, (s.laneSettings n).printer with
          | none, _ => s.refusedWith h .notFound
          | some _, none => s.refusedWith h .wrongState
          | some x, some address =>
            if 255 ≤ x.copies then s.refusedWith h .limit
            else if 8 ≤ s.printing.queue.length ∨ 4 ≤ (s.printing.queue.filter fun j => j.copy).length then
              s.refusedWith h .full
            else
              s.executed h []
                { s with
                  printing := { s.printing with
                    queue := granted (s.printing.queue ++ [⟨k, n, address, true, .queued⟩]) } }))
      ∧ ∀ i k kg, stockFields i = some (k, kg) →
        exec (.stock h (.item i)) s = .next
          (s.executed h
            (s.levelEvents k (committed (s.streamTotals k)) (kg + 500 * (s.streamTotals k).reserved))
            (s.storing { s.ret with
              traffic := { s.ret.traffic with
                streams := s.ret.traffic.streams.set k { s.streamTotals k with stock := kg } } }))

/-! ### SETUP (R3, R5, R9, R25, R35, R44, R50, R75, R86, R94, R97, R123, R131, R160, R164, R173, R195, R207) -/

/-- SETUP records of the site outside WARNING: what each field of a class and of a stream may hold, its levels absent at
all ones; the settings take the values, and a value out of its range is refused BAD_ARGUMENT; the waiting list is refused LIMIT past the pool and IN_USE under a list's
length, the vehicle table IN_USE under the PROVISIONAL count; and a warning level is judged against the supply at once.
The supply's level carried by the command is the model's form (log 23), and CAL_ABORTED after POWER_WARNING, for lane 1
first, at a WARNING so begun is its choice (log 42). -/
def Obligations.SiteSettingsWritten : Prop :=
  (∀ (i : ClassItem) (k : Fin 16) (x : ClassEntry), classFields i = some (k, x) ↔
      i.cls.toNat = k.val ∧ i.parts.toNat = x.parts ∧ 1 ≤ x.parts ∧ x.parts ≤ 4
        ∧ i.tare.toNat = x.tare ∧ x.tare ≤ 150000 ∧ i.gross.toNat = x.gross ∧ 1 ≤ x.gross ∧ x.gross ≤ 150000
        ∧ i.tolerance.toNat = x.tolerance ∧ x.tolerance ≤ 10000 ∧ i.learning.toNat = if x.learning then 1 else 0)
    ∧ (∀ (i : StreamItem) (k : Fin 8) (x : StreamSettings), streamFields i = some (k, x) ↔
      i.stream.toNat = k.val + 1 ∧ i.capacity.toNat = x.capacity ∧ x.capacity ≤ 5000000 ∧ x.capacity % 500 = 0
        ∧ i.state.toNat = (match x.state with
          | .opened => 1
          | .closed => 2)
        ∧ [i.level1.toNat, i.level2.toNat, i.level3.toNat, i.level4.toNat]
          = x.levels.toList.map (fun l => l.getD 4294967295)
        ∧ ∀ l, some l ∈ x.levels.toList → 1 ≤ l ∧ l ≤ 5000000)
    ∧ ∀ (s : State) (h : RecHead), s.takes h .site → s.power.supply ≠ .warning →
    let c := s.ret.settings
    let written (x : Settings) : State := s.storing { s.ret with settings := x }
    let set (x : Settings) : Host.Outcome State Fault Refusal := .next (s.executed h [] (written x))
    let bad : Host.Outcome State Fault Refusal := .next (s.refusedWith h .badArgument)
    (∀ v : Vector Byte 16, exec (.setupSlotPlan h (.item v)) s =
        if ∀ i : Fin 16, (v.get i).toNat ≤ 4 then
          set { c with slotPlan := Vector.ofFn fun i => Lane.ofNumber (v.get i).toNat }
        else bad)
      ∧ (∀ i : ListItem, exec (.setupWaitingList h (.item i)) s =
          if i.age.toNat = 0 ∨ ∃ n ∈ Lane.all, 32 < (i.depths.get n).toNat then bad
          else if 32 < (Lane.all.map fun n => (i.depths.get n).toNat).sum then .next (s.refusedWith h .limit)
          else if ∃ n ∈ Lane.all, (i.depths.get n).toNat < (s.list n).length then .next (s.refusedWith h .inUse)
          else set
            { c with
              lanes := Quad.ofFn fun n => { s.laneSettings n with depth := (i.depths.get n).toNat }
              listAge := i.age.toNat })
      ∧ (∀ i : VehicleTableItem, exec (.setupVehicleTable h (.item i)) s =
          if 512 < i.learnLimit.toNat ∨ i.learnLimit.toNat % 64 ≠ 0 ∨ 365 < i.provAge.toNat ∨ 8760 < i.tareAge.toNat then
            bad
          else if i.learnLimit.toNat < s.ret.ident.provisional then .next (s.refusedWith h .inUse)
          else set
            { c with learnLimit := i.learnLimit.toNat, provAge := i.provAge.toNat, tareAge := i.tareAge.toNat })
      ∧ (∀ i k x, classFields i = some (k, x) →
        exec (.setupClass h (.item i)) s = set { c with classes := c.classes.set k x })
      ∧ (∀ i k x, streamFields i = some (k, x) →
        exec (.setupStream h (.item i)) s = set { c with streams := c.streams.set k x })
      ∧ (∀ i : AdmissionItem, exec (.setupAdmission h (.item i)) s =
          let x : Settings := { c with approvalTimeout := min 600 (max 10 i.timeout.toNat) }
          if i.cap.toNat = 4294967295 then set { x with permitCap := none }
          else if 1 ≤ i.cap.toNat ∧ i.cap.toNat ≤ 4000000000 then set { x with permitCap := some i.cap.toNat }
          else bad)
      ∧ (∀ i : LinkItem, exec (.setupLink h (.item i)) s =
          if 64 ≤ i.replyLimit.toNat ∧ i.replyLimit.toNat ≤ 1024 then
            set { c with replyLimit := i.replyLimit.toNat, linkTimeout := i.timeout.toNat }
          else bad)
      ∧ ∀ (b : Byte) (mv : Nat), exec (.setupSupply h (.item b) mv) s = .next
          (if b.toNat < 19 ∨ 22 < b.toNat then s.refusedWith h .badArgument
          else if s.power.supply = .normal ∧ mv < b.toNat * 1000 then
            s.executed h
              (s.event .powerWarning none .none (.warning true) :: Lane.all.filterMap fun n =>
                (s.deck n).op.map fun op => s.event .calAborted (some n) .none (.calAborted op.sub .warning))
              { written { c with warnLevel := b.toNat } with
                power := { s.power with supply := .warning }
                decks := Quad.ofFn fun n =>
                  match (s.deck n).op with
                  | some op => { s.deck n with op := none, lastOutcome := some ⟨op.sub, .aborted .warning, s.now⟩ }
                  | none => s.deck n }
          else s.executed h [] (written { c with warnLevel := b.toNat }))

/-- SETUP records of a lane outside WARNING: what each field of a policy, a printer and a loop may hold; the deck's and
the lane's settings take the values, an occupancy level set to the nearer end of its range and any other value out of
its range refused BAD_ARGUMENT; a new cell count, on a
CLOSED lane with nothing in flight, clears both marks, and a VALID deck becomes INVALID; and a loop written with the
re-learn flag goes to START, which reports OCCUPIED: from FREE with the site CLOSED it posts OUT_OF_HOURS (R117), a
clear loop takes its lane's cycle away and reverses a lowering barrier (R79, R110), and a fault that ends so lets a
suspended lane without another cause enter IDLE (R115). The cycle cleared where an OCCUPIED loop is learned again is an
inference (log 30), and a reversing motor without a direction is the model's choice (log 18). -/
def Obligations.LaneSettingsWritten : Prop :=
  (∀ (i : PolicyItem) (p : Policy), policyFields i = some p ↔
      i.direction.toNat = (match p.direction with
          | .inward => 1
          | .outward => 2
          | .both => 3)
        ∧ i.admitting.toNat = (if p.admitUnknown then 1 else 0) ∧ i.account.toNat = p.account.val
        ∧ i.cls.toNat = p.cls.val ∧ i.stream.toNat = (p.stream.map fun k => k.val + 1).getD 255
        ∧ i.passTimeout.toNat = p.passTimeout ∧ 5 ≤ p.passTimeout ∧ p.passTimeout ≤ 300)
    ∧ (∀ (i : PrinterItem) (address : Option (Fin 8)) (first : Bool), printerFields i = some (address, first) ↔
      i.address.toNat = (address.map fun k => k.val + 1).getD 255 ∧ i.printFirst.toNat = if first then 1 else 0)
    ∧ (∀ (i : LoopItem) (side : LoopSide) (x : LoopSettings) (relearn : Bool),
      loopFields i = some (side, x, relearn) ↔
        i.loop.toNat = (match side with
          | .entry => 1
          | .clear => 2)
        ∧ i.onThr.toNat = x.onThr ∧ 10 ≤ x.onThr ∧ x.onThr ≤ 20000 ∧ i.offThr.toNat = x.offThr ∧ 1 ≤ x.offThr
        ∧ x.offThr < x.onThr ∧ i.limit.toNat = x.limit ∧ x.limit ≤ 3600 ∧ i.relearn.toNat = if relearn then 1 else 0)
    ∧ ∀ (s : State) (h : RecHead) (n : Lane), s.takes h .lane → h.chan = .lane n → s.power.supply ≠ .warning →
    let deck := s.deckSettings n
    let lane := s.laneSettings n
    let setDeck (x : DeckSettings) : Settings := { s.ret.settings with decks := s.ret.settings.decks.set n x }
    let decks (x : DeckSettings) : State := s.storing { s.ret with settings := setDeck x }
    let lanes (x : LaneSettings) : State :=
      s.storing { s.ret with settings := { s.ret.settings with lanes := s.ret.settings.lanes.set n x } }
    let bad := s.refusedWith h .badArgument
    (∀ b : Byte,
        let after : ReasonSet := { s.reasons n with uncalibrated := true }
        exec (.setupDeckCells h (.item b)) s = .next
          (if b.toNat = 0 ∨ 8 < b.toNat then bad
          else if (s.lane n).state ≠ .closed then s.refusedWith h .wrongState
          else if (s.deck n).op ≠ none then s.refusedWith h .busy
          else if deck.cells = b.toNat then s.executed h [] s
          else
            s.executed h
              (if (s.reasons n).uncalibrated then [] else [s.event .deckInvalid (some n) .none (.reasons after)])
              { s.storing
                  { s.ret with
                    settings := setDeck { deck with cells := b.toNat }
                    cal := s.ret.cal.set n { s.cal n with zeroDone := false, spanDone := false } } with
                decks :=
                  if s.deckValid n then
                    s.decks.set n
                      { s.deck n with
                        history := [], reading := none, settling := clearedSettling, occupancy := .neither }
                  else s.decks }))
      ∧ (∀ b : Byte, exec (.setupDeckFilter h (.item b)) s = .next
          (if b.toNat ∈ [1, 2, 4, 8, 16] then s.executed h [] (decks { deck with depth := b.toNat }) else bad))
      ∧ (∀ i : SettlingItem, exec (.setupDeckSettling h (.item i)) s = .next
          (if 1 ≤ i.band.toNat ∧ i.band.toNat ≤ 5000 ∧ 1 ≤ i.tTent.toNat ∧ 1 ≤ i.tSettle.toNat ∧ 1 ≤ i.tLock.toNat
              ∧ 1 ≤ i.tDrop.toNat then
            s.executed h [] (decks
              { deck with
                band := i.band.toNat, tTent := i.tTent.toNat, tSettle := i.tSettle.toNat, tLock := i.tLock.toNat
                tDrop := i.tDrop.toNat })
          else bad))
      ∧ (∀ v : BitVec 16, exec (.setupOccupancyLevel h (.item v)) s
        = .next (s.executed h [] (lanes { lane with occupancy := min 5000 (max 100 v.toNat) })))
      ∧ (∀ v : BitVec 16, exec (.setupPartAge h (.item v)) s = .next
          (if 1 ≤ v.toNat ∧ v.toNat ≤ 600 then s.executed h [] (lanes { lane with partAge := v.toNat }) else bad))
      ∧ (∀ i : BarrierItem, exec (.setupBarrier h (.item i)) s = .next
          (if 1 ≤ i.start.toNat ∧ i.start.toNat ≤ i.run.toNat ∧ 1 ≤ i.step.toNat ∧ 1 ≤ i.travel.toNat
              ∧ i.travel.toNat ≤ 30 then
            s.executed h []
              (lanes { lane with barrier := ⟨i.start.toNat, i.run.toNat, i.step.toNat, i.travel.toNat⟩ })
          else bad))
      ∧ (∀ i p, policyFields i = some p →
        exec (.setupLanePolicy h (.item i)) s = .next (s.executed h [] (lanes { lane with policy := p })))
      ∧ (∀ i address first, printerFields i = some (address, first) →
        exec (.setupPrinter h (.item i)) s
          = .next (s.executed h [] (lanes { lane with printer := address, printFirst := first })))
      ∧ ∀ i side cfg relearn, loopFields i = some (side, cfg, relearn) →
        let x : LaneSettings :=
          match side with
          | .entry => { lane with entryLoop := cfg }
          | .clear => { lane with clearLoop := cfg }
        let old := s.loop n side
        let loop : Loop :=
          { old with
            condition := .start, baseline := none, learnTimer := none, recovery := 0, presence := 0, stuck := false
            stuckDue := false }
        (relearn = false → exec (.setupLoop h (.item i)) s = .next (s.executed h [] (lanes x)))
          ∧ (relearn = true → ∃ t, exec (.setupLoop h (.item i)) s = .next t ∧ t.loop n side = loop
            ∧ s.answered h (.result h.chan .ok) t
            ∧ t.laneSettings n = { x with closed := (t.laneSettings n).closed }
            ∧ (old.report = .occupied → t = s.executed h []
              { lanes x with
                loops := t.loops
                lanes := match side with
                  | .entry => s.lanes
                  | .clear => s.lanes.set n { s.lane n with cycle := none } })
            ∧ (old.report ≠ .occupied →
              let seq := s.lane n
              let occupied := decide ((s.deck n).occupancy = .occupied)
              let other := match side with
                | .entry => s.loop n .clear
                | .clear => s.loop n .entry
              let cause := isFault (s.barrier n).state || !s.deckValid n || decide (other.report = .faulted)
              let settled : LaneSeq :=
                match seq.state with
                | .idle =>
                  { seq with state := if cause then .suspended else if occupied then .occupied else .idle }
                | .suspended => if cause then seq else s.idled n false occupied
                | _ => seq
              s.posts t (s.restored
                  ++ if old.report = .free ∧ s.ret.settings.siteMode = .closed then
                    [s.event .outOfHours (some n) .none (.loop side)] else [])
                ∧ t.lane n = (match side with
                  | .entry => settled
                  | .clear => { settled with cycle := none })
                ∧ (side = .entry → seq.state ≠ .suspended → t.barrier n = s.barrier n)
                ∧ (side = .clear → seq.state ≠ .suspended → t.barrier n =
                  if (s.barrier n).state = .lowering then
                    { s.barrier n with state := .reversing, duty := 0, direction := none, motionMs := none, blanked := false }
                  else s.barrier n)))

/-! ### READ (R15, R33, R53, R66, R89, R118, R137, R138, R165, R166, R172, R182, R194, R198, R200, R205, R213) -/

/-- A READ with its payload read is answered by one DATA of its target's payload, as the state stands with the record
received, and changes nothing but the port; a READ events also takes from the queue as many events as fit the reply
limit less the room of one. A DATA that finds no room is RESULT NO_REPLY_SPACE, with nothing taken. The payloads are
laid out as the two statements after this one say. That a READ of the visit table may start at 0, or ask for the single
number 0, and is answered by DATA (log 10), and the layout of the events' payload, with EVENTS_LOST counted among its
items, are the model's choices (log 28). -/
def Obligations.ReadsAnswered : Prop :=
  ∀ (s : State) (h : RecHead),
    let s1 : State := { s.heard with
      link := { s.link with
        port := .receiving, errors := s.link.errors.union (correctedOnly h.corrected), live := true, silence := 0
        lostDue := false } }
    let data (p : List Byte) (u : State) : Host.Outcome State Fault Refusal := .next
      (if repliesSize s.link.replies + p.length + 14 ≤ 4096 then { u with link := s.linkAfter h (.data h.chan p) }
      else s.refusedWith h .noReplySpace)
    let bad : Host.Outcome State Fault Refusal := .next (s.refusedWith h .badArgument)
    let whole (c : Body Unit → Instr) (p : List Byte) : Prop :=
      exec (c .misfit) s = bad ∧ exec (c (.item ())) s = data p s.heard
    (s.takes h .any →
        whole (.readAcquisitionState h) s1.acquisitionPayload ∧ whole (.readDeckReadings h) s1.readingsPayload
          ∧ exec (.readWaitingLists h .misfit) s = bad
          ∧ ∀ k, exec (.readWaitingLists h (.item k)) s = data (s1.listsPayload h.chan k.toNat) s.heard)
      ∧ (∀ n, s.takes h .lane → h.chan = .lane n →
        whole (.readCaptureState h) (s1.capturePayload n) ∧ whole (.readCalibrationState h) (s1.calibrationPayload n)
          ∧ whole (.readLaneDevices h) (s1.devicesPayload n) ∧ whole (.readLaneState h) (s1.laneStatePayload n))
      ∧ (s.takes h .site →
        whole (.readClassTable h) s1.classPayload ∧ whole (.readStreams h) s1.streamsPayload
          ∧ whole (.readPrinters h) s1.printersPayload ∧ whole (.readLink h) s1.linkPayload
          ∧ whole (.readSupply h) s1.supplyPayload
          ∧ exec (.readAccountTable h .misfit) s = bad
          ∧ (∀ k, exec (.readAccountTable h (.item k)) s = data (s1.accountsPayload k.toNat) s.heard)
          ∧ exec (.readJournal h .misfit) s = bad
          ∧ (∀ k, exec (.readJournal h (.item k)) s
            = if 999999 < k.toNat then bad else data (s1.journalPayload k.toNat) s.heard)
          ∧ exec (.readVehicleTable h .misfit) s = bad
          ∧ (∀ t x, exec (.readVehicleTable h (.item ⟨t, x⟩)) s
            = if x = 0 then data (s1.vehiclesPayload t) s.heard
              else if x = 1 then data (s1.vehiclePayload t) s.heard else bad)
          ∧ exec (.readVisitTable h .misfit) s = bad
          ∧ (∀ k x, exec (.readVisitTable h (.item ⟨k, x⟩)) s
            = if x = 0 then data (s1.visitsPayload k.toNat) s.heard
              else if x = 1 then data (s1.visitPayload k.toNat) s.heard else bad)
          ∧ exec (.readEvents h .misfit) s = bad
          ∧ ∃ k,
            let queue := s1.events.queue
            let fits (j : Nat) : Prop :=
              2 + 28 * j + (if queue.length ≤ j then 1 else 2) + 28 ≤ s.ret.settings.replyLimit
            let emptied := queue.length ≤ k
            let lost := emptied ∧ s1.events.overflow = true
            let items := queue.take k
              ++ if lost then [s.event .eventsLost none .none (.lost s1.events.dropped)] else []
            k ≤ queue.length ∧ (k = 0 ∨ fits k) ∧ (∀ j, k < j → j ≤ queue.length → ¬ fits j)
              ∧ exec (.readEvents h (.item ())) s = data
                ([15, BitVec.ofNat 8 items.length] ++ items.flatMap eventBytes
                  ++ if emptied then [0] else [1, BitVec.ofNat 8 (queue.length - k)])
                { s with
                  events :=
                    if lost then ⟨[], false, 0⟩ else { s1.events with queue := queue.drop k } })

/-- The payloads of READ targets 1 to 7 (R15, R33, R53, R63, R66, R89, R118, R203, R205): each field that the owning
rule lists, in its order and its width, absent where the rule has it absent; the zero limit is the one that stands.
Where the manual leaves a width or a form open (log 12, 28 and 43), the layout is the model's choice, and so are a
stopped timer or count sent as absent (log 45) and the zero limit shown between a RANGE and the next sample (log 39). -/
def Obligations.LanePayloadsLaidOut : Prop :=
  ∀ (s : State) (n : Lane),
    let plan (v : Vector (Option Lane) 16) : List Byte :=
      (List.finRange 16).flatMap fun i => wireNum 1 (((v.get i).map fun m => m.number).getD 0)
    let valid (m : Lane) : List Byte := wireNum 1 (if s.deckValid m then 1 else 2)
    let kg (a : Int) : Int := roundDiv a 10
    let d := s.deck n
    let c := s.cal n
    let l := s.lane n
    let lane := s.laneSettings n
    let weighing : Bool := l.state = .weighing
    let parts := if weighing then l.capture.parts else []
    let p := lane.policy
    let loop (x : Loop) (cfg : LoopSettings) : List Byte :=
      wireNum 1 x.condition.code ++ wireNum 1 x.report.code ++ wireOr 4 x.baseline ++ wireOr 4 x.latest
        ++ wireOptInt (x.baseline.bind fun b => x.latest.map fun q => (b : Int) - q) ++ wireNum 1 x.recovery
        ++ wireNum 2 x.presence ++ wireFlag x.stuck ++ wireNum 2 cfg.onThr ++ wireNum 2 cfg.offThr ++ wireNum 2 cfg.limit
    let b := s.barrier n
    let fault : Option BarrierFault := match b.state with
      | .fault r => some r
      | _ => none
    let hold : Option HoldReason := match l.state with
      | .held r => some r
      | _ => none
    let port (q : ReaderPort) : List Byte := wireOpt 8 (q.last.map fun t => t.toNat) ++ wireNum 1 q.lockout
    let waiting (e : WaitEntry) : List Byte :=
      wireNum 8 e.token.toNat ++ wireNum 4 e.joined.toNat ++ wireNum 4 e.age ++ wireNum 1 e.direction.code
        ++ wireCode (e.result.map fun r => r.code)
    s.acquisitionPayload = wireNum 1 1 ++ plan s.acq.active ++ plan s.ret.settings.slotPlan
        ++ Lane.all.flatMap (fun m =>
          let r := s.reasons m
          let x := (s.deck m).lastSample
          let cells := (x.map fun y => y.cells).getD []
          wireNum 1 (s.deckSettings m).cells
            ++ wireNum 1 ((List.finRange 16).filter fun i => s.acq.active.get i == some m).length ++ valid m
            ++ wireSet [r.uncalibrated, r.noSlots, r.cellSaturated, r.excitation] ++ wireNum 1 (s.deck m).good
            ++ wireNum 1 cells.length ++ cells.flatMap wireInt ++ wireOptInt (x.map fun y => y.ref)
            ++ wireOpt 4 (x.map fun y => y.time.toNat) ++ wireCode (x.map fun y => if y.good then 1 else 2))
      ∧ s.readingsPayload = wireNum 1 2 ++ Lane.all.flatMap (fun m =>
          let r := (s.deck m).reading
          let shown := r.filter fun x => x.range == .normal
          valid m ++ wireFlag r.isSome ++ wireCode (r.map fun x => x.range.code) ++ wireOptInt (shown.map fun x => x.d)
            ++ wireOptInt (shown.map fun x => kg x.g) ++ wireOr 1 (r.map fun x => x.entries)
            ++ wireOpt 4 (r.map fun x => x.time.toNat) ++ wireNum 1 (s.deckSettings m).depth
            ++ wireNum 1 (s.deck m).history.length ++ wireNum 4 (s.cal m).max ++ wireNum 1 (s.cal m).d
            ++ wireNum 4 (20 * (s.cal m).d) ++ wireNum 1 (s.deck m).settling.state.code)
      ∧ s.capturePayload n = wireNum 1 3 ++ wireNum 1 d.settling.state.code ++ wireNum 2 d.settling.run
          ++ wireNum 1 d.settling.out ++ wireNum 2 (s.deckSettings n).band ++ wireNum 1 (s.deckSettings n).tTent
          ++ wireNum 1 (s.deckSettings n).tSettle ++ wireNum 1 (s.deckSettings n).tLock
          ++ wireNum 1 (s.deckSettings n).tDrop ++ wireInt (kg c.z)
          ++ wireNum 4 (kg (d.heldLimit.getD (c.max / 5) : Nat)).toNat
          ++ wireFlag d.zeroMarker ++ wireNum 1 d.occupancy.code ++ wireNum 2 lane.occupancy ++ wireNum 2 lane.partAge
          ++ wireFlag weighing ++ wireOr 1 (if weighing then l.capture.required else none) ++ wireNum 1 parts.length
          ++ parts.flatMap (fun x => wirePart x ++ wireFlag x.unset) ++ wireFlag (weighing && l.capture.moved)
          ++ wireOpt 4 (if weighing then l.capture.age else none)
      ∧ s.calibrationPayload n = wireNum 1 4 ++ wireFlag s.power.calEnable ++ wireNum 2 c.counter ++ wireFlag c.zeroDone
          ++ wireFlag c.spanDone ++ wireNum 1 (s.deckSettings n).cells
          ++ (List.finRange 8).flatMap (fun i => wireInt (c.zeros.get i) ++ wireNum 4 (c.trims.get i))
          ++ wireNum 4 c.eCal ++ wireNum 4 c.k ++ wireNum 4 c.max ++ wireNum 1 c.d ++ wireInt (kg c.z)
          ++ (match d.op with
            | none => wireCode none ++ wireOr 1 none ++ wireOr 4 none
            | some (.zero taken _ _ _) => wireNum 1 1 ++ wireNum 1 taken ++ wireOr 4 none
            | some (.span load taken _ _) => wireNum 1 3 ++ wireNum 1 taken ++ wireNum 4 load)
          ++ wireCode (d.lastOutcome.map fun o => o.sub.code) ++ wireCode (d.lastOutcome.map fun o => o.outcome.code)
          ++ wireOpt 4 (d.lastOutcome.map fun o => o.time.toNat)
      ∧ s.devicesPayload n = wireNum 1 5 ++ loop (s.loop n .entry) lane.entryLoop ++ loop (s.loop n .clear) lane.clearLoop
          ++ wireNum 1 b.state.code ++ wireCode (fault.map fun r => r.code)
          ++ wireNum 1 (if b.target = .down then 1 else 2) ++ wireNum 1 b.duty
          ++ wireCode (b.direction.map fun t => if t = .up then 1 else 2) ++ wireNum 1 b.obstructions
          ++ wireFlag b.downSwitch ++ wireFlag b.upSwitch ++ wireFlag b.comparator ++ wireNum 1 lane.barrier.start
          ++ wireNum 1 lane.barrier.run ++ wireNum 1 lane.barrier.step ++ wireNum 1 lane.barrier.travel
          ++ wireNum 1 (s.entryHead n).code ++ wireFlag false ++ wireNum 1 (s.deckHead n).code
          ++ wireFlag (decide (l.state = .refused) && l.flashLit)
      ∧ s.laneStatePayload n = wireNum 1 6 ++ wireNum 1 l.state.code ++ wireCode (hold.map fun r => r.code)
          ++ wireOpt 8 (l.identity.map fun i => i.token.toNat) ++ wireCode (l.identity.map fun i => i.direction.code)
          ++ wireOr 1 (l.identity.bind fun i => i.stream.map fun k => k.val + 1)
          ++ wireCode (l.identity.bind fun i => i.kind.map fun k => k.code)
          ++ wireCode (l.identity.map fun i => i.source.code) ++ wireOpt 2 l.visit ++ wireFlag l.postponed
          ++ wireOpt 4 (l.heldWeighing.map fun w => w.value) ++ wireOr 2 l.passTimer ++ wireFlag l.closePending
          ++ wireSet [isFault b.state, !s.deckValid n, (s.loop n .entry).report = .faulted,
            (s.loop n .clear).report = .faulted]
          ++ wireCode (l.lastRefusal.map fun r => r.code) ++ wireNum 1 p.direction.code ++ wireFlag p.admitUnknown
          ++ wireNum 1 p.account.val ++ wireNum 1 p.cls.val ++ wireOr 1 (p.stream.map fun k => k.val + 1)
          ++ wireNum 2 p.passTimeout ++ port (s.readers.get n).approach ++ port (s.readers.get n).deck
      ∧ ∀ k, listLaid s.ret.settings.replyLimit 7 []
            (Lane.all.flatMap (fun m => wireNum 1 (s.laneSettings m).depth) ++ wireNum 1 s.ret.settings.listAge
              ++ wireNum 1 s.ret.settings.siteMode.code)
            1 (((Lane.all.flatMap s.list).drop k).map waiting) (fun j => wireNum 1 (k + j)) (s.listsPayload .site k)
          ∧ listLaid s.ret.settings.replyLimit 7 [] [] 1 (((s.list n).drop k).map waiting) (fun j => wireNum 1 (k + j))
            (s.listsPayload (.lane n) k)

/-- The payloads of READ targets 8 to 14, 16 and 17 (R129, R131, R132, R137, R138, R140, R160, R165, R166, R168, R172,
R182, R200, R203, R205, R206, R213), and the event items of target 15: the entries, accounts, visits and tickets from
the start given, each whole, or the one a single read names; the classes, the streams with the site's totals, the
printers, the link and the supply; and each event in 28 bytes, its subject and its detail in their own widths and the
rest 0. Where the manual leaves a width or a form open (log 12 and 28), the layout is the model's choice. -/
def Obligations.TablePayloadsLaidOut : Prop :=
  ∀ s : State,
    let limit := s.ret.settings.replyLimit
    let now := s.now.toNat
    let stream (o : Option (Fin 8)) : List Byte := wireOr 1 (o.map fun k => k.val + 1)
    let mask (o : Option LaneMask) : List Byte := match o with
      | none => wireNum 1 255
      | some m => wireSet m.toList
    let vehicle (v : Vehicle) : List Byte :=
      wireNum 8 v.token.toNat ++ wireNum 1 v.account.val ++ wireNum 1 v.cls.val ++ wireNum 1 v.kind.code
        ++ stream v.stream ++ wireOr 4 v.gross ++ wireOr 4 (v.tare.map fun t => t.value)
        ++ wireCode (v.tare.map fun t => t.origin.code) ++ wireOpt 4 (v.tare.map fun t => t.setTime.toNat)
        ++ wireOpt 4 (v.tare.map fun t => (now - t.setTime.toNat) / 3600) ++ mask v.mask ++ wireFlag v.barred
        ++ wireNum 1 v.origin.code ++ wireNum 4 v.lastUse.toNat ++ wireNum 4 ((now - v.lastUse.toNat) / 86400)
    let account (a : Account) : List Byte :=
      wireNum 1 a.state.code ++ wireOr 4 a.allowance ++ wireNum 1 a.limitKind.code ++ wireNum 4 a.consumed
        ++ wireNum 4 a.pending ++ wireFlag a.approval ++ stream a.stream
    let visit (v : Visit) : List Byte :=
      wireNum 2 v.number ++ wireNum 8 v.token.toNat ++ wireNum 1 v.account.val ++ wireNum 1 v.cls.val
        ++ wireNum 1 (v.stream.val + 1) ++ wireNum 1 v.kind.code ++ wireNum 1 v.state.code
        ++ wireNum 1 v.entryLane.number ++ wireOr 1 (v.exitLane.map fun m => m.number) ++ wireWeighing v.entry
        ++ (match v.exit with
          | none => List.replicate 56 0
          | some w => 1 :: wireWeighing w)
        ++ wireNum 4 v.estimate ++ wireNum 2 v.blocks ++ wireOpt 4 v.net ++ wireFlags v.flags ++ wireNum 2 v.timer
    let ticket (t : Ticket) : List Byte :=
      wireNum 4 t.number ++ wireNum 2 t.visit ++ wireNum 4 t.issued.toNat ++ wireNum 1 t.kind.code
        ++ wireNum 8 t.token.toNat ++ wireNum 1 t.account.val ++ wireNum 1 t.cls.val ++ wireNum 1 (t.stream.val + 1)
        ++ wireWeighing t.entry ++ wireWeighing t.exit ++ wireNum 4 t.net ++ wireFlags t.flags
        ++ wireNum 1 t.print.code ++ wireCode (t.failure.map fun r => r.code) ++ wireNum 1 t.copies
    let vehicles := s.ret.ident.vehicles
    let table : List Byte :=
      wireNum 2 vehicles.length ++ wireNum 2 s.ret.ident.provisional ++ wireNum 2 s.ret.settings.learnLimit
        ++ wireNum 2 s.ret.settings.provAge ++ wireNum 2 s.ret.settings.tareAge
    let visits := s.ret.traffic.visits
    let figures : List Byte :=
      wireNum 1 visits.length ++ wireNum 2 s.ret.traffic.counter
        ++ Lane.all.flatMap fun m => wireOpt 2 (s.lane m).lateNumber
    let journal := s.ret.tickets.journal
    let fields (j : PrintJob) : List Byte :=
      wireNum 4 j.ticket ++ wireNum 1 j.lane.number ++ wireNum 1 (j.address.val + 1) ++ wireFlag j.copy
        ++ match j.state with
          | .queued => wireNum 1 1 ++ wireOpt 4 none ++ wireOpt 4 none
          | .sending k => wireNum 1 2 ++ wireOpt 4 (some k) ++ wireOpt 4 none
          | .printing k => wireNum 1 3 ++ wireOpt 4 none ++ wireOpt 4 (some k)
    let side (x : LoopSide) : Nat := match x with
      | .entry => 1
      | .clear => 2
    let subject (x : Subject) : Nat × List Byte := match x with
      | .none => (0, [])
      | .visit k => (1, wireNum 2 k)
      | .ticket k => (2, wireNum 4 k)
      | .token t => (3, wireNum 8 t.toNat)
      | .stream k => (4, wireNum 1 (k.val + 1))
    let detail (x : Detail) : List Byte := match x with
      | .none => []
      | .started c f k =>
        wireNum 1 c.code ++ wireSet [f.calibration, f.settings, f.identities, f.traffic, f.tickets] ++ wireNum 4 k
      | .blocks b => wireNum 2 b
      | .reason r => wireNum 1 r.code
      | .hold r => wireNum 1 r.code
      | .ticket k => wireNum 4 k
      | .parts k => wireNum 1 k
      | .token t => wireNum 8 t.toNat
      | .laneState st => wireNum 1 st.code
      | .obstructions k => wireNum 1 k
      | .barrierFault r => wireNum 1 r.code
      | .loopFault x k => wireNum 1 (side x) ++ wireNum 1 k.code
      | .stuck x limit => wireNum 1 (side x) ++ wireNum 2 limit
      | .loop x => wireNum 1 (side x)
      | .reasons r => wireSet [r.uncalibrated, r.noSlots, r.cellSaturated, r.excitation]
      | .limitSide x => wireNum 1 x.code
      | .weight kg => wireNum 4 kg
      | .days k => wireNum 4 k
      | .level kg up => wireNum 4 kg ++ wireNum 1 (if up then 1 else 2)
      | .copyMark c => wireFlag c
      | .jobFailed c r => wireFlag c ++ wireNum 1 r.code
      | .notQueued r => wireNum 1 r.code
      | .warning entered => wireNum 1 (if entered then 1 else 2)
      | .calDone sub k => wireNum 1 sub.code ++ wireNum 2 k
      | .calAborted sub c => wireNum 1 sub.code ++ wireNum 1 c.code
      | .lost k => wireNum 2 k
    let filled (width : Nat) (bytes : List Byte) : List Byte := bytes ++ List.replicate (width - bytes.length) 0
    (∀ e : Event, (eventBytes e).length = 28
        ∧ eventBytes e = wireNum 1 e.kind.code ++ wireOr 1 (e.lane.map fun m => m.number) ++ wireNum 4 e.time.toNat
          ++ wireNum 1 (subject e.subject).1 ++ filled 8 (subject e.subject).2 ++ filled 13 (detail e.detail))
      ∧ (∀ t : Token,
        (let vs := vehicles.filter fun v => decide (t.toNat ≤ v.token.toNat)
        listLaid limit 8 table [] 8 (vs.map vehicle)
          (fun k => ((vs[k]?).map fun v => wireNum 8 v.token.toNat).getD []) (s.vehiclesPayload t))
          ∧ s.vehiclePayload t = singleLaid 8 table ((s.vehicleOf t).map vehicle))
      ∧ s.classPayload = wireNum 1 9 ++ (List.finRange 16).flatMap (fun i =>
          let c := s.ret.settings.classes.get i
          wireNum 1 c.parts ++ wireNum 4 c.tare ++ wireNum 4 c.gross ++ wireNum 2 c.tolerance ++ wireFlag c.learning)
      ∧ (∀ k, listLaid limit 10 [] [] 1 ((s.ret.ident.accounts.toList.drop k).map account)
          (fun j => wireNum 1 (k + j)) (s.accountsPayload k))
      ∧ (∀ k,
        (let vs := visits.filter fun v => decide (k ≤ v.number)
        listLaid limit 11 figures [] 2 (vs.map visit)
          (fun j => ((vs[j]?).map fun v => wireNum 2 v.number).getD []) (s.visitsPayload k))
          ∧ s.visitPayload k = singleLaid 11 figures ((s.visitNumbered k).map visit))
      ∧ s.streamsPayload = wireNum 1 12 ++ (List.finRange 8).flatMap (fun i =>
          let c := s.ret.settings.streams.get i
          let x := s.ret.traffic.streams.get i
          wireNum 4 c.capacity ++ wireNum 1 c.state.code ++ c.levels.toList.flatMap (wireOr 4) ++ wireNum 4 x.stock
            ++ wireNum 2 x.reserved ++ wireNum 4 (x.stock + 500 * x.reserved)
            ++ wireFlag (decide (c.capacity < x.stock)))
          ++ wireOr 4 s.ret.settings.permitCap ++ wireNum 4 s.ret.traffic.accepted
          ++ wireNum 4 (∑ i : Fin 8, (s.ret.traffic.streams.get i).reserved) ++ wireNum 2 s.ret.settings.approvalTimeout
      ∧ (∀ k,
        let ts := if k = 0 then journal else journal.dropWhile fun t => t.number != k
        listLaid limit 13
          (wireNum 1 journal.length ++ wireOr 4 (journal.head?.map fun t => t.number) ++ wireNum 4 s.ret.tickets.counter)
          [] 4 (ts.map ticket) (fun j => ((ts[j]?).map fun t => wireNum 4 t.number).getD []) (s.journalPayload k))
      ∧ s.printersPayload = wireNum 1 14
          ++ Lane.all.flatMap (fun m =>
            stream (s.laneSettings m).printer ++ wireFlag (s.laneSettings m).printFirst ++ wireOr 4 (s.lane m).heldTicket)
          ++ wireNum 1 s.printing.queue.length ++ s.printing.queue.flatMap fields
          ++ (List.finRange 8).flatMap (fun i =>
            let x := s.printing.lastStatus.get i
            wireOpt 1 (x.map fun y => y.1.toNat) ++ wireOpt 4 (x.map fun y => y.2.toNat))
      ∧ s.linkPayload = wireNum 1 16 ++ wireNum 1 (if s.link.live then 1 else 2) ++ wireNum 2 s.link.silence
          ++ wireNum 1 s.ret.settings.linkTimeout ++ wireNum 2 limit ++ wireNum 4 s.link.bitRate
          ++ wireNum 1 s.events.queue.length ++ wireFlag s.events.overflow ++ wireNum 2 s.events.dropped
          ++ wireNum 4 now ++ wireFlag s.clock.unset
      ∧ s.supplyPayload =
        let f := s.power.failed
        wireNum 1 17 ++ wireNum 1 s.power.supply.code ++ wireNum 1 s.ret.settings.warnLevel
          ++ wireNum 1 s.power.cause.code ++ wireSet [f.calibration, f.settings, f.identities, f.traffic, f.tickets]
          ++ wireNum 1 s.power.copyFound.code ++ wireNum 4 s.power.unconfirmed

/-- What the outputs show, and the bytes of the replies (R28, R35, R44, R55, R64, R68, R70, R76, R87, R88, R94, R95,
R101, R117, R120, R132, R140, R160, R168, R187, R189, R192, R193, R197, R202, R203, R206, R207, R210, R213): the heads
by the lanes' states, dark in reset; the drive of each motor, none in reset; the attention line while an event waits;
the replies held, in order, while the controller holds the line, none in reset; each reply's record, with its check byte and its
checksum; and the codes of the results, the refusal reasons, the event kinds and every other enumeration, in the order
in which its rule lists the values. The codes of an aspect (log 28) and of a calibration subcommand and its outcome (log
12), and a held part that sends nothing (log 48), are the model's choices. -/
def Obligations.OutputsShown : Prop :=
  (∀ (s : State) (n : Lane),
    let l := s.lane n
    let awaits := l.capture.parts ≠ [] ∧ l.capture.required ≠ some l.capture.parts.length
    let dark : Lamps := { red := false, amber := false, green := false }
    let shown (a : Aspect) : Lamps :=
      match a with
      | .amber => { dark with amber := true }
      | .red => { dark with red := true }
      | .green => { dark with green := true }
      | .flashing => { dark with red := l.flashLit }
    s.entryHead n = (if l.state = .idle then .green else .red)
      ∧ s.deckHead n = (match l.state with
        | .weighing => if awaits then .amber else .red
        | .passing => .green
        | .manual => .green
        | .refused => .flashing
        | _ => .red)
      ∧ s.entryLamps n = (if s.power.held = none then shown (s.entryHead n) else dark)
      ∧ s.deckLamps n = (if s.power.held = none then shown (s.deckHead n) else dark)
      ∧ s.motorDrive n
        = (if s.power.held = none then ((s.barrier n).duty, (s.barrier n).direction) else (0, none))
      ∧ (s.attention = true ↔ s.power.held = none ∧ s.events.queue ≠ [])
      ∧ s.sent = if s.power.held = none ∧ s.link.port = .sending then s.link.replies.flatMap Reply.bytes else [])
    ∧ (∀ d : BitVec 24,
      let codes := (List.range 64).filter fun c => ((List.range 6).filter fun k => c.testBit k).length ∈ [3, 5]
      ∀ k, k < 8 → ((checkByte d).getLsbD k = true ↔
        k < 6 ∧ ((List.range 24).filter fun j => d.getLsbD j && (codes.getD j 0).testBit k).length % 2 = 1))
    ∧ checksum [] = 65535
    ∧ (∀ (p : List Byte) (b : Byte),
      let take (r : BitVec 16) (x : Bool) : BitVec 16 := if r.msb = x then r <<< 1 else (r <<< 1) ^^^ 4129
      checksum (p ++ [b]) = [7, 6, 5, 4, 3, 2, 1, 0].foldl (fun r k => take r (b.getLsbD k)) (checksum p))
    ∧ (let header (c : Chan) (kind arg : Nat) : List Byte :=
        let tag := 32 * (match c with
          | .site => 0
          | .lane n => n.number) + kind
        wireNum 1 tag ++ wireNum 2 arg ++ [checkByte (BitVec.ofNat 24 (65536 * tag + arg % 65536))]
      (∀ c code, (Reply.result c code).bytes = header c 13 code.code)
        ∧ (∀ e : LinkErrors, (Reply.errors e).bytes
          = header .site 14 ((if e.headerCorrected then 1 else 0) + (if e.headerBad then 2 else 0)
            + (if e.checksum then 4 else 0) + (if e.kindUnknown then 8 else 0) + (if e.channelBad then 16 else 0)
            + (if e.lengthBad then 32 else 0) + (if e.cutShort then 64 else 0)))
        ∧ (∀ k, (Reply.finish k).bytes = header .site 15 k)
        ∧ ∀ c p, (Reply.data c p).bytes = header c 31 p.length ++ p ++ wireNum 2 (checksum p).toNat)
    ∧ [ResultCode.ok, .wrongState, .badArgument, .wrongChannel, .notFound, .inUse, .full, .limit, .tooLate, .calLocked,
        .busy, .unstable, .spanTooSmall, .counterFull, .noReplySpace].map ResultCode.code = List.range 15
    ∧ [Reason.siteClosed, .laneClosed, .wrongDirection, .unknownVehicle, .tableFull, .learnLimit, .barred,
        .laneNotPermitted, .visitOpen, .accountStopped, .noStream, .streamClosed, .siteFull, .streamCapacity, .permitCap,
        .allowance, .linkLost, .noVisit, .wrongState, .overweight, .declined, .approvalTimeout,
        .passTimeout].map Reason.code = List.range' 1 23
    ∧ [EventKind.started, .vehicleAdmitted, .vehicleRefused, .held, .visitClosed, .precheckFail, .queueSkipped,
        .queueExpired, .queueFull, .partDiscarded, .weighingDiscarded, .passTimeout, .unexpectedPass, .manualPass,
        .barrierObstructed, .barrierFault, .loopFault, .loopStuck, .deckInvalid, .deckValid, .zeroLimit, .tareLearned,
        .tareExpired, .entryExpired, .streamLevel, .overweightOut, .journalFull, .printDone, .printFailed, .linkLost,
        .linkRestored, .outOfHours, .powerWarning, .calDone, .calAborted, .eventsLost].map EventKind.code
      = List.range' 1 36
    ∧ [Kind.delivery, .collection].map Kind.code = [1, 2] ∧ [Direction.entry, .exit].map Direction.code = [1, 2]
    ∧ [DirMode.inward, .outward, .both].map DirMode.code = [1, 2, 3]
    ∧ [OpenState.opened, .closed].map OpenState.code = [1, 2]
    ∧ [AccountState.active, .onStop, .closed].map AccountState.code = [1, 2, 3]
    ∧ [LimitKind.hard, .soft].map LimitKind.code = [1, 2]
    ∧ [TareOrigin.loaded, .learned].map TareOrigin.code = [1, 2]
    ∧ [EntryOrigin.loaded, .provisional].map EntryOrigin.code = [1, 2]
    ∧ [VisitState.heldIn, .entering, .onSite, .heldOut, .overweight].map VisitState.code = List.range' 1 5
    ∧ [HoldReason.approval, .journal, .print, .overweight, .barrier].map HoldReason.code = List.range' 1 5
    ∧ (∀ r, [LaneState.closed, .idle, .occupied, .weighing, .held r, .passing, .clearing, .refused, .manual,
        .suspended].map LaneState.code = List.range' 1 10)
    ∧ [RangeStatus.over, .under, .normal].map RangeStatus.code = [1, 2, 3]
    ∧ [SettleState.unsettled, .tentative, .settled, .locked].map SettleState.code = List.range' 1 4
    ∧ [Occupancy.occupied, .empty, .neither].map Occupancy.code = [1, 2, 3]
    ∧ [CalSub.zeroCapture, .trim, .spanCapture, .range].map CalSub.code = List.range' 1 4
    ∧ [AbortCause.enable, .invalid, .warning, .command, .unstable, .spanTooSmall, .badArgument].map AbortCause.code
      = List.range' 1 7
    ∧ [CalOutcome.done, .aborted .enable, .aborted .invalid, .aborted .warning, .aborted .command, .aborted .unstable,
        .aborted .spanTooSmall, .aborted .badArgument].map CalOutcome.code = List.range' 1 8
    ∧ [LoopCondition.start, .learning, .free, .occupied, .faulted].map LoopCondition.code = List.range' 1 5
    ∧ [LoopReport.free, .faulted, .occupied].map LoopReport.code = [1, 2, 3]
    ∧ [LoopFaultKind.short, .opened, .recovered].map LoopFaultKind.code = [1, 2, 3]
    ∧ [BarrierFault.travel, .switch, .stall, .obstruction].map BarrierFault.code = List.range' 1 4
    ∧ (∀ r, [BarrierState.down, .raising, .up, .lowering, .reversing, .unknown, .fault r].map BarrierState.code
      = List.range' 1 7)
    ∧ [Source.deckReader, .ident].map Source.code = [1, 2]
    ∧ [PrintState.none, .queued, .printed, .failed].map PrintState.code = List.range' 1 4
    ∧ [PrintFailure.paperOut, .headFault, .noAnswer, .timeout, .laneBusy, .restart].map PrintFailure.code
      = List.range' 1 6
    ∧ [SupplyState.normal, .warning, .reset].map SupplyState.code = [1, 2, 3]
    ∧ [StartCause.power, .line, .record].map StartCause.code = [1, 2, 3]
    ∧ [CopyFound.empty, .applied, .discarded].map CopyFound.code = [1, 2, 3]
    ∧ [LimitSide.upper, .lower].map LimitSide.code = [1, 2]
    ∧ [Aspect.amber, .red, .green, .flashing].map Aspect.code = List.range' 1 4

/-! ### Printers (R168, R174 to R182) -/

/-- The job that holds the printer bus (R168, R174, R176, R177, R179 to R182): an acknowledged transfer moves a SENDING
job on, to PRINTING after the nineteenth; a missing acknowledge, a status byte that ends it or more than 15 s in
PRINTING end a job, which leaves the queue to the next, writes its ticket's print fields, posts its event, and, DONE,
lets go a lane held for its ticket. Without a job in the state concerned each command does nothing. The transfer kept to
be seen is the model's own field (log 25); the detail of PRINT_FAILED (log 17), and that each command itself says that
its time has passed (log 6), are the model's choices. -/
def Obligations.PrintJobsServed : Prop :=
  ∀ s : State, s.power.held = none →
    (s.busJob = none → (∀ a, exec (.printLineTransfer a) s = .next s)
        ∧ (∀ r, exec (.printerStatusRead r) s = .next s) ∧ exec .printTimeout s = .next s)
      ∧ ∀ j, s.busJob = some j →
        let rest := granted (s.printing.queue.filter fun q => decide (q.state = .queued))
        let written (f : Ticket → Ticket) : State :=
          s.storing { s.ret with
            tickets := { s.ret.tickets with
              journal := s.ret.tickets.journal.map fun x => if x.number = j.ticket then f x else x } }
        let failed (p : Printing) (r : PrintFailure) : State :=
          s.posted [s.event .printFailed (some j.lane) (.ticket j.ticket) (.jobFailed j.copy r)]
            { written fun x =>
                if j.copy = true ∨ x.print = .printed then x else { x with print := .failed, failure := some r } with
              printing := { p with queue := rest } }
        let done (p : Printing) : State :=
          State.eachLane
            (s.posted [s.event .printDone (some j.lane) (.ticket j.ticket) (.copyMark j.copy)]
              { written fun x =>
                  { x with
                    print := .printed, failure := none
                    copies := if j.copy then min (x.copies + 1) 255 else x.copies } with
                printing := { p with queue := rest } })
            fun u n =>
              if (u.lane n).state = .held .print ∧ (u.lane n).heldTicket = some j.ticket then
                State.letGo { u with lanes := u.lanes.set n { u.lane n with heldTicket := none } } n
              else u
        let moved (p : Printing) (st : JobState) : State :=
          { s with
            printing := { p with
              queue := s.printing.queue.map fun q => if q.state = .queued then q else { q with state := st } } }
        (∀ k, j.state = .sending k →
            let p : Printing :=
              { s.printing with
                lastTransfer :=
                  ((s.ticketNumbered j.ticket).map fun x => transferOf j.copy j.address x k).or s.printing.lastTransfer }
            exec (.printLineTransfer true) s = .next (moved p (if k < 18 then .sending (k + 1) else .printing 0))
              ∧ exec (.printLineTransfer false) s = .next (failed p .noAnswer)
              ∧ (∀ r, exec (.printerStatusRead r) s = .next s) ∧ exec .printTimeout s = .next s)
          ∧ ∀ k, j.state = .printing k →
            let read (bytes : List Byte) : Printing :=
              { s.printing with lastTransfer := some ⟨BitVec.ofNat 8 (2 * (j.address.val + 1) + 1), bytes⟩ }
            (∀ a, exec (.printLineTransfer a) s = .next s)
              ∧ exec (.printerStatusRead .noAck) s = .next (failed (read []) .noAnswer)
              ∧ exec .printTimeout s = .next (failed s.printing .timeout)
              ∧ ∀ b : Byte,
                let p : Printing :=
                  { read [b] with lastStatus := s.printing.lastStatus.set j.address (some (b, s.now)) }
                exec (.printerStatusRead (.byte b)) s = .next
                  (if b = 1 then done p
                  else if b = 3 then failed p .paperOut
                  else if b = 4 then failed p .headFault else moved p (.printing (k + 1)))

/-- The ticket as printed (R177, R178, R206): a job's transfers to its printer's address, the first eighteen each a line
number and the 32 ASCII characters of its line, filled with spaces, and from then on the line number 0 alone. The part
number in one digit is the model's choice (log 25). -/
def Obligations.TicketLinesPrinted : Prop :=
  ∀ (copy : Bool) (address : Fin 8) (x : Ticket),
    let figure (n : Nat) : Char := Char.ofNat (48 + n % 10)
    let fig (width n : Nat) : List Char :=
      (List.range width).map fun j =>
        let p := width - 1 - j
        if p ≠ 0 ∧ n < 10 ^ p then ' ' else figure (n / 10 ^ p)
    let two (n : Nat) : List Char := [figure (n / 10), figure n]
    let line (items : List (List Char)) : List Char := (items.intersperse [' ']).flatten
    let day (t : SiteTime) : List Char := fig 5 (t.toNat / 86400)
    let time (t : SiteTime) : List Char :=
      let r := t.toNat % 86400
      two (r / 3600) ++ [':'] ++ two (r % 3600 / 60) ++ [':'] ++ two (r % 60)
    let token : List Char := (List.range 16).map fun j =>
      let v := x.token.toNat / 16 ^ (15 - j) % 16
      Char.ofNat (if v < 10 then 48 + v else 55 + v)
    let weighing (label : List Char) (w : Weighing) : List Char :=
      line [label, "WT".toList, fig 6 w.value, day w.time, time w.time]
    let parts (w : Weighing) : List (List Char) := (List.range 4).map fun k =>
      match w.parts[k]? with
      | none => []
      | some p =>
        line ["P".toList, fig 1 (k + 1), fig 6 p.value, "D".toList, fig 1 p.deck.number, "C".toList, fig 5 p.counter,
          time p.time]
    let f := x.flags
    let marks : List (List Char) :=
      (if f.overweightIn then ["OI".toList] else []) ++ (if f.tareDeviation then ["TD".toList] else [])
        ++ (if f.allowanceExceeded then ["AE".toList] else []) ++ (if f.negativeNet then ["NN".toList] else [])
        ++ (if f.stockUnderrun then ["SU".toList] else []) ++ (if f.timeUnset then ["TU".toList] else [])
        ++ (if f.approvedIn then ["AP".toList] else [])
    let title : List Char :=
      if copy then "WEIGHT TICKET".toList ++ List.replicate 11 ' ' ++ "COPY ".toList ++ fig 3 (x.copies + 1)
      else "WEIGHT TICKET".toList
    let lines : List (List Char) :=
      [title, line ["TICKET".toList, fig 6 x.number, "VISIT".toList, fig 5 x.visit],
        line ["ISSUED".toList, day x.issued, time x.issued], line ["VEHICLE".toList, token],
        line ["ACC".toList, fig 3 x.account.val, "CL".toList, fig 2 x.cls.val,
          if x.kind = .delivery then "DELIVERY".toList else "COLLECTION".toList],
        line ["STREAM".toList, fig 1 (x.stream.val + 1), "IN".toList, fig 1 x.entry.lane.number, "OUT".toList,
          fig 1 x.exit.lane.number], weighing "IN".toList x.entry]
        ++ parts x.entry ++ [weighing "OUT".toList x.exit] ++ parts x.exit
        ++ [line ["NET".toList, fig 6 x.net],
          line ("FLAGS".toList :: if marks = [] then ["NONE".toList] else marks)]
    lines.length = 18 ∧ (∀ l ∈ lines, l.length ≤ 32)
      ∧ (∀ k, (transferOf copy address x k).first = BitVec.ofNat 8 (2 * (address.val + 1)))
      ∧ (∀ k, 18 ≤ k → (transferOf copy address x k).data = [0])
      ∧ ∀ k l, lines[k]? = some l →
        (transferOf copy address x k).data = BitVec.ofNat 8 (k + 1)
          :: (l ++ List.replicate (32 - l.length) ' ').map fun c => BitVec.ofNat 8 c.toNat

/-! ### The office link (R185 to R196, R202, R212) -/

/-- What a transmission and its parts do to the port (R185, R186, R188, R190, R192 to R194, R212): an idle gap ends a
transmission, with the replies and an END sent where it gave the turn and discarded otherwise, a record it cuts short,
and what that record's header added, first noted; a header past reading has the rest passed over; a damaged record and a
TURN are answered by ERRORS where there are errors and room; the last byte of END gives the line back, and takes the
part into reset after a RESET ALL; and the first gap after a release makes the port ready. That the gap notes a record
cut short (log 11), the steps after a RESET ALL (log 16), the place that the ERRORS of a record cut short or of a header
past reading needs (log 46), and a first gap after a release that IDLE_GAP_AT_RELEASE alone brings (log 47), are the
model's choices. -/
def Obligations.LinkPortServed : Prop :=
  ∀ s : State, s.power.held = none →
    let p := s.link
    let port (q : LinkPort) : Host.Outcome State Fault Refusal := .next { s with link := q }
    let noted (q : LinkPort) (e : LinkErrors) : LinkPort :=
      let all := q.errors.union e
      if all ≠ LinkErrors.none ∧ repliesSize q.replies + 12 ≤ 4096 then
        { q with errors := LinkErrors.none, replies := q.replies ++ [.errors all] }
      else { q with errors := all }
    let ended (q : LinkPort) : LinkPort :=
      if q.turn then
        { q with replies := q.replies ++ [.finish s.events.queue.length], port := .sending, turn := false }
      else { q with port := .waiting, replies := [], errors := q.errors.union (carriedErrors q.replies) }
    let marks (m : HeaderMarks) : LinkErrors := ⟨m.corrected, false, false, m.kindUnknown, m.channelBad, false, false⟩
    let listening := p.port = .waiting ∨ p.port = .receiving
    (∀ c, exec (.transmissionEnd c) s =
        match p.port with
        | .receiving =>
          match c with
          | some m => port (ended (noted p { marks m with cutShort := true }))
          | none => port (ended p)
        | .waiting =>
          match c with
          | some m => port (ended (noted p { marks m with cutShort := true }))
          | none => .next s
        | .discarding => port (ended p)
        | .awaitIdle => .next s
        | .sending => .next s)
      ∧ exec .replyComplete s =
        (if p.port = .sending then
          .next
            { s with
              link := { p with port := .waiting, replies := [], resetAll := false }
              power := { s.power with held := if p.resetAll then some .record else none } }
        else .next s)
      ∧ (∀ f, exec (.headerBad f) s =
        if listening then
          port (noted { p with port := .discarding, turn := true }
            (match f with
            | .bad => { LinkErrors.none with headerBad := true }
            | .length m => { marks m with lengthBad := true }))
        else .next s)
      ∧ (∀ corrected sum kind chan turn, exec (.recordNotExecuted (.damaged corrected sum kind chan turn)) s =
        if listening then
          port (noted { p with port := .receiving, turn := p.turn || turn }
            ⟨corrected, false, sum, kind, chan, false, false⟩)
        else .next s)
      ∧ (∀ h t, s.takes h t →
        exec (.recordNotExecuted (.unlisted h t)) s = .next (s.refusedWith h .badArgument))
      ∧ (∀ h, exec (.turn h) s =
        if listening then
          .next
            { s.heard with
              link := noted
                { p with port := .receiving, turn := true, live := true, silence := 0, lostDue := false }
                (correctedOnly h.corrected) }
        else .next s)
      ∧ exec .idleGapAtRelease s = (if p.port = .awaitIdle then port { p with port := .waiting } else .next s)

/-! ### CAL ENABLE, supply and start-up (R16, R34, R54, R55, R64, R67, R90, R91, R119, R139, R167, R183, R201, R207 to
R213) -/

/-- CAL ENABLE and the supply (R55, R64, R207, R208, R209, R210): a fall of CAL ENABLE and an entry to WARNING each end
every operation in flight; the end of WARNING calls each postponed decision; below 16 V, and at the reset line, the part
is held in reset with its cause, its update copy as the reset caught it. That a decision called so waits for its own
command (log 4), the copy caught by a reset (log 8), the cause that stands (log 15), the level carried by each command
(log 23) and CAL_ABORTED after POWER_WARNING and for lane 1 first (log 42) are the model's choices. -/
def Obligations.SupplyAndEnable : Prop :=
  (∀ s : State, exec .calEnableRise s = .next { s with power := { s.power with calEnable := true } })
    ∧ (∀ s : State, s.power.held = none →
      let ended (c : AbortCause) : Quad Deck := Quad.ofFn fun n =>
        match (s.deck n).op with
        | some op => { s.deck n with op := none, lastOutcome := some ⟨op.sub, .aborted c, s.now⟩ }
        | none => s.deck n
      let aborts (c : AbortCause) : List Event := Lane.all.filterMap fun n =>
        (s.deck n).op.map fun op => s.event .calAborted (some n) .none (.calAborted op.sub c)
      exec .calEnableFall s
          = .next (s.posted (aborts .enable)
            { s with power := { s.power with calEnable := false }, decks := ended .enable })
        ∧ (∀ mv, exec (.supplyWarningEnter mv) s = .next
            (if s.power.supply = .normal ∧ mv < s.ret.settings.warnLevel * 1000 then
              s.posted (s.event .powerWarning none .none (.warning true) :: aborts .warning)
                { s with power := { s.power with supply := .warning }, decks := ended .warning }
            else s))
        ∧ ∀ mv, exec (.supplyWarningEnd mv) s = .next
          (if s.power.supply = .warning ∧ s.ret.settings.warnLevel * 1000 + 500 < mv then
            s.posted [s.event .powerWarning none .none (.warning false)]
              { s with
                power := { s.power with supply := .normal }
                lanes := s.lanes.map fun l => { l with postponed := false } }
          else s))
    ∧ ∀ (s : State) (c : Caught),
      let copy : UpdateCopy :=
        if s.power.held = none then
          match c with
          | .empty => .empty
          | .incomplete => .incomplete
          | .complete => .complete s.ret (Config.sectionCheck s.ret)
        else s.copy
      (∀ mv, exec (.brownOutReset mv c) s = .next
          (if mv < 16000 then
            { s with power := { s.power with supply := .reset, held := some .power }, copy := copy }
          else s))
        ∧ exec (.resetLine c) s = .next
          { s with
            power := { s.power with held := some (if s.power.held = some .power then .power else .line) }
            copy := copy }

/-- START_UP (R16, R34, R54, R67, R90, R91, R119, R139, R183, R201, R207, R209 to R211): a part not held, or held below
its release, stays as it is. Otherwise the update copy is applied where it is complete and its check good; each section
whose contents do not agree with its check takes factory contents, identities and traffic together, with the
learned-entry limit raised where that is needed; every volatile item takes its reset value; lanes restart by their
closed flags and the site mode, the open visits are treated, tickets left QUEUED become FAILED, every check is formed
over what then stands, and STARTED stands first in the event queue. Damage to a check as an operand (log 7), identities
and traffic together in the reckoning (log 27), the readings of the operand's levels (log 2 and 23), a motor without a
direction at rest (log 18), the pass limit of 60 before any PASSING (log 29), the zero limit formed at once from the Max
restored (log 39), and the order of the events after STARTED, BARRIER_FAULT for lane 1 first (log 42), are the model's
choices. -/
def Obligations.StartUpRestores : Prop :=
  ∀ (s : State) (env : StartEnv),
    (s.power.held = none ∨ (s.power.supply = .reset ∧ env.supplyMv ≤ 17000) ∨ env.supplyMv < 16000 →
        exec (.startUp env) s = .next s)
      ∧ ∀ cause, s.power.held = some cause →
        (s.power.supply = .reset ∧ 17000 < env.supplyMv) ∨ (s.power.supply ≠ .reset ∧ 16000 ≤ env.supplyMv) →
        s.eachRetained Retained.VisitsAccounted →
        let applied : Option Retained :=
          match s.copy with
          | .complete c k => if k ^^^ env.damage.copy = Config.sectionCheck c then some c else none
          | .empty => none
          | .incomplete => none
        let base := applied.getD s.ret
        let checks := (applied.map fun c => c.checks).getD s.checks
        let identFails : Bool := checks.identities ^^^ env.damage.identities ≠ Config.sectionCheck base.ident
        let trafficFails : Bool := checks.traffic ^^^ env.damage.traffic ≠ Config.sectionCheck base.traffic
        let pair := identFails || trafficFails
        let failed : SectionSet :=
          { calibration := checks.calibration ^^^ env.damage.calibration ≠ Config.sectionCheck base.cal
            settings := checks.settings ^^^ env.damage.settings ≠ Config.sectionCheck base.settings
            identities := pair, traffic := pair
            tickets := checks.tickets ^^^ env.damage.tickets ≠ Config.sectionCheck base.tickets }
        let ident := if pair then factoryIdentities else base.ident
        let traffic := if pair then factoryTraffic else base.traffic
        let settings : Settings :=
          if failed.settings then
            { factorySettings with
              learnLimit := if ident.provisional ≤ 128 then 128 else 64 * ((ident.provisional + 63) / 64) }
          else base.settings
        let cal := if failed.calibration then Quad.fill factoryCal else base.cal
        let tickets := if failed.tickets then factoryTickets else base.tickets
        let unconfirmed := traffic.visits.countP fun v => v.state == .entering
        let returned (v : Visit) : Visit :=
          { v with
            state := .onSite, exit := none, exitLane := none, net := none
            flags := { v.flags with negativeNet := false, tareDeviation := false, timeUnset := v.entry.unset } }
        let slots (n : Lane) : Prop := some n ∈ settings.slotPlan.toList
        let closed (n : Lane) : Prop := (settings.lanes.get n).closed = true ∨ settings.siteMode = .closed
        let switches (n : Lane) : BarrierState :=
          match env.downSwitch.get n, env.upSwitch.get n with
          | true, true => .fault .switch
          | true, false => .down
          | false, true => .up
          | false, false => .unknown
        let low := env.supplyMv < settings.warnLevel * 1000
        let now := traffic.lastTime
        let reader : ReaderPort := ⟨[], none, 10⟩
        let loop : Loop :=
          { condition := .start, baseline := none, latest := none, learnTimer := none, recovery := 0, presence := 0
            stuck := false, stuckDue := false }
        ∃ t, exec (.startUp env) s = .next t
          ∧ t.pending = s.pending ∧ t.checks = t.ret.checks ∧ t.copy = .empty ∧ t.ret.cal = cal
          ∧ t.ret.settings =
            { settings with
              lanes := Quad.ofFn fun n => { settings.lanes.get n with closed := decide (closed n) } }
          ∧ t.ret.VisitsAccounted
          ∧ t.ret.ident.vehicles = ident.vehicles ∧ t.ret.ident.provisional = ident.provisional
          ∧ (∀ a, t.account a = { ident.accounts.get a with pending := (t.account a).pending })
          ∧ t.ret.traffic.visits = (traffic.visits.filter fun v => v.state != .heldIn).map (fun v =>
              match v.state with
              | .entering => { v with state := .onSite }
              | .heldOut => returned v
              | .overweight => returned v
              | .heldIn => v
              | .onSite => v)
          ∧ t.ret.traffic.counter = traffic.counter ∧ t.ret.traffic.accepted = traffic.accepted
          ∧ t.ret.traffic.lastTime = traffic.lastTime
          ∧ (∀ k, t.streamTotals k = { traffic.streams.get k with reserved := (t.streamTotals k).reserved })
          ∧ t.ret.tickets =
            { tickets with
              journal := tickets.journal.map fun x =>
                if x.print = .queued then { x with print := .failed, failure := some .restart } else x }
          ∧ t.acq = ⟨settings.slotPlan, 0⟩ ∧ t.readers = Quad.fill ⟨reader, reader⟩
          ∧ t.lists = Quad.fill [] ∧ t.journalOrder = []
          ∧ t.clock = { siteTime := now, unset := true, sweep := 0, sweepDue := false }
          ∧ t.loops = Quad.fill ⟨loop, loop⟩
          ∧ t.link =
            { port := .awaitIdle, turn := false, resetAll := false, errors := LinkErrors.none, replies := [], live := false
              silence := 0, lostDue := false
              bitRate := if env.strapA = env.strapB then 19200 else if env.strapB then 57600 else 115200 }
          ∧ t.printing = { queue := [], lastStatus := Vector.replicate 8 none, lastTransfer := none }
          ∧ t.power =
            { supply := if low then .warning else .normal, held := none, cause := cause, failed := failed
              copyFound := if s.copy = .empty then .empty else if applied = none then .discarded else .applied
              unconfirmed := unconfirmed, calEnable := env.calEnable }
          ∧ (∀ n,
            t.deck n =
                { noSlots := !decide (slots n), saturated := false, excitation := false, good := 0, history := []
                  reading := none, settling := ⟨.unsettled, none, 0, 0⟩, zeroMarker := false, heldLimit := none
                  occupancy := .neither
                  lastSample := none, op := none, lastOutcome := none }
              ∧ t.barrier n =
                { state := switches n, target := .down, duty := 0, direction := none, motionMs := none, blanked := false
                  obstructions := 0, ramp := (settings.lanes.get n).barrier, downSwitch := env.downSwitch.get n
                  upSwitch := env.upSwitch.get n, comparator := env.comparator.get n }
              ∧ t.lane n =
                { state :=
                    if closed n then .closed
                    else if isFault (switches n) = true ∨ ¬ slots n ∨ (cal.get n).zeroDone = false
                        ∨ (cal.get n).spanDone = false then .suspended else .idle
                  identity := none, visit := none, heldWeighing := none, postponed := false, passTimer := none
                  passLimit := 60, passDue := false, closePending := false, cycle := none, lastRefusal := none
                  lateNumber := none, heldTicket := none, flashLit := false
                  capture := ⟨none, [], false, none⟩ })
          ∧ t.events = ((⟨.started, none, now, .none, .started cause failed unconfirmed⟩ : Event)
              :: (levelsReleased (fun k => (settings.streams.get k).levels) traffic.streams
                  (traffic.visits.filter fun v => v.state == .heldIn)).map (fun (k, l, up) =>
                (⟨.streamLevel, none, now, .stream k, .level l up⟩ : Event))
              ++ (Lane.all.filterMap fun n =>
                if isFault (switches n) then
                  some (⟨.barrierFault, some n, now, .none, .barrierFault .switch⟩ : Event) else none)
              ++ if low then [(⟨.powerWarning, none, now, .none, .warning true⟩ : Event)] else []).foldl EventQueue.add
                ⟨[], false, 0⟩

/-! ### The bytes of the office link (R186 to R189, R202 to R205) -/

/-- Every record a host can send whole reads back from its own bytes as the command it is, for every operand, and its
transmission ends with it; and with any one bit of its header damaged, but bits 6 and 7 of the check byte, which are
disregarded (R187), it reads back as the same command, marked HEADER_CORRECTED. How an argument or code that names
nothing is taken is not stated here (log 10). -/
def Obligations.RecordsReadBack : Prop :=
  ∀ (i : Instr) (h : RecHead) (r : WireRecord), hostRecord i = some (h, r) → i.wf = true →
    (h.corrected = false → transmission (r.bytes (chanNumber h.chan)) (carriedMv i) = [i, .transmissionEnd none])
      ∧ (h.corrected = true → ∀ (a b c k : Byte) (rest : List Byte), r.bytes (chanNumber h.chan) = a :: b :: c :: k :: rest →
        ∀ j, j < 32 → j ≠ 6 → j ≠ 7 →
          let x : BitVec 32 := (a ++ b ++ c ++ k) ^^^ BitVec.twoPow 32 j
          transmission
              (x.extractLsb' 24 8 :: x.extractLsb' 16 8 :: x.extractLsb' 8 8 :: x.extractLsb' 0 8 :: rest) (carriedMv i)
            = [i, .transmissionEnd none])

end
end

