-- ==== Sys2Proof/Laws/State.lean ====
section
/-! SUPPORT. One lemma for each part of the state under each updater: the part it changes, and the parts it leaves. -/

namespace Sys2Proof.Machine

/-- A retained update writes the sections whole, with their checks formed over them, and leaves the copy empty (R209). -/
theorem State.retain_eq (s : State) (r : Retained) :
    s.retain r = { s with ret := r, checks := r.checks, copy := .empty } := rfl

section
variable (s : State) (r : Retained)

@[simp] theorem State.retain_ret : (s.retain r).ret = r := rfl
@[simp] theorem State.retain_acq : (s.retain r).acq = s.acq := rfl
@[simp] theorem State.retain_decks : (s.retain r).decks = s.decks := rfl
@[simp] theorem State.retain_loops : (s.retain r).loops = s.loops := rfl
@[simp] theorem State.retain_barriers : (s.retain r).barriers = s.barriers := rfl
@[simp] theorem State.retain_readers : (s.retain r).readers = s.readers := rfl
@[simp] theorem State.retain_lists : (s.retain r).lists = s.lists := rfl
@[simp] theorem State.retain_lanes : (s.retain r).lanes = s.lanes := rfl
@[simp] theorem State.retain_journalOrder : (s.retain r).journalOrder = s.journalOrder := rfl
@[simp] theorem State.retain_clock : (s.retain r).clock = s.clock := rfl
@[simp] theorem State.retain_link : (s.retain r).link = s.link := rfl
@[simp] theorem State.retain_events : (s.retain r).events = s.events := rfl
@[simp] theorem State.retain_printing : (s.retain r).printing = s.printing := rfl
@[simp] theorem State.retain_power : (s.retain r).power = s.power := rfl
@[simp] theorem State.retain_pending : (s.retain r).pending = s.pending := rfl
@[simp] theorem State.retain_checks : (s.retain r).checks = r.checks := rfl
@[simp] theorem State.retain_copy : (s.retain r).copy = .empty := rfl

end

section
variable (s : State) (n : Lane) (f : Deck → Deck)

@[simp] theorem State.modDeck_ret : (s.modDeck n f).ret = s.ret := rfl
@[simp] theorem State.modDeck_acq : (s.modDeck n f).acq = s.acq := rfl
@[simp] theorem State.modDeck_decks : (s.modDeck n f).decks = s.decks.upd n f := rfl
@[simp] theorem State.modDeck_loops : (s.modDeck n f).loops = s.loops := rfl
@[simp] theorem State.modDeck_barriers : (s.modDeck n f).barriers = s.barriers := rfl
@[simp] theorem State.modDeck_readers : (s.modDeck n f).readers = s.readers := rfl
@[simp] theorem State.modDeck_lists : (s.modDeck n f).lists = s.lists := rfl
@[simp] theorem State.modDeck_lanes : (s.modDeck n f).lanes = s.lanes := rfl
@[simp] theorem State.modDeck_journalOrder : (s.modDeck n f).journalOrder = s.journalOrder := rfl
@[simp] theorem State.modDeck_clock : (s.modDeck n f).clock = s.clock := rfl
@[simp] theorem State.modDeck_link : (s.modDeck n f).link = s.link := rfl
@[simp] theorem State.modDeck_events : (s.modDeck n f).events = s.events := rfl
@[simp] theorem State.modDeck_printing : (s.modDeck n f).printing = s.printing := rfl
@[simp] theorem State.modDeck_power : (s.modDeck n f).power = s.power := rfl
@[simp] theorem State.modDeck_pending : (s.modDeck n f).pending = s.pending := rfl
@[simp] theorem State.modDeck_checks : (s.modDeck n f).checks = s.checks := rfl
@[simp] theorem State.modDeck_copy : (s.modDeck n f).copy = s.copy := rfl

end

section
variable (s : State) (n : Lane) (f : LaneSeq → LaneSeq)

@[simp] theorem State.modLane_ret : (s.modLane n f).ret = s.ret := rfl
@[simp] theorem State.modLane_acq : (s.modLane n f).acq = s.acq := rfl
@[simp] theorem State.modLane_decks : (s.modLane n f).decks = s.decks := rfl
@[simp] theorem State.modLane_loops : (s.modLane n f).loops = s.loops := rfl
@[simp] theorem State.modLane_barriers : (s.modLane n f).barriers = s.barriers := rfl
@[simp] theorem State.modLane_readers : (s.modLane n f).readers = s.readers := rfl
@[simp] theorem State.modLane_lists : (s.modLane n f).lists = s.lists := rfl
@[simp] theorem State.modLane_lanes : (s.modLane n f).lanes = s.lanes.upd n f := rfl
@[simp] theorem State.modLane_journalOrder : (s.modLane n f).journalOrder = s.journalOrder := rfl
@[simp] theorem State.modLane_clock : (s.modLane n f).clock = s.clock := rfl
@[simp] theorem State.modLane_link : (s.modLane n f).link = s.link := rfl
@[simp] theorem State.modLane_events : (s.modLane n f).events = s.events := rfl
@[simp] theorem State.modLane_printing : (s.modLane n f).printing = s.printing := rfl
@[simp] theorem State.modLane_power : (s.modLane n f).power = s.power := rfl
@[simp] theorem State.modLane_pending : (s.modLane n f).pending = s.pending := rfl
@[simp] theorem State.modLane_checks : (s.modLane n f).checks = s.checks := rfl
@[simp] theorem State.modLane_copy : (s.modLane n f).copy = s.copy := rfl

end

section
variable (s : State) (n : Lane) (f : Barrier → Barrier)

@[simp] theorem State.modBarrier_ret : (s.modBarrier n f).ret = s.ret := rfl
@[simp] theorem State.modBarrier_acq : (s.modBarrier n f).acq = s.acq := rfl
@[simp] theorem State.modBarrier_decks : (s.modBarrier n f).decks = s.decks := rfl
@[simp] theorem State.modBarrier_loops : (s.modBarrier n f).loops = s.loops := rfl
@[simp] theorem State.modBarrier_barriers : (s.modBarrier n f).barriers = s.barriers.upd n f := rfl
@[simp] theorem State.modBarrier_readers : (s.modBarrier n f).readers = s.readers := rfl
@[simp] theorem State.modBarrier_lists : (s.modBarrier n f).lists = s.lists := rfl
@[simp] theorem State.modBarrier_lanes : (s.modBarrier n f).lanes = s.lanes := rfl
@[simp] theorem State.modBarrier_journalOrder : (s.modBarrier n f).journalOrder = s.journalOrder := rfl
@[simp] theorem State.modBarrier_clock : (s.modBarrier n f).clock = s.clock := rfl
@[simp] theorem State.modBarrier_link : (s.modBarrier n f).link = s.link := rfl
@[simp] theorem State.modBarrier_events : (s.modBarrier n f).events = s.events := rfl
@[simp] theorem State.modBarrier_printing : (s.modBarrier n f).printing = s.printing := rfl
@[simp] theorem State.modBarrier_power : (s.modBarrier n f).power = s.power := rfl
@[simp] theorem State.modBarrier_pending : (s.modBarrier n f).pending = s.pending := rfl
@[simp] theorem State.modBarrier_checks : (s.modBarrier n f).checks = s.checks := rfl
@[simp] theorem State.modBarrier_copy : (s.modBarrier n f).copy = s.copy := rfl

end

section
variable (s : State) (n : Lane) (f : LoopPair → LoopPair)

@[simp] theorem State.modLoops_ret : (s.modLoops n f).ret = s.ret := rfl
@[simp] theorem State.modLoops_acq : (s.modLoops n f).acq = s.acq := rfl
@[simp] theorem State.modLoops_decks : (s.modLoops n f).decks = s.decks := rfl
@[simp] theorem State.modLoops_loops : (s.modLoops n f).loops = s.loops.upd n f := rfl
@[simp] theorem State.modLoops_barriers : (s.modLoops n f).barriers = s.barriers := rfl
@[simp] theorem State.modLoops_readers : (s.modLoops n f).readers = s.readers := rfl
@[simp] theorem State.modLoops_lists : (s.modLoops n f).lists = s.lists := rfl
@[simp] theorem State.modLoops_lanes : (s.modLoops n f).lanes = s.lanes := rfl
@[simp] theorem State.modLoops_journalOrder : (s.modLoops n f).journalOrder = s.journalOrder := rfl
@[simp] theorem State.modLoops_clock : (s.modLoops n f).clock = s.clock := rfl
@[simp] theorem State.modLoops_link : (s.modLoops n f).link = s.link := rfl
@[simp] theorem State.modLoops_events : (s.modLoops n f).events = s.events := rfl
@[simp] theorem State.modLoops_printing : (s.modLoops n f).printing = s.printing := rfl
@[simp] theorem State.modLoops_power : (s.modLoops n f).power = s.power := rfl
@[simp] theorem State.modLoops_pending : (s.modLoops n f).pending = s.pending := rfl
@[simp] theorem State.modLoops_checks : (s.modLoops n f).checks = s.checks := rfl
@[simp] theorem State.modLoops_copy : (s.modLoops n f).copy = s.copy := rfl

end

section
variable (s : State) (n : Lane) (f : ReaderPair → ReaderPair)

@[simp] theorem State.modReaders_ret : (s.modReaders n f).ret = s.ret := rfl
@[simp] theorem State.modReaders_acq : (s.modReaders n f).acq = s.acq := rfl
@[simp] theorem State.modReaders_decks : (s.modReaders n f).decks = s.decks := rfl
@[simp] theorem State.modReaders_loops : (s.modReaders n f).loops = s.loops := rfl
@[simp] theorem State.modReaders_barriers : (s.modReaders n f).barriers = s.barriers := rfl
@[simp] theorem State.modReaders_readers : (s.modReaders n f).readers = s.readers.upd n f := rfl
@[simp] theorem State.modReaders_lists : (s.modReaders n f).lists = s.lists := rfl
@[simp] theorem State.modReaders_lanes : (s.modReaders n f).lanes = s.lanes := rfl
@[simp] theorem State.modReaders_journalOrder : (s.modReaders n f).journalOrder = s.journalOrder := rfl
@[simp] theorem State.modReaders_clock : (s.modReaders n f).clock = s.clock := rfl
@[simp] theorem State.modReaders_link : (s.modReaders n f).link = s.link := rfl
@[simp] theorem State.modReaders_events : (s.modReaders n f).events = s.events := rfl
@[simp] theorem State.modReaders_printing : (s.modReaders n f).printing = s.printing := rfl
@[simp] theorem State.modReaders_power : (s.modReaders n f).power = s.power := rfl
@[simp] theorem State.modReaders_pending : (s.modReaders n f).pending = s.pending := rfl
@[simp] theorem State.modReaders_checks : (s.modReaders n f).checks = s.checks := rfl
@[simp] theorem State.modReaders_copy : (s.modReaders n f).copy = s.copy := rfl

end

section
variable (s : State) (n : Lane) (f : List WaitEntry → List WaitEntry)

@[simp] theorem State.modList_ret : (s.modList n f).ret = s.ret := rfl
@[simp] theorem State.modList_acq : (s.modList n f).acq = s.acq := rfl
@[simp] theorem State.modList_decks : (s.modList n f).decks = s.decks := rfl
@[simp] theorem State.modList_loops : (s.modList n f).loops = s.loops := rfl
@[simp] theorem State.modList_barriers : (s.modList n f).barriers = s.barriers := rfl
@[simp] theorem State.modList_readers : (s.modList n f).readers = s.readers := rfl
@[simp] theorem State.modList_lists : (s.modList n f).lists = s.lists.upd n f := rfl
@[simp] theorem State.modList_lanes : (s.modList n f).lanes = s.lanes := rfl
@[simp] theorem State.modList_journalOrder : (s.modList n f).journalOrder = s.journalOrder := rfl
@[simp] theorem State.modList_clock : (s.modList n f).clock = s.clock := rfl
@[simp] theorem State.modList_link : (s.modList n f).link = s.link := rfl
@[simp] theorem State.modList_events : (s.modList n f).events = s.events := rfl
@[simp] theorem State.modList_printing : (s.modList n f).printing = s.printing := rfl
@[simp] theorem State.modList_power : (s.modList n f).power = s.power := rfl
@[simp] theorem State.modList_pending : (s.modList n f).pending = s.pending := rfl
@[simp] theorem State.modList_checks : (s.modList n f).checks = s.checks := rfl
@[simp] theorem State.modList_copy : (s.modList n f).copy = s.copy := rfl

end

section
variable (s : State) (n : Lane) (f : DeckCal → DeckCal)

@[simp] theorem State.modCal_acq : (s.modCal n f).acq = s.acq := rfl
@[simp] theorem State.modCal_decks : (s.modCal n f).decks = s.decks := rfl
@[simp] theorem State.modCal_loops : (s.modCal n f).loops = s.loops := rfl
@[simp] theorem State.modCal_barriers : (s.modCal n f).barriers = s.barriers := rfl
@[simp] theorem State.modCal_readers : (s.modCal n f).readers = s.readers := rfl
@[simp] theorem State.modCal_lists : (s.modCal n f).lists = s.lists := rfl
@[simp] theorem State.modCal_lanes : (s.modCal n f).lanes = s.lanes := rfl
@[simp] theorem State.modCal_journalOrder : (s.modCal n f).journalOrder = s.journalOrder := rfl
@[simp] theorem State.modCal_clock : (s.modCal n f).clock = s.clock := rfl
@[simp] theorem State.modCal_link : (s.modCal n f).link = s.link := rfl
@[simp] theorem State.modCal_events : (s.modCal n f).events = s.events := rfl
@[simp] theorem State.modCal_printing : (s.modCal n f).printing = s.printing := rfl
@[simp] theorem State.modCal_power : (s.modCal n f).power = s.power := rfl
@[simp] theorem State.modCal_pending : (s.modCal n f).pending = s.pending := rfl
@[simp] theorem State.modCal_checks : (s.modCal n f).checks = (s.modCal n f).ret.checks := rfl
@[simp] theorem State.modCal_copy : (s.modCal n f).copy = .empty := rfl
@[simp] theorem State.modCal_cal : (s.modCal n f).ret.cal = s.ret.cal.upd n f := rfl
@[simp] theorem State.modCal_settings : (s.modCal n f).ret.settings = s.ret.settings := rfl
@[simp] theorem State.modCal_ident : (s.modCal n f).ret.ident = s.ret.ident := rfl
@[simp] theorem State.modCal_traffic : (s.modCal n f).ret.traffic = s.ret.traffic := rfl
@[simp] theorem State.modCal_tickets : (s.modCal n f).ret.tickets = s.ret.tickets := rfl

end

section
variable (s : State) (f : Settings → Settings)

@[simp] theorem State.modSettings_acq : (s.modSettings f).acq = s.acq := rfl
@[simp] theorem State.modSettings_decks : (s.modSettings f).decks = s.decks := rfl
@[simp] theorem State.modSettings_loops : (s.modSettings f).loops = s.loops := rfl
@[simp] theorem State.modSettings_barriers : (s.modSettings f).barriers = s.barriers := rfl
@[simp] theorem State.modSettings_readers : (s.modSettings f).readers = s.readers := rfl
@[simp] theorem State.modSettings_lists : (s.modSettings f).lists = s.lists := rfl
@[simp] theorem State.modSettings_lanes : (s.modSettings f).lanes = s.lanes := rfl
@[simp] theorem State.modSettings_journalOrder : (s.modSettings f).journalOrder = s.journalOrder := rfl
@[simp] theorem State.modSettings_clock : (s.modSettings f).clock = s.clock := rfl
@[simp] theorem State.modSettings_link : (s.modSettings f).link = s.link := rfl
@[simp] theorem State.modSettings_events : (s.modSettings f).events = s.events := rfl
@[simp] theorem State.modSettings_printing : (s.modSettings f).printing = s.printing := rfl
@[simp] theorem State.modSettings_power : (s.modSettings f).power = s.power := rfl
@[simp] theorem State.modSettings_pending : (s.modSettings f).pending = s.pending := rfl
@[simp] theorem State.modSettings_checks : (s.modSettings f).checks = (s.modSettings f).ret.checks := rfl
@[simp] theorem State.modSettings_copy : (s.modSettings f).copy = .empty := rfl
@[simp] theorem State.modSettings_cal : (s.modSettings f).ret.cal = s.ret.cal := rfl
@[simp] theorem State.modSettings_settings : (s.modSettings f).ret.settings = f s.ret.settings := rfl
@[simp] theorem State.modSettings_ident : (s.modSettings f).ret.ident = s.ret.ident := rfl
@[simp] theorem State.modSettings_traffic : (s.modSettings f).ret.traffic = s.ret.traffic := rfl
@[simp] theorem State.modSettings_tickets : (s.modSettings f).ret.tickets = s.ret.tickets := rfl

end

section
variable (s : State) (f : Identities → Identities)

@[simp] theorem State.modIdent_acq : (s.modIdent f).acq = s.acq := rfl
@[simp] theorem State.modIdent_decks : (s.modIdent f).decks = s.decks := rfl
@[simp] theorem State.modIdent_loops : (s.modIdent f).loops = s.loops := rfl
@[simp] theorem State.modIdent_barriers : (s.modIdent f).barriers = s.barriers := rfl
@[simp] theorem State.modIdent_readers : (s.modIdent f).readers = s.readers := rfl
@[simp] theorem State.modIdent_lists : (s.modIdent f).lists = s.lists := rfl
@[simp] theorem State.modIdent_lanes : (s.modIdent f).lanes = s.lanes := rfl
@[simp] theorem State.modIdent_journalOrder : (s.modIdent f).journalOrder = s.journalOrder := rfl
@[simp] theorem State.modIdent_clock : (s.modIdent f).clock = s.clock := rfl
@[simp] theorem State.modIdent_link : (s.modIdent f).link = s.link := rfl
@[simp] theorem State.modIdent_events : (s.modIdent f).events = s.events := rfl
@[simp] theorem State.modIdent_printing : (s.modIdent f).printing = s.printing := rfl
@[simp] theorem State.modIdent_power : (s.modIdent f).power = s.power := rfl
@[simp] theorem State.modIdent_pending : (s.modIdent f).pending = s.pending := rfl
@[simp] theorem State.modIdent_checks : (s.modIdent f).checks = (s.modIdent f).ret.checks := rfl
@[simp] theorem State.modIdent_copy : (s.modIdent f).copy = .empty := rfl
@[simp] theorem State.modIdent_cal : (s.modIdent f).ret.cal = s.ret.cal := rfl
@[simp] theorem State.modIdent_settings : (s.modIdent f).ret.settings = s.ret.settings := rfl
@[simp] theorem State.modIdent_ident : (s.modIdent f).ret.ident = f s.ret.ident := rfl
@[simp] theorem State.modIdent_traffic : (s.modIdent f).ret.traffic = s.ret.traffic := rfl
@[simp] theorem State.modIdent_tickets : (s.modIdent f).ret.tickets = s.ret.tickets := rfl

end

section
variable (s : State) (f : Traffic → Traffic)

@[simp] theorem State.modTraffic_acq : (s.modTraffic f).acq = s.acq := rfl
@[simp] theorem State.modTraffic_decks : (s.modTraffic f).decks = s.decks := rfl
@[simp] theorem State.modTraffic_loops : (s.modTraffic f).loops = s.loops := rfl
@[simp] theorem State.modTraffic_barriers : (s.modTraffic f).barriers = s.barriers := rfl
@[simp] theorem State.modTraffic_readers : (s.modTraffic f).readers = s.readers := rfl
@[simp] theorem State.modTraffic_lists : (s.modTraffic f).lists = s.lists := rfl
@[simp] theorem State.modTraffic_lanes : (s.modTraffic f).lanes = s.lanes := rfl
@[simp] theorem State.modTraffic_journalOrder : (s.modTraffic f).journalOrder = s.journalOrder := rfl
@[simp] theorem State.modTraffic_clock : (s.modTraffic f).clock = s.clock := rfl
@[simp] theorem State.modTraffic_link : (s.modTraffic f).link = s.link := rfl
@[simp] theorem State.modTraffic_events : (s.modTraffic f).events = s.events := rfl
@[simp] theorem State.modTraffic_printing : (s.modTraffic f).printing = s.printing := rfl
@[simp] theorem State.modTraffic_power : (s.modTraffic f).power = s.power := rfl
@[simp] theorem State.modTraffic_pending : (s.modTraffic f).pending = s.pending := rfl
@[simp] theorem State.modTraffic_checks : (s.modTraffic f).checks = (s.modTraffic f).ret.checks := rfl
@[simp] theorem State.modTraffic_copy : (s.modTraffic f).copy = .empty := rfl
@[simp] theorem State.modTraffic_cal : (s.modTraffic f).ret.cal = s.ret.cal := rfl
@[simp] theorem State.modTraffic_settings : (s.modTraffic f).ret.settings = s.ret.settings := rfl
@[simp] theorem State.modTraffic_ident : (s.modTraffic f).ret.ident = s.ret.ident := rfl
@[simp] theorem State.modTraffic_traffic : (s.modTraffic f).ret.traffic = f s.ret.traffic := rfl
@[simp] theorem State.modTraffic_tickets : (s.modTraffic f).ret.tickets = s.ret.tickets := rfl

end

section
variable (s : State) (f : TicketSection → TicketSection)

@[simp] theorem State.modTickets_acq : (s.modTickets f).acq = s.acq := rfl
@[simp] theorem State.modTickets_decks : (s.modTickets f).decks = s.decks := rfl
@[simp] theorem State.modTickets_loops : (s.modTickets f).loops = s.loops := rfl
@[simp] theorem State.modTickets_barriers : (s.modTickets f).barriers = s.barriers := rfl
@[simp] theorem State.modTickets_readers : (s.modTickets f).readers = s.readers := rfl
@[simp] theorem State.modTickets_lists : (s.modTickets f).lists = s.lists := rfl
@[simp] theorem State.modTickets_lanes : (s.modTickets f).lanes = s.lanes := rfl
@[simp] theorem State.modTickets_journalOrder : (s.modTickets f).journalOrder = s.journalOrder := rfl
@[simp] theorem State.modTickets_clock : (s.modTickets f).clock = s.clock := rfl
@[simp] theorem State.modTickets_link : (s.modTickets f).link = s.link := rfl
@[simp] theorem State.modTickets_events : (s.modTickets f).events = s.events := rfl
@[simp] theorem State.modTickets_printing : (s.modTickets f).printing = s.printing := rfl
@[simp] theorem State.modTickets_power : (s.modTickets f).power = s.power := rfl
@[simp] theorem State.modTickets_pending : (s.modTickets f).pending = s.pending := rfl
@[simp] theorem State.modTickets_checks : (s.modTickets f).checks = (s.modTickets f).ret.checks := rfl
@[simp] theorem State.modTickets_copy : (s.modTickets f).copy = .empty := rfl
@[simp] theorem State.modTickets_cal : (s.modTickets f).ret.cal = s.ret.cal := rfl
@[simp] theorem State.modTickets_settings : (s.modTickets f).ret.settings = s.ret.settings := rfl
@[simp] theorem State.modTickets_ident : (s.modTickets f).ret.ident = s.ret.ident := rfl
@[simp] theorem State.modTickets_traffic : (s.modTickets f).ret.traffic = s.ret.traffic := rfl
@[simp] theorem State.modTickets_tickets : (s.modTickets f).ret.tickets = f s.ret.tickets := rfl

end

section
variable (s : State) (f : LinkPort → LinkPort)

@[simp] theorem State.modLink_ret : (s.modLink f).ret = s.ret := rfl
@[simp] theorem State.modLink_acq : (s.modLink f).acq = s.acq := rfl
@[simp] theorem State.modLink_decks : (s.modLink f).decks = s.decks := rfl
@[simp] theorem State.modLink_loops : (s.modLink f).loops = s.loops := rfl
@[simp] theorem State.modLink_barriers : (s.modLink f).barriers = s.barriers := rfl
@[simp] theorem State.modLink_readers : (s.modLink f).readers = s.readers := rfl
@[simp] theorem State.modLink_lists : (s.modLink f).lists = s.lists := rfl
@[simp] theorem State.modLink_lanes : (s.modLink f).lanes = s.lanes := rfl
@[simp] theorem State.modLink_journalOrder : (s.modLink f).journalOrder = s.journalOrder := rfl
@[simp] theorem State.modLink_clock : (s.modLink f).clock = s.clock := rfl
@[simp] theorem State.modLink_link : (s.modLink f).link = f s.link := rfl
@[simp] theorem State.modLink_events : (s.modLink f).events = s.events := rfl
@[simp] theorem State.modLink_printing : (s.modLink f).printing = s.printing := rfl
@[simp] theorem State.modLink_power : (s.modLink f).power = s.power := rfl
@[simp] theorem State.modLink_pending : (s.modLink f).pending = s.pending := rfl
@[simp] theorem State.modLink_checks : (s.modLink f).checks = s.checks := rfl
@[simp] theorem State.modLink_copy : (s.modLink f).copy = s.copy := rfl

end

section
variable (s : State) (f : Clock → Clock)

@[simp] theorem State.modClock_ret : (s.modClock f).ret = s.ret := rfl
@[simp] theorem State.modClock_acq : (s.modClock f).acq = s.acq := rfl
@[simp] theorem State.modClock_decks : (s.modClock f).decks = s.decks := rfl
@[simp] theorem State.modClock_loops : (s.modClock f).loops = s.loops := rfl
@[simp] theorem State.modClock_barriers : (s.modClock f).barriers = s.barriers := rfl
@[simp] theorem State.modClock_readers : (s.modClock f).readers = s.readers := rfl
@[simp] theorem State.modClock_lists : (s.modClock f).lists = s.lists := rfl
@[simp] theorem State.modClock_lanes : (s.modClock f).lanes = s.lanes := rfl
@[simp] theorem State.modClock_journalOrder : (s.modClock f).journalOrder = s.journalOrder := rfl
@[simp] theorem State.modClock_clock : (s.modClock f).clock = f s.clock := rfl
@[simp] theorem State.modClock_link : (s.modClock f).link = s.link := rfl
@[simp] theorem State.modClock_events : (s.modClock f).events = s.events := rfl
@[simp] theorem State.modClock_printing : (s.modClock f).printing = s.printing := rfl
@[simp] theorem State.modClock_power : (s.modClock f).power = s.power := rfl
@[simp] theorem State.modClock_pending : (s.modClock f).pending = s.pending := rfl
@[simp] theorem State.modClock_checks : (s.modClock f).checks = s.checks := rfl
@[simp] theorem State.modClock_copy : (s.modClock f).copy = s.copy := rfl

end

section
variable (s : State) (f : Power → Power)

@[simp] theorem State.modPower_ret : (s.modPower f).ret = s.ret := rfl
@[simp] theorem State.modPower_acq : (s.modPower f).acq = s.acq := rfl
@[simp] theorem State.modPower_decks : (s.modPower f).decks = s.decks := rfl
@[simp] theorem State.modPower_loops : (s.modPower f).loops = s.loops := rfl
@[simp] theorem State.modPower_barriers : (s.modPower f).barriers = s.barriers := rfl
@[simp] theorem State.modPower_readers : (s.modPower f).readers = s.readers := rfl
@[simp] theorem State.modPower_lists : (s.modPower f).lists = s.lists := rfl
@[simp] theorem State.modPower_lanes : (s.modPower f).lanes = s.lanes := rfl
@[simp] theorem State.modPower_journalOrder : (s.modPower f).journalOrder = s.journalOrder := rfl
@[simp] theorem State.modPower_clock : (s.modPower f).clock = s.clock := rfl
@[simp] theorem State.modPower_link : (s.modPower f).link = s.link := rfl
@[simp] theorem State.modPower_events : (s.modPower f).events = s.events := rfl
@[simp] theorem State.modPower_printing : (s.modPower f).printing = s.printing := rfl
@[simp] theorem State.modPower_power : (s.modPower f).power = f s.power := rfl
@[simp] theorem State.modPower_pending : (s.modPower f).pending = s.pending := rfl
@[simp] theorem State.modPower_checks : (s.modPower f).checks = s.checks := rfl
@[simp] theorem State.modPower_copy : (s.modPower f).copy = s.copy := rfl

end

section
variable (s : State) (f : Printing → Printing)

@[simp] theorem State.modPrinting_ret : (s.modPrinting f).ret = s.ret := rfl
@[simp] theorem State.modPrinting_acq : (s.modPrinting f).acq = s.acq := rfl
@[simp] theorem State.modPrinting_decks : (s.modPrinting f).decks = s.decks := rfl
@[simp] theorem State.modPrinting_loops : (s.modPrinting f).loops = s.loops := rfl
@[simp] theorem State.modPrinting_barriers : (s.modPrinting f).barriers = s.barriers := rfl
@[simp] theorem State.modPrinting_readers : (s.modPrinting f).readers = s.readers := rfl
@[simp] theorem State.modPrinting_lists : (s.modPrinting f).lists = s.lists := rfl
@[simp] theorem State.modPrinting_lanes : (s.modPrinting f).lanes = s.lanes := rfl
@[simp] theorem State.modPrinting_journalOrder : (s.modPrinting f).journalOrder = s.journalOrder := rfl
@[simp] theorem State.modPrinting_clock : (s.modPrinting f).clock = s.clock := rfl
@[simp] theorem State.modPrinting_link : (s.modPrinting f).link = s.link := rfl
@[simp] theorem State.modPrinting_events : (s.modPrinting f).events = s.events := rfl
@[simp] theorem State.modPrinting_printing : (s.modPrinting f).printing = f s.printing := rfl
@[simp] theorem State.modPrinting_power : (s.modPrinting f).power = s.power := rfl
@[simp] theorem State.modPrinting_pending : (s.modPrinting f).pending = s.pending := rfl
@[simp] theorem State.modPrinting_checks : (s.modPrinting f).checks = s.checks := rfl
@[simp] theorem State.modPrinting_copy : (s.modPrinting f).copy = s.copy := rfl

end

section
variable (s : State) (f : Acquisition → Acquisition)

@[simp] theorem State.modAcq_ret : (s.modAcq f).ret = s.ret := rfl
@[simp] theorem State.modAcq_acq : (s.modAcq f).acq = f s.acq := rfl
@[simp] theorem State.modAcq_decks : (s.modAcq f).decks = s.decks := rfl
@[simp] theorem State.modAcq_loops : (s.modAcq f).loops = s.loops := rfl
@[simp] theorem State.modAcq_barriers : (s.modAcq f).barriers = s.barriers := rfl
@[simp] theorem State.modAcq_readers : (s.modAcq f).readers = s.readers := rfl
@[simp] theorem State.modAcq_lists : (s.modAcq f).lists = s.lists := rfl
@[simp] theorem State.modAcq_lanes : (s.modAcq f).lanes = s.lanes := rfl
@[simp] theorem State.modAcq_journalOrder : (s.modAcq f).journalOrder = s.journalOrder := rfl
@[simp] theorem State.modAcq_clock : (s.modAcq f).clock = s.clock := rfl
@[simp] theorem State.modAcq_link : (s.modAcq f).link = s.link := rfl
@[simp] theorem State.modAcq_events : (s.modAcq f).events = s.events := rfl
@[simp] theorem State.modAcq_printing : (s.modAcq f).printing = s.printing := rfl
@[simp] theorem State.modAcq_power : (s.modAcq f).power = s.power := rfl
@[simp] theorem State.modAcq_pending : (s.modAcq f).pending = s.pending := rfl
@[simp] theorem State.modAcq_checks : (s.modAcq f).checks = s.checks := rfl
@[simp] theorem State.modAcq_copy : (s.modAcq f).copy = s.copy := rfl

end

section
variable (s : State) (k : EventKind) (l : Option Lane) (x : Subject) (d : Detail)

@[simp] theorem State.post_ret : (s.post k l x d).ret = s.ret := rfl
@[simp] theorem State.post_acq : (s.post k l x d).acq = s.acq := rfl
@[simp] theorem State.post_decks : (s.post k l x d).decks = s.decks := rfl
@[simp] theorem State.post_loops : (s.post k l x d).loops = s.loops := rfl
@[simp] theorem State.post_barriers : (s.post k l x d).barriers = s.barriers := rfl
@[simp] theorem State.post_readers : (s.post k l x d).readers = s.readers := rfl
@[simp] theorem State.post_lists : (s.post k l x d).lists = s.lists := rfl
@[simp] theorem State.post_lanes : (s.post k l x d).lanes = s.lanes := rfl
@[simp] theorem State.post_journalOrder : (s.post k l x d).journalOrder = s.journalOrder := rfl
@[simp] theorem State.post_clock : (s.post k l x d).clock = s.clock := rfl
@[simp] theorem State.post_link : (s.post k l x d).link = s.link := rfl
@[simp] theorem State.post_printing : (s.post k l x d).printing = s.printing := rfl
@[simp] theorem State.post_power : (s.post k l x d).power = s.power := rfl
@[simp] theorem State.post_pending : (s.post k l x d).pending = s.pending := rfl
@[simp] theorem State.post_checks : (s.post k l x d).checks = s.checks := rfl
@[simp] theorem State.post_copy : (s.post k l x d).copy = s.copy := rfl

end

section
variable (s : State) (n : Lane) (f : LaneSettings → LaneSettings)

@[simp] theorem State.modLaneSettings_acq : (s.modLaneSettings n f).acq = s.acq := rfl
@[simp] theorem State.modLaneSettings_decks : (s.modLaneSettings n f).decks = s.decks := rfl
@[simp] theorem State.modLaneSettings_loops : (s.modLaneSettings n f).loops = s.loops := rfl
@[simp] theorem State.modLaneSettings_barriers : (s.modLaneSettings n f).barriers = s.barriers := rfl
@[simp] theorem State.modLaneSettings_readers : (s.modLaneSettings n f).readers = s.readers := rfl
@[simp] theorem State.modLaneSettings_lists : (s.modLaneSettings n f).lists = s.lists := rfl
@[simp] theorem State.modLaneSettings_lanes : (s.modLaneSettings n f).lanes = s.lanes := rfl
@[simp] theorem State.modLaneSettings_journalOrder : (s.modLaneSettings n f).journalOrder = s.journalOrder := rfl
@[simp] theorem State.modLaneSettings_clock : (s.modLaneSettings n f).clock = s.clock := rfl
@[simp] theorem State.modLaneSettings_link : (s.modLaneSettings n f).link = s.link := rfl
@[simp] theorem State.modLaneSettings_events : (s.modLaneSettings n f).events = s.events := rfl
@[simp] theorem State.modLaneSettings_printing : (s.modLaneSettings n f).printing = s.printing := rfl
@[simp] theorem State.modLaneSettings_power : (s.modLaneSettings n f).power = s.power := rfl
@[simp] theorem State.modLaneSettings_pending : (s.modLaneSettings n f).pending = s.pending := rfl
@[simp] theorem State.modLaneSettings_checks : (s.modLaneSettings n f).checks = (s.modLaneSettings n f).ret.checks := rfl
@[simp] theorem State.modLaneSettings_copy : (s.modLaneSettings n f).copy = .empty := rfl
@[simp] theorem State.modLaneSettings_cal : (s.modLaneSettings n f).ret.cal = s.ret.cal := rfl
@[simp] theorem State.modLaneSettings_settings : (s.modLaneSettings n f).ret.settings =
    { s.ret.settings with lanes := s.ret.settings.lanes.upd n f } := rfl
@[simp] theorem State.modLaneSettings_ident : (s.modLaneSettings n f).ret.ident = s.ret.ident := rfl
@[simp] theorem State.modLaneSettings_traffic : (s.modLaneSettings n f).ret.traffic = s.ret.traffic := rfl
@[simp] theorem State.modLaneSettings_tickets : (s.modLaneSettings n f).ret.tickets = s.ret.tickets := rfl

end

section
variable (s : State) (n : Lane) (f : DeckSettings → DeckSettings)

@[simp] theorem State.modDeckSettings_acq : (s.modDeckSettings n f).acq = s.acq := rfl
@[simp] theorem State.modDeckSettings_decks : (s.modDeckSettings n f).decks = s.decks := rfl
@[simp] theorem State.modDeckSettings_loops : (s.modDeckSettings n f).loops = s.loops := rfl
@[simp] theorem State.modDeckSettings_barriers : (s.modDeckSettings n f).barriers = s.barriers := rfl
@[simp] theorem State.modDeckSettings_readers : (s.modDeckSettings n f).readers = s.readers := rfl
@[simp] theorem State.modDeckSettings_lists : (s.modDeckSettings n f).lists = s.lists := rfl
@[simp] theorem State.modDeckSettings_lanes : (s.modDeckSettings n f).lanes = s.lanes := rfl
@[simp] theorem State.modDeckSettings_journalOrder : (s.modDeckSettings n f).journalOrder = s.journalOrder := rfl
@[simp] theorem State.modDeckSettings_clock : (s.modDeckSettings n f).clock = s.clock := rfl
@[simp] theorem State.modDeckSettings_link : (s.modDeckSettings n f).link = s.link := rfl
@[simp] theorem State.modDeckSettings_events : (s.modDeckSettings n f).events = s.events := rfl
@[simp] theorem State.modDeckSettings_printing : (s.modDeckSettings n f).printing = s.printing := rfl
@[simp] theorem State.modDeckSettings_power : (s.modDeckSettings n f).power = s.power := rfl
@[simp] theorem State.modDeckSettings_pending : (s.modDeckSettings n f).pending = s.pending := rfl
@[simp] theorem State.modDeckSettings_checks : (s.modDeckSettings n f).checks = (s.modDeckSettings n f).ret.checks := rfl
@[simp] theorem State.modDeckSettings_copy : (s.modDeckSettings n f).copy = .empty := rfl
@[simp] theorem State.modDeckSettings_cal : (s.modDeckSettings n f).ret.cal = s.ret.cal := rfl
@[simp] theorem State.modDeckSettings_settings : (s.modDeckSettings n f).ret.settings =
    { s.ret.settings with decks := s.ret.settings.decks.upd n f } := rfl
@[simp] theorem State.modDeckSettings_ident : (s.modDeckSettings n f).ret.ident = s.ret.ident := rfl
@[simp] theorem State.modDeckSettings_traffic : (s.modDeckSettings n f).ret.traffic = s.ret.traffic := rfl
@[simp] theorem State.modDeckSettings_tickets : (s.modDeckSettings n f).ret.tickets = s.ret.tickets := rfl

end

/-! ### Views of one lane under the updaters of that kind -/

@[simp] theorem State.modDeck_deck (s : State) (n m : Lane) (f : Deck → Deck) :
    (s.modDeck n f).deck m = if m = n then f (s.deck m) else s.deck m := Quad.get_upd s.decks n m f
@[simp] theorem State.modLane_lane (s : State) (n m : Lane) (f : LaneSeq → LaneSeq) :
    (s.modLane n f).lane m = if m = n then f (s.lane m) else s.lane m := Quad.get_upd s.lanes n m f
@[simp] theorem State.modBarrier_barrier (s : State) (n m : Lane) (f : Barrier → Barrier) :
    (s.modBarrier n f).barrier m = if m = n then f (s.barrier m) else s.barrier m := Quad.get_upd s.barriers n m f
@[simp] theorem State.modList_list (s : State) (n m : Lane) (f : List WaitEntry → List WaitEntry) :
    (s.modList n f).list m = if m = n then f (s.list m) else s.list m := Quad.get_upd s.lists n m f
@[simp] theorem State.modCal_cal' (s : State) (n m : Lane) (f : DeckCal → DeckCal) :
    (s.modCal n f).cal m = if m = n then f (s.cal m) else s.cal m := Quad.get_upd s.ret.cal n m f
@[simp] theorem State.modLaneSettings_laneSettings (s : State) (n m : Lane) (f : LaneSettings → LaneSettings) :
    (s.modLaneSettings n f).laneSettings m = if m = n then f (s.laneSettings m) else s.laneSettings m :=
  Quad.get_upd s.ret.settings.lanes n m f

@[simp] theorem State.modDeck_lane_view (s : State) (n : Lane) (f : Deck → Deck) (m : Lane) :
    (s.modDeck n f).lane m = s.lane m := rfl
@[simp] theorem State.modDeck_barrier_view (s : State) (n : Lane) (f : Deck → Deck) (m : Lane) :
    (s.modDeck n f).barrier m = s.barrier m := rfl
@[simp] theorem State.modDeck_list_view (s : State) (n : Lane) (f : Deck → Deck) (m : Lane) :
    (s.modDeck n f).list m = s.list m := rfl
@[simp] theorem State.modDeck_cal_view (s : State) (n : Lane) (f : Deck → Deck) (m : Lane) :
    (s.modDeck n f).cal m = s.cal m := rfl
@[simp] theorem State.modDeck_laneSettings_view (s : State) (n : Lane) (f : Deck → Deck) (m : Lane) :
    (s.modDeck n f).laneSettings m = s.laneSettings m := rfl
@[simp] theorem State.modDeck_deckSettings_view (s : State) (n : Lane) (f : Deck → Deck) (m : Lane) :
    (s.modDeck n f).deckSettings m = s.deckSettings m := rfl
@[simp] theorem State.modDeck_now_view (s : State) (n : Lane) (f : Deck → Deck) :
    (s.modDeck n f).now = s.now := rfl

@[simp] theorem State.modLane_deck_view (s : State) (n : Lane) (f : LaneSeq → LaneSeq) (m : Lane) :
    (s.modLane n f).deck m = s.deck m := rfl
@[simp] theorem State.modLane_barrier_view (s : State) (n : Lane) (f : LaneSeq → LaneSeq) (m : Lane) :
    (s.modLane n f).barrier m = s.barrier m := rfl
@[simp] theorem State.modLane_list_view (s : State) (n : Lane) (f : LaneSeq → LaneSeq) (m : Lane) :
    (s.modLane n f).list m = s.list m := rfl
@[simp] theorem State.modLane_cal_view (s : State) (n : Lane) (f : LaneSeq → LaneSeq) (m : Lane) :
    (s.modLane n f).cal m = s.cal m := rfl
@[simp] theorem State.modLane_laneSettings_view (s : State) (n : Lane) (f : LaneSeq → LaneSeq) (m : Lane) :
    (s.modLane n f).laneSettings m = s.laneSettings m := rfl
@[simp] theorem State.modLane_deckSettings_view (s : State) (n : Lane) (f : LaneSeq → LaneSeq) (m : Lane) :
    (s.modLane n f).deckSettings m = s.deckSettings m := rfl
@[simp] theorem State.modLane_now_view (s : State) (n : Lane) (f : LaneSeq → LaneSeq) :
    (s.modLane n f).now = s.now := rfl
@[simp] theorem State.modLane_reasons_view (s : State) (n : Lane) (f : LaneSeq → LaneSeq) (m : Lane) :
    (s.modLane n f).reasons m = s.reasons m := rfl

@[simp] theorem State.modBarrier_deck_view (s : State) (n : Lane) (f : Barrier → Barrier) (m : Lane) :
    (s.modBarrier n f).deck m = s.deck m := rfl
@[simp] theorem State.modBarrier_lane_view (s : State) (n : Lane) (f : Barrier → Barrier) (m : Lane) :
    (s.modBarrier n f).lane m = s.lane m := rfl
@[simp] theorem State.modBarrier_list_view (s : State) (n : Lane) (f : Barrier → Barrier) (m : Lane) :
    (s.modBarrier n f).list m = s.list m := rfl
@[simp] theorem State.modBarrier_cal_view (s : State) (n : Lane) (f : Barrier → Barrier) (m : Lane) :
    (s.modBarrier n f).cal m = s.cal m := rfl
@[simp] theorem State.modBarrier_laneSettings_view (s : State) (n : Lane) (f : Barrier → Barrier) (m : Lane) :
    (s.modBarrier n f).laneSettings m = s.laneSettings m := rfl
@[simp] theorem State.modBarrier_deckSettings_view (s : State) (n : Lane) (f : Barrier → Barrier) (m : Lane) :
    (s.modBarrier n f).deckSettings m = s.deckSettings m := rfl
@[simp] theorem State.modBarrier_now_view (s : State) (n : Lane) (f : Barrier → Barrier) :
    (s.modBarrier n f).now = s.now := rfl
@[simp] theorem State.modBarrier_reasons_view (s : State) (n : Lane) (f : Barrier → Barrier) (m : Lane) :
    (s.modBarrier n f).reasons m = s.reasons m := rfl

@[simp] theorem State.modLoops_deck_view (s : State) (n : Lane) (f : LoopPair → LoopPair) (m : Lane) :
    (s.modLoops n f).deck m = s.deck m := rfl
@[simp] theorem State.modLoops_lane_view (s : State) (n : Lane) (f : LoopPair → LoopPair) (m : Lane) :
    (s.modLoops n f).lane m = s.lane m := rfl
@[simp] theorem State.modLoops_barrier_view (s : State) (n : Lane) (f : LoopPair → LoopPair) (m : Lane) :
    (s.modLoops n f).barrier m = s.barrier m := rfl
@[simp] theorem State.modLoops_list_view (s : State) (n : Lane) (f : LoopPair → LoopPair) (m : Lane) :
    (s.modLoops n f).list m = s.list m := rfl
@[simp] theorem State.modLoops_cal_view (s : State) (n : Lane) (f : LoopPair → LoopPair) (m : Lane) :
    (s.modLoops n f).cal m = s.cal m := rfl
@[simp] theorem State.modLoops_laneSettings_view (s : State) (n : Lane) (f : LoopPair → LoopPair) (m : Lane) :
    (s.modLoops n f).laneSettings m = s.laneSettings m := rfl
@[simp] theorem State.modLoops_deckSettings_view (s : State) (n : Lane) (f : LoopPair → LoopPair) (m : Lane) :
    (s.modLoops n f).deckSettings m = s.deckSettings m := rfl
@[simp] theorem State.modLoops_now_view (s : State) (n : Lane) (f : LoopPair → LoopPair) :
    (s.modLoops n f).now = s.now := rfl
@[simp] theorem State.modLoops_reasons_view (s : State) (n : Lane) (f : LoopPair → LoopPair) (m : Lane) :
    (s.modLoops n f).reasons m = s.reasons m := rfl

@[simp] theorem State.modReaders_deck_view (s : State) (n : Lane) (f : ReaderPair → ReaderPair) (m : Lane) :
    (s.modReaders n f).deck m = s.deck m := rfl
@[simp] theorem State.modReaders_lane_view (s : State) (n : Lane) (f : ReaderPair → ReaderPair) (m : Lane) :
    (s.modReaders n f).lane m = s.lane m := rfl
@[simp] theorem State.modReaders_barrier_view (s : State) (n : Lane) (f : ReaderPair → ReaderPair) (m : Lane) :
    (s.modReaders n f).barrier m = s.barrier m := rfl
@[simp] theorem State.modReaders_list_view (s : State) (n : Lane) (f : ReaderPair → ReaderPair) (m : Lane) :
    (s.modReaders n f).list m = s.list m := rfl
@[simp] theorem State.modReaders_cal_view (s : State) (n : Lane) (f : ReaderPair → ReaderPair) (m : Lane) :
    (s.modReaders n f).cal m = s.cal m := rfl
@[simp] theorem State.modReaders_laneSettings_view (s : State) (n : Lane) (f : ReaderPair → ReaderPair) (m : Lane) :
    (s.modReaders n f).laneSettings m = s.laneSettings m := rfl
@[simp] theorem State.modReaders_deckSettings_view (s : State) (n : Lane) (f : ReaderPair → ReaderPair) (m : Lane) :
    (s.modReaders n f).deckSettings m = s.deckSettings m := rfl
@[simp] theorem State.modReaders_now_view (s : State) (n : Lane) (f : ReaderPair → ReaderPair) :
    (s.modReaders n f).now = s.now := rfl
@[simp] theorem State.modReaders_reasons_view (s : State) (n : Lane) (f : ReaderPair → ReaderPair) (m : Lane) :
    (s.modReaders n f).reasons m = s.reasons m := rfl

@[simp] theorem State.modList_deck_view (s : State) (n : Lane) (f : List WaitEntry → List WaitEntry) (m : Lane) :
    (s.modList n f).deck m = s.deck m := rfl
@[simp] theorem State.modList_lane_view (s : State) (n : Lane) (f : List WaitEntry → List WaitEntry) (m : Lane) :
    (s.modList n f).lane m = s.lane m := rfl
@[simp] theorem State.modList_barrier_view (s : State) (n : Lane) (f : List WaitEntry → List WaitEntry) (m : Lane) :
    (s.modList n f).barrier m = s.barrier m := rfl
@[simp] theorem State.modList_cal_view (s : State) (n : Lane) (f : List WaitEntry → List WaitEntry) (m : Lane) :
    (s.modList n f).cal m = s.cal m := rfl
@[simp] theorem State.modList_laneSettings_view (s : State) (n : Lane) (f : List WaitEntry → List WaitEntry) (m : Lane) :
    (s.modList n f).laneSettings m = s.laneSettings m := rfl
@[simp] theorem State.modList_deckSettings_view (s : State) (n : Lane) (f : List WaitEntry → List WaitEntry) (m : Lane) :
    (s.modList n f).deckSettings m = s.deckSettings m := rfl
@[simp] theorem State.modList_now_view (s : State) (n : Lane) (f : List WaitEntry → List WaitEntry) :
    (s.modList n f).now = s.now := rfl
@[simp] theorem State.modList_reasons_view (s : State) (n : Lane) (f : List WaitEntry → List WaitEntry) (m : Lane) :
    (s.modList n f).reasons m = s.reasons m := rfl

@[simp] theorem State.modCal_deck_view (s : State) (n : Lane) (f : DeckCal → DeckCal) (m : Lane) :
    (s.modCal n f).deck m = s.deck m := rfl
@[simp] theorem State.modCal_lane_view (s : State) (n : Lane) (f : DeckCal → DeckCal) (m : Lane) :
    (s.modCal n f).lane m = s.lane m := rfl
@[simp] theorem State.modCal_barrier_view (s : State) (n : Lane) (f : DeckCal → DeckCal) (m : Lane) :
    (s.modCal n f).barrier m = s.barrier m := rfl
@[simp] theorem State.modCal_list_view (s : State) (n : Lane) (f : DeckCal → DeckCal) (m : Lane) :
    (s.modCal n f).list m = s.list m := rfl
@[simp] theorem State.modCal_laneSettings_view (s : State) (n : Lane) (f : DeckCal → DeckCal) (m : Lane) :
    (s.modCal n f).laneSettings m = s.laneSettings m := rfl
@[simp] theorem State.modCal_deckSettings_view (s : State) (n : Lane) (f : DeckCal → DeckCal) (m : Lane) :
    (s.modCal n f).deckSettings m = s.deckSettings m := rfl
@[simp] theorem State.modCal_now_view (s : State) (n : Lane) (f : DeckCal → DeckCal) :
    (s.modCal n f).now = s.now := rfl

@[simp] theorem State.modSettings_deck_view (s : State) (f : Settings → Settings) (m : Lane) :
    (s.modSettings f).deck m = s.deck m := rfl
@[simp] theorem State.modSettings_lane_view (s : State) (f : Settings → Settings) (m : Lane) :
    (s.modSettings f).lane m = s.lane m := rfl
@[simp] theorem State.modSettings_barrier_view (s : State) (f : Settings → Settings) (m : Lane) :
    (s.modSettings f).barrier m = s.barrier m := rfl
@[simp] theorem State.modSettings_list_view (s : State) (f : Settings → Settings) (m : Lane) :
    (s.modSettings f).list m = s.list m := rfl
@[simp] theorem State.modSettings_cal_view (s : State) (f : Settings → Settings) (m : Lane) :
    (s.modSettings f).cal m = s.cal m := rfl
@[simp] theorem State.modSettings_now_view (s : State) (f : Settings → Settings) :
    (s.modSettings f).now = s.now := rfl
@[simp] theorem State.modSettings_reasons_view (s : State) (f : Settings → Settings) (m : Lane) :
    (s.modSettings f).reasons m = s.reasons m := rfl

@[simp] theorem State.modIdent_deck_view (s : State) (f : Identities → Identities) (m : Lane) :
    (s.modIdent f).deck m = s.deck m := rfl
@[simp] theorem State.modIdent_lane_view (s : State) (f : Identities → Identities) (m : Lane) :
    (s.modIdent f).lane m = s.lane m := rfl
@[simp] theorem State.modIdent_barrier_view (s : State) (f : Identities → Identities) (m : Lane) :
    (s.modIdent f).barrier m = s.barrier m := rfl
@[simp] theorem State.modIdent_list_view (s : State) (f : Identities → Identities) (m : Lane) :
    (s.modIdent f).list m = s.list m := rfl
@[simp] theorem State.modIdent_cal_view (s : State) (f : Identities → Identities) (m : Lane) :
    (s.modIdent f).cal m = s.cal m := rfl
@[simp] theorem State.modIdent_laneSettings_view (s : State) (f : Identities → Identities) (m : Lane) :
    (s.modIdent f).laneSettings m = s.laneSettings m := rfl
@[simp] theorem State.modIdent_deckSettings_view (s : State) (f : Identities → Identities) (m : Lane) :
    (s.modIdent f).deckSettings m = s.deckSettings m := rfl
@[simp] theorem State.modIdent_now_view (s : State) (f : Identities → Identities) :
    (s.modIdent f).now = s.now := rfl
@[simp] theorem State.modIdent_reasons_view (s : State) (f : Identities → Identities) (m : Lane) :
    (s.modIdent f).reasons m = s.reasons m := rfl

@[simp] theorem State.modTraffic_deck_view (s : State) (f : Traffic → Traffic) (m : Lane) :
    (s.modTraffic f).deck m = s.deck m := rfl
@[simp] theorem State.modTraffic_lane_view (s : State) (f : Traffic → Traffic) (m : Lane) :
    (s.modTraffic f).lane m = s.lane m := rfl
@[simp] theorem State.modTraffic_barrier_view (s : State) (f : Traffic → Traffic) (m : Lane) :
    (s.modTraffic f).barrier m = s.barrier m := rfl
@[simp] theorem State.modTraffic_list_view (s : State) (f : Traffic → Traffic) (m : Lane) :
    (s.modTraffic f).list m = s.list m := rfl
@[simp] theorem State.modTraffic_cal_view (s : State) (f : Traffic → Traffic) (m : Lane) :
    (s.modTraffic f).cal m = s.cal m := rfl
@[simp] theorem State.modTraffic_laneSettings_view (s : State) (f : Traffic → Traffic) (m : Lane) :
    (s.modTraffic f).laneSettings m = s.laneSettings m := rfl
@[simp] theorem State.modTraffic_deckSettings_view (s : State) (f : Traffic → Traffic) (m : Lane) :
    (s.modTraffic f).deckSettings m = s.deckSettings m := rfl
@[simp] theorem State.modTraffic_now_view (s : State) (f : Traffic → Traffic) :
    (s.modTraffic f).now = s.now := rfl
@[simp] theorem State.modTraffic_reasons_view (s : State) (f : Traffic → Traffic) (m : Lane) :
    (s.modTraffic f).reasons m = s.reasons m := rfl

@[simp] theorem State.modTickets_deck_view (s : State) (f : TicketSection → TicketSection) (m : Lane) :
    (s.modTickets f).deck m = s.deck m := rfl
@[simp] theorem State.modTickets_lane_view (s : State) (f : TicketSection → TicketSection) (m : Lane) :
    (s.modTickets f).lane m = s.lane m := rfl
@[simp] theorem State.modTickets_barrier_view (s : State) (f : TicketSection → TicketSection) (m : Lane) :
    (s.modTickets f).barrier m = s.barrier m := rfl
@[simp] theorem State.modTickets_list_view (s : State) (f : TicketSection → TicketSection) (m : Lane) :
    (s.modTickets f).list m = s.list m := rfl
@[simp] theorem State.modTickets_cal_view (s : State) (f : TicketSection → TicketSection) (m : Lane) :
    (s.modTickets f).cal m = s.cal m := rfl
@[simp] theorem State.modTickets_laneSettings_view (s : State) (f : TicketSection → TicketSection) (m : Lane) :
    (s.modTickets f).laneSettings m = s.laneSettings m := rfl
@[simp] theorem State.modTickets_deckSettings_view (s : State) (f : TicketSection → TicketSection) (m : Lane) :
    (s.modTickets f).deckSettings m = s.deckSettings m := rfl
@[simp] theorem State.modTickets_now_view (s : State) (f : TicketSection → TicketSection) :
    (s.modTickets f).now = s.now := rfl
@[simp] theorem State.modTickets_reasons_view (s : State) (f : TicketSection → TicketSection) (m : Lane) :
    (s.modTickets f).reasons m = s.reasons m := rfl

@[simp] theorem State.modLink_deck_view (s : State) (f : LinkPort → LinkPort) (m : Lane) :
    (s.modLink f).deck m = s.deck m := rfl
@[simp] theorem State.modLink_lane_view (s : State) (f : LinkPort → LinkPort) (m : Lane) :
    (s.modLink f).lane m = s.lane m := rfl
@[simp] theorem State.modLink_barrier_view (s : State) (f : LinkPort → LinkPort) (m : Lane) :
    (s.modLink f).barrier m = s.barrier m := rfl
@[simp] theorem State.modLink_list_view (s : State) (f : LinkPort → LinkPort) (m : Lane) :
    (s.modLink f).list m = s.list m := rfl
@[simp] theorem State.modLink_cal_view (s : State) (f : LinkPort → LinkPort) (m : Lane) :
    (s.modLink f).cal m = s.cal m := rfl
@[simp] theorem State.modLink_laneSettings_view (s : State) (f : LinkPort → LinkPort) (m : Lane) :
    (s.modLink f).laneSettings m = s.laneSettings m := rfl
@[simp] theorem State.modLink_deckSettings_view (s : State) (f : LinkPort → LinkPort) (m : Lane) :
    (s.modLink f).deckSettings m = s.deckSettings m := rfl
@[simp] theorem State.modLink_now_view (s : State) (f : LinkPort → LinkPort) :
    (s.modLink f).now = s.now := rfl
@[simp] theorem State.modLink_reasons_view (s : State) (f : LinkPort → LinkPort) (m : Lane) :
    (s.modLink f).reasons m = s.reasons m := rfl

@[simp] theorem State.modClock_deck_view (s : State) (f : Clock → Clock) (m : Lane) :
    (s.modClock f).deck m = s.deck m := rfl
@[simp] theorem State.modClock_lane_view (s : State) (f : Clock → Clock) (m : Lane) :
    (s.modClock f).lane m = s.lane m := rfl
@[simp] theorem State.modClock_barrier_view (s : State) (f : Clock → Clock) (m : Lane) :
    (s.modClock f).barrier m = s.barrier m := rfl
@[simp] theorem State.modClock_list_view (s : State) (f : Clock → Clock) (m : Lane) :
    (s.modClock f).list m = s.list m := rfl
@[simp] theorem State.modClock_cal_view (s : State) (f : Clock → Clock) (m : Lane) :
    (s.modClock f).cal m = s.cal m := rfl
@[simp] theorem State.modClock_laneSettings_view (s : State) (f : Clock → Clock) (m : Lane) :
    (s.modClock f).laneSettings m = s.laneSettings m := rfl
@[simp] theorem State.modClock_deckSettings_view (s : State) (f : Clock → Clock) (m : Lane) :
    (s.modClock f).deckSettings m = s.deckSettings m := rfl
@[simp] theorem State.modClock_reasons_view (s : State) (f : Clock → Clock) (m : Lane) :
    (s.modClock f).reasons m = s.reasons m := rfl

@[simp] theorem State.modPower_deck_view (s : State) (f : Power → Power) (m : Lane) :
    (s.modPower f).deck m = s.deck m := rfl
@[simp] theorem State.modPower_lane_view (s : State) (f : Power → Power) (m : Lane) :
    (s.modPower f).lane m = s.lane m := rfl
@[simp] theorem State.modPower_barrier_view (s : State) (f : Power → Power) (m : Lane) :
    (s.modPower f).barrier m = s.barrier m := rfl
@[simp] theorem State.modPower_list_view (s : State) (f : Power → Power) (m : Lane) :
    (s.modPower f).list m = s.list m := rfl
@[simp] theorem State.modPower_cal_view (s : State) (f : Power → Power) (m : Lane) :
    (s.modPower f).cal m = s.cal m := rfl
@[simp] theorem State.modPower_laneSettings_view (s : State) (f : Power → Power) (m : Lane) :
    (s.modPower f).laneSettings m = s.laneSettings m := rfl
@[simp] theorem State.modPower_deckSettings_view (s : State) (f : Power → Power) (m : Lane) :
    (s.modPower f).deckSettings m = s.deckSettings m := rfl
@[simp] theorem State.modPower_now_view (s : State) (f : Power → Power) :
    (s.modPower f).now = s.now := rfl
@[simp] theorem State.modPower_reasons_view (s : State) (f : Power → Power) (m : Lane) :
    (s.modPower f).reasons m = s.reasons m := rfl

@[simp] theorem State.modPrinting_deck_view (s : State) (f : Printing → Printing) (m : Lane) :
    (s.modPrinting f).deck m = s.deck m := rfl
@[simp] theorem State.modPrinting_lane_view (s : State) (f : Printing → Printing) (m : Lane) :
    (s.modPrinting f).lane m = s.lane m := rfl
@[simp] theorem State.modPrinting_barrier_view (s : State) (f : Printing → Printing) (m : Lane) :
    (s.modPrinting f).barrier m = s.barrier m := rfl
@[simp] theorem State.modPrinting_list_view (s : State) (f : Printing → Printing) (m : Lane) :
    (s.modPrinting f).list m = s.list m := rfl
@[simp] theorem State.modPrinting_cal_view (s : State) (f : Printing → Printing) (m : Lane) :
    (s.modPrinting f).cal m = s.cal m := rfl
@[simp] theorem State.modPrinting_laneSettings_view (s : State) (f : Printing → Printing) (m : Lane) :
    (s.modPrinting f).laneSettings m = s.laneSettings m := rfl
@[simp] theorem State.modPrinting_deckSettings_view (s : State) (f : Printing → Printing) (m : Lane) :
    (s.modPrinting f).deckSettings m = s.deckSettings m := rfl
@[simp] theorem State.modPrinting_now_view (s : State) (f : Printing → Printing) :
    (s.modPrinting f).now = s.now := rfl
@[simp] theorem State.modPrinting_reasons_view (s : State) (f : Printing → Printing) (m : Lane) :
    (s.modPrinting f).reasons m = s.reasons m := rfl

@[simp] theorem State.modAcq_deck_view (s : State) (f : Acquisition → Acquisition) (m : Lane) :
    (s.modAcq f).deck m = s.deck m := rfl
@[simp] theorem State.modAcq_lane_view (s : State) (f : Acquisition → Acquisition) (m : Lane) :
    (s.modAcq f).lane m = s.lane m := rfl
@[simp] theorem State.modAcq_barrier_view (s : State) (f : Acquisition → Acquisition) (m : Lane) :
    (s.modAcq f).barrier m = s.barrier m := rfl
@[simp] theorem State.modAcq_list_view (s : State) (f : Acquisition → Acquisition) (m : Lane) :
    (s.modAcq f).list m = s.list m := rfl
@[simp] theorem State.modAcq_cal_view (s : State) (f : Acquisition → Acquisition) (m : Lane) :
    (s.modAcq f).cal m = s.cal m := rfl
@[simp] theorem State.modAcq_laneSettings_view (s : State) (f : Acquisition → Acquisition) (m : Lane) :
    (s.modAcq f).laneSettings m = s.laneSettings m := rfl
@[simp] theorem State.modAcq_deckSettings_view (s : State) (f : Acquisition → Acquisition) (m : Lane) :
    (s.modAcq f).deckSettings m = s.deckSettings m := rfl
@[simp] theorem State.modAcq_now_view (s : State) (f : Acquisition → Acquisition) :
    (s.modAcq f).now = s.now := rfl
@[simp] theorem State.modAcq_reasons_view (s : State) (f : Acquisition → Acquisition) (m : Lane) :
    (s.modAcq f).reasons m = s.reasons m := rfl

@[simp] theorem State.post_deck_view (s : State) (k : EventKind) (l : Option Lane) (x : Subject) (d : Detail) (m : Lane) :
    (s.post k l x d).deck m = s.deck m := rfl
@[simp] theorem State.post_lane_view (s : State) (k : EventKind) (l : Option Lane) (x : Subject) (d : Detail) (m : Lane) :
    (s.post k l x d).lane m = s.lane m := rfl
@[simp] theorem State.post_barrier_view (s : State) (k : EventKind) (l : Option Lane) (x : Subject) (d : Detail) (m : Lane) :
    (s.post k l x d).barrier m = s.barrier m := rfl
@[simp] theorem State.post_list_view (s : State) (k : EventKind) (l : Option Lane) (x : Subject) (d : Detail) (m : Lane) :
    (s.post k l x d).list m = s.list m := rfl
@[simp] theorem State.post_cal_view (s : State) (k : EventKind) (l : Option Lane) (x : Subject) (d : Detail) (m : Lane) :
    (s.post k l x d).cal m = s.cal m := rfl
@[simp] theorem State.post_laneSettings_view (s : State) (k : EventKind) (l : Option Lane) (x : Subject) (d : Detail) (m : Lane) :
    (s.post k l x d).laneSettings m = s.laneSettings m := rfl
@[simp] theorem State.post_deckSettings_view (s : State) (k : EventKind) (l : Option Lane) (x : Subject) (d : Detail) (m : Lane) :
    (s.post k l x d).deckSettings m = s.deckSettings m := rfl
@[simp] theorem State.post_now_view (s : State) (k : EventKind) (l : Option Lane) (x : Subject) (d : Detail) :
    (s.post k l x d).now = s.now := rfl
@[simp] theorem State.post_reasons_view (s : State) (k : EventKind) (l : Option Lane) (x : Subject) (d : Detail) (m : Lane) :
    (s.post k l x d).reasons m = s.reasons m := rfl

end Sys2Proof.Machine
end

