-- ==== Sys2Proof/Laws/Frames.lean ====
section
/-! SUPPORT. What each shared operation leaves alone: one lemma for each, over any set of parts that holds those it
touches. -/

namespace Sys2Proof.Machine

/-! ### Keeping -/

theorem Keeps.refl (p : Parts) (s : State) : Keeps p s s := by
  constructor <;> intros <;> rfl

theorem Keeps.trans {p : Parts} {s t u : State} (h : Keeps p s t) (g : Keeps p t u) : Keeps p s u where
  cal hp := (g.cal hp).trans (h.cal hp)
  settings hp := (g.settings hp).trans (h.settings hp)
  ident hp := (g.ident hp).trans (h.ident hp)
  traffic hp := (g.traffic hp).trans (h.traffic hp)
  tickets hp := (g.tickets hp).trans (h.tickets hp)
  acq hp := (g.acq hp).trans (h.acq hp)
  decks hp := (g.decks hp).trans (h.decks hp)
  loops hp := (g.loops hp).trans (h.loops hp)
  barriers hp := (g.barriers hp).trans (h.barriers hp)
  readers hp := (g.readers hp).trans (h.readers hp)
  lists hp := (g.lists hp).trans (h.lists hp)
  lanes hp := (g.lanes hp).trans (h.lanes hp)
  journalOrder hp := (g.journalOrder hp).trans (h.journalOrder hp)
  clock hp := (g.clock hp).trans (h.clock hp)
  link hp := (g.link hp).trans (h.link hp)
  events hp := (g.events hp).trans (h.events hp)
  printing hp := (g.printing hp).trans (h.printing hp)
  power hp := (g.power hp).trans (h.power hp)
  checks hp := (g.checks hp).trans (h.checks hp)
  copy hp hr := (g.copy hp hr).trans (h.copy hp hr)
  pending := g.pending.trans h.pending

variable {p : Parts} {s : State}

theorem Keeps.ite {c : Prop} [Decidable c] {t u : State} (h : c → Keeps p s t) (g : ¬c → Keeps p s u) :
    Keeps p s (if c then t else u) := by
  split
  · exact h ‹_›
  · exact g ‹_›

theorem Keeps.foldl {α : Type} {f : State → α → State} (h : ∀ t a, Keeps p t (f t a)) :
    ∀ (as : List α) (s : State), Keeps p s (as.foldl f s)
  | [], s => Keeps.refl p s
  | a :: as, s => (h s a).trans (Keeps.foldl h as (f s a))

theorem Keeps.eachLane {f : State → Lane → State} (h : ∀ t n, Keeps p t (f t n)) (s : State) :
    Keeps p s (s.eachLane f) :=
  (((h _ _).trans (h _ _)).trans (h _ _)).trans (h _ _)

theorem Keeps.whileRunning {t : State} (h : Keeps p s t) : Keeps p s (s.whileRunning t) :=
  Keeps.ite (fun _ => h) fun _ => Keeps.refl p s

/-! ### Updaters -/

/-- A retained update keeps every part outside retained memory, and each section that it leaves as it was. -/
theorem keeps_retain {r : Retained} (h : p.retained = true) (hc : p.cal = false → r.cal = s.ret.cal)
    (hs : p.settings = false → r.settings = s.ret.settings) (hi : p.ident = false → r.ident = s.ret.ident)
    (ht : p.traffic = false → r.traffic = s.ret.traffic) (hk : p.tickets = false → r.tickets = s.ret.tickets) :
    Keeps p s (s.retain r) where
  cal := hc
  settings := hs
  ident := hi
  traffic := ht
  tickets := hk
  acq _ := rfl
  decks _ := rfl
  loops _ := rfl
  barriers _ := rfl
  readers _ := rfl
  lists _ := rfl
  lanes _ := rfl
  journalOrder _ := rfl
  clock _ := rfl
  link _ := rfl
  events _ := rfl
  printing _ := rfl
  power _ := rfl
  checks hp := Bool.noConfusion (h.symm.trans hp)
  copy _ hp := Bool.noConfusion (h.symm.trans hp)
  pending := rfl

theorem keeps_modDeck {n : Lane} {f : Deck → Deck} (h : p.decks = true) : Keeps p s (s.modDeck n f) := by
  constructor <;> first | exact fun _ => rfl | exact fun _ _ => rfl | rfl | exact fun hp => Bool.noConfusion (h.symm.trans hp)
theorem keeps_modLane {n : Lane} {f : LaneSeq → LaneSeq} (h : p.lanes = true) : Keeps p s (s.modLane n f) := by
  constructor <;> first | exact fun _ => rfl | exact fun _ _ => rfl | rfl | exact fun hp => Bool.noConfusion (h.symm.trans hp)
theorem keeps_modBarrier {n : Lane} {f : Barrier → Barrier} (h : p.barriers = true) :
    Keeps p s (s.modBarrier n f) := by
  constructor <;> first | exact fun _ => rfl | exact fun _ _ => rfl | rfl | exact fun hp => Bool.noConfusion (h.symm.trans hp)
theorem keeps_modLoops {n : Lane} {f : LoopPair → LoopPair} (h : p.loops = true) : Keeps p s (s.modLoops n f) := by
  constructor <;> first | exact fun _ => rfl | exact fun _ _ => rfl | rfl | exact fun hp => Bool.noConfusion (h.symm.trans hp)
theorem keeps_modLoop {n : Lane} {side : LoopSide} {f : Loop → Loop} (h : p.loops = true) :
    Keeps p s (s.modLoop n side f) := keeps_modLoops h
theorem keeps_modReaders {n : Lane} {f : ReaderPair → ReaderPair} (h : p.readers = true) :
    Keeps p s (s.modReaders n f) := by
  constructor <;> first | exact fun _ => rfl | exact fun _ _ => rfl | rfl | exact fun hp => Bool.noConfusion (h.symm.trans hp)
theorem keeps_modPort {n : Lane} {side : ReaderSide} {f : ReaderPort → ReaderPort} (h : p.readers = true) :
    Keeps p s (s.modPort n side f) := keeps_modReaders h
theorem keeps_modList {n : Lane} {f : List WaitEntry → List WaitEntry} (h : p.lists = true) :
    Keeps p s (s.modList n f) := by
  constructor <;> first | exact fun _ => rfl | exact fun _ _ => rfl | rfl | exact fun hp => Bool.noConfusion (h.symm.trans hp)
theorem keeps_modCal {n : Lane} {f : DeckCal → DeckCal} (h : p.cal = true) : Keeps p s (s.modCal n f) := by
  refine keeps_retain (by simp [Parts.retained, h]) ?_ (fun _ => rfl) (fun _ => rfl) (fun _ => rfl) fun _ => rfl
  exact fun hp => Bool.noConfusion (h.symm.trans hp)
theorem keeps_modSettings {f : Settings → Settings} (h : p.settings = true) : Keeps p s (s.modSettings f) := by
  refine keeps_retain (by simp [Parts.retained, h]) (fun _ => rfl) ?_ (fun _ => rfl) (fun _ => rfl) fun _ => rfl
  exact fun hp => Bool.noConfusion (h.symm.trans hp)
theorem keeps_modLaneSettings {n : Lane} {f : LaneSettings → LaneSettings} (h : p.settings = true) :
    Keeps p s (s.modLaneSettings n f) := keeps_modSettings h
theorem keeps_modDeckSettings {n : Lane} {f : DeckSettings → DeckSettings} (h : p.settings = true) :
    Keeps p s (s.modDeckSettings n f) := keeps_modSettings h
theorem keeps_modIdent {f : Identities → Identities} (h : p.ident = true) : Keeps p s (s.modIdent f) := by
  refine keeps_retain (by simp [Parts.retained, h]) (fun _ => rfl) (fun _ => rfl) ?_ (fun _ => rfl) fun _ => rfl
  exact fun hp => Bool.noConfusion (h.symm.trans hp)
theorem keeps_modVehicle {t : Token} {f : Vehicle → Vehicle} (h : p.ident = true) : Keeps p s (s.modVehicle t f) :=
  keeps_modIdent h
theorem keeps_modAccount {a : Fin 256} {f : Account → Account} (h : p.ident = true) : Keeps p s (s.modAccount a f) :=
  keeps_modIdent h
theorem keeps_modTraffic {f : Traffic → Traffic} (h : p.traffic = true) : Keeps p s (s.modTraffic f) := by
  refine keeps_retain (by simp [Parts.retained, h]) (fun _ => rfl) (fun _ => rfl) (fun _ => rfl) ?_ fun _ => rfl
  exact fun hp => Bool.noConfusion (h.symm.trans hp)
theorem keeps_modVisit {k : Nat} {f : Visit → Visit} (h : p.traffic = true) : Keeps p s (s.modVisit k f) :=
  keeps_modTraffic h
theorem keeps_modTickets {f : TicketSection → TicketSection} (h : p.tickets = true) : Keeps p s (s.modTickets f) := by
  refine keeps_retain (by simp [Parts.retained, h]) (fun _ => rfl) (fun _ => rfl) (fun _ => rfl) (fun _ => rfl) ?_
  exact fun hp => Bool.noConfusion (h.symm.trans hp)
theorem keeps_modTicket {k : Nat} {f : Ticket → Ticket} (h : p.tickets = true) : Keeps p s (s.modTicket k f) :=
  keeps_modTickets h
theorem keeps_modLink {f : LinkPort → LinkPort} (h : p.link = true) : Keeps p s (s.modLink f) := by
  constructor <;> first | exact fun _ => rfl | exact fun _ _ => rfl | rfl | exact fun hp => Bool.noConfusion (h.symm.trans hp)
theorem keeps_modClock {f : Clock → Clock} (h : p.clock = true) : Keeps p s (s.modClock f) := by
  constructor <;> first | exact fun _ => rfl | exact fun _ _ => rfl | rfl | exact fun hp => Bool.noConfusion (h.symm.trans hp)
theorem keeps_modPower {f : Power → Power} (h : p.power = true) : Keeps p s (s.modPower f) := by
  constructor <;> first | exact fun _ => rfl | exact fun _ _ => rfl | rfl | exact fun hp => Bool.noConfusion (h.symm.trans hp)
theorem keeps_modPrinting {f : Printing → Printing} (h : p.printing = true) : Keeps p s (s.modPrinting f) := by
  constructor <;> first | exact fun _ => rfl | exact fun _ _ => rfl | rfl | exact fun hp => Bool.noConfusion (h.symm.trans hp)
theorem keeps_modAcq {f : Acquisition → Acquisition} (h : p.acq = true) : Keeps p s (s.modAcq f) := by
  constructor <;> first | exact fun _ => rfl | exact fun _ _ => rfl | rfl | exact fun hp => Bool.noConfusion (h.symm.trans hp)
theorem keeps_setLists {q : Quad (List WaitEntry)} (h : p.lists = true) : Keeps p s { s with lists := q } := by
  constructor <;> first | exact fun _ => rfl | exact fun _ _ => rfl | rfl | exact fun hp => Bool.noConfusion (h.symm.trans hp)
theorem keeps_setJournalOrder {q : List Lane} (h : p.journalOrder = true) :
    Keeps p s { s with journalOrder := q } := by
  constructor <;> first | exact fun _ => rfl | exact fun _ _ => rfl | rfl | exact fun hp => Bool.noConfusion (h.symm.trans hp)
theorem keeps_setCopy {c : UpdateCopy} (h : p.copy = true) : Keeps p s { s with copy := c } := by
  constructor <;> first | exact fun _ => rfl | rfl | exact fun hp => Bool.noConfusion (h.symm.trans hp)
theorem keeps_setEvents {q : EventQueue} (h : p.events = true) : Keeps p s { s with events := q } := by
  constructor <;> first | exact fun _ => rfl | exact fun _ _ => rfl | rfl | exact fun hp => Bool.noConfusion (h.symm.trans hp)

/-! ### Events, barriers and lanes -/

theorem keeps_post {k : EventKind} {n : Option Lane} {x : Subject} {d : Detail} (h : p.events = true) :
    Keeps p s (s.post k n x d) := keeps_setEvents h

theorem keeps_startMotion {n : Lane} {d : Toward} (h : p.barriers = true) : Keeps p s (s.startMotion n d) :=
  keeps_modBarrier h

theorem keeps_seek {n : Lane} (h : p.barriers = true) : Keeps p s (s.seek n) := by
  unfold State.seek
  split <;> first | exact Keeps.refl p s | exact keeps_startMotion h | skip
  all_goals exact Keeps.ite (fun _ => keeps_startMotion h) fun _ => Keeps.refl p s

theorem keeps_reverse {n : Lane} (h : p.barriers = true) : Keeps p s (s.reverse n) := keeps_modBarrier h

theorem keeps_command {n : Lane} {d : Toward} (h : p.barriers = true) : Keeps p s (s.command n d) := by
  unfold State.command
  refine Keeps.ite (fun _ => Keeps.refl p s) fun _ => ?_
  refine (keeps_modBarrier (n := n) (f := fun b => { b with target := d }) h).trans ?_
  split
  · exact keeps_reverse h
  · exact keeps_seek h

theorem keeps_setLaneState {n : Lane} {st : LaneState} (h : p.lanes = true) : Keeps p s (s.setLaneState n st) :=
  keeps_modLane h

theorem keeps_enterHeld {n : Lane} {r : HoldReason} (hl : p.lanes = true) (he : p.events = true)
    (hb : p.barriers = true) : Keeps p s (s.enterHeld n r) := by
  unfold State.enterHeld
  exact ((keeps_modLane hl).trans (keeps_post he)).trans
    (Keeps.ite (fun _ => keeps_command hb) fun _ => Keeps.refl p _)

theorem keeps_enterClosed {n : Lane} (hl : p.lanes = true) (hs : p.settings = true) (hb : p.barriers = true) :
    Keeps p s (s.enterClosed n) :=
  ((keeps_setLaneState hl).trans (keeps_modLaneSettings hs)).trans (keeps_command hb)

theorem keeps_enterIdle {n : Lane} (hl : p.lanes = true) (hs : p.settings = true) (hb : p.barriers = true) :
    Keeps p s (s.enterIdle n) := by
  unfold State.enterIdle
  refine (keeps_modLane (n := n) (f := idleLane) hl).trans ?_
  refine Keeps.ite (fun _ => (keeps_modLane hl).trans (keeps_enterClosed hl hs hb)) fun _ => ?_
  exact Keeps.ite (fun _ => keeps_setLaneState hl) fun _ =>
    Keeps.ite (fun _ => keeps_setLaneState hl) fun _ => Keeps.refl p _

theorem keeps_laneSettle {n : Lane} (hl : p.lanes = true) (hs : p.settings = true) (hb : p.barriers = true) :
    Keeps p s (s.laneSettle n) := by
  unfold State.laneSettle
  split
  · exact Keeps.ite (fun _ => keeps_setLaneState hl) fun _ =>
      Keeps.ite (fun _ => keeps_setLaneState hl) fun _ => Keeps.refl p _
  · exact Keeps.ite (fun _ => Keeps.refl p _) fun _ => keeps_enterIdle hl hs hb
  · exact Keeps.refl p _

theorem keeps_enterRefused {n : Lane} {r : Reason} (hl : p.lanes = true) (hs : p.settings = true)
    (hb : p.barriers = true) : Keeps p s (s.enterRefused n r) := by
  unfold State.enterRefused
  exact ((keeps_modLane hl).trans (keeps_command hb)).trans
    (Keeps.ite (fun _ => keeps_enterIdle hl hs hb) fun _ => Keeps.refl p _)

theorem keeps_letGo {n : Lane} (hl : p.lanes = true) (he : p.events = true) (hb : p.barriers = true) :
    Keeps p s (s.letGo n) := by
  unfold State.letGo
  exact Keeps.ite (fun _ => keeps_enterHeld hl he hb) fun _ => (keeps_modLane hl).trans (keeps_command hb)

theorem keeps_enterClearing {n : Lane} (hl : p.lanes = true) (hb : p.barriers = true) :
    Keeps p s (s.enterClearing n) := (keeps_modLane hl).trans (keeps_command hb)

theorem keeps_postRefused {n : Lane} {t : Token} {r : Reason} (he : p.events = true) :
    Keeps p s (s.postRefused n t r) := keeps_post he

theorem keeps_weighingEmptied {n : Lane} (hl : p.lanes = true) (hs : p.settings = true) (hb : p.barriers = true)
    (he : p.events = true) : Keeps p s (s.weighingEmptied n) := by
  have gone : ∀ {f : LaneSeq → LaneSeq} {k : Nat},
      Keeps p s (((s.modLane n f).post .weighingDiscarded (some n) .none (.parts k)).enterIdle n) :=
    ((keeps_modLane hl).trans (keeps_post he)).trans (keeps_enterIdle hl hs hb)
  unfold State.weighingEmptied
  dsimp only
  split
  · exact gone
  · exact gone
  · exact Keeps.refl p _

theorem keeps_occupancyChanged {n : Lane} (hl : p.lanes = true) (hs : p.settings = true) (hb : p.barriers = true)
    (he : p.events = true) : Keeps p s (s.occupancyChanged n) := by
  unfold State.occupancyChanged
  split
  · exact keeps_laneSettle hl hs hb
  · exact keeps_enterIdle hl hs hb
  · exact keeps_weighingEmptied hl hs hb he
  · exact keeps_enterIdle hl hs hb
  · exact Keeps.refl p _

theorem keeps_setOccupancy {n : Lane} {o : Occupancy} (hd : p.decks = true) (hl : p.lanes = true)
    (hs : p.settings = true) (hb : p.barriers = true) (he : p.events = true) : Keeps p s (s.setOccupancy n o) :=
  Keeps.ite (fun _ => Keeps.refl p _) fun _ => (keeps_modDeck hd).trans (keeps_occupancyChanged hl hs hb he)

theorem keeps_enterFault {n : Lane} {r : BarrierFault} (hl : p.lanes = true) (hs : p.settings = true)
    (hb : p.barriers = true) (he : p.events = true) : Keeps p s (s.enterFault n r) := by
  unfold State.enterFault
  dsimp only
  split
  · exact ((keeps_modBarrier hb).trans (keeps_post he)).trans ((keeps_modLane hl).trans (keeps_enterHeld hl he hb))
  · exact ((keeps_modBarrier hb).trans (keeps_post he)).trans (keeps_laneSettle hl hs hb)

theorem keeps_barrierRests {n : Lane} {st : BarrierState} (hl : p.lanes = true) (hs : p.settings = true)
    (hb : p.barriers = true) : Keeps p s (s.barrierRests n st) := by
  unfold State.barrierRests
  exact ((keeps_modBarrier hb).trans
    (Keeps.ite (fun _ => keeps_enterIdle hl hs hb) fun _ => Keeps.refl p _)).trans (keeps_seek hb)

/-! ### Decks -/

theorem keeps_setSettling {n : Lane} {m : Settling} (hd : p.decks = true) (hl : p.lanes = true) :
    Keeps p s (s.setSettling n m) := by
  unfold State.setSettling
  exact (keeps_modDeck hd).trans (Keeps.ite (fun _ => keeps_modLane hl) fun _ => Keeps.refl p _)

theorem keeps_dropParts {n : Lane} (hl : p.lanes = true) (he : p.events = true) : Keeps p s (s.dropParts n) := by
  unfold State.dropParts
  refine Keeps.ite (fun _ => ?_) fun _ => Keeps.refl p _
  exact (keeps_modLane hl).trans (Keeps.ite (fun _ => Keeps.refl p _) fun _ => keeps_post he)

theorem keeps_becomeInvalid {n : Lane} (hd : p.decks = true) (hl : p.lanes = true) (hs : p.settings = true)
    (hb : p.barriers = true) (he : p.events = true) : Keeps p s (s.becomeInvalid n) :=
  (((((keeps_modDeck hd).trans (keeps_setSettling hd hl)).trans (keeps_dropParts hl he)).trans
    (keeps_setOccupancy hd hl hs hb he)).trans (keeps_laneSettle hl hs hb)).trans (keeps_post he)

theorem keeps_postInvalid {n : Lane} (he : p.events = true) : ∀ k, ∀ s : State, Keeps p s (s.postInvalid n k)
  | 0, s => Keeps.refl p s
  | k + 1, _ => (keeps_post he).trans (keeps_postInvalid he k _)

theorem keeps_abortOp {n : Lane} {c : AbortCause} (hd : p.decks = true) (he : p.events = true) :
    Keeps p s (s.abortOp n c) := by
  unfold State.abortOp
  split
  · exact Keeps.refl p _
  · exact (keeps_modDeck hd).trans (keeps_post he)

theorem keeps_afterReasons {n : Lane} {before : ReasonSet} (hd : p.decks = true) (hl : p.lanes = true)
    (hs : p.settings = true) (hb : p.barriers = true) (he : p.events = true) :
    Keeps p s (s.afterReasons n before) := by
  unfold State.afterReasons
  have h1 : Keeps p s
      (if before.isEmpty && !(s.reasons n).isEmpty then s.becomeInvalid n
      else if !before.isEmpty && (s.reasons n).isEmpty then (s.post .deckValid (some n) .none .none).laneSettle n
      else s.postInvalid n (before.joined (s.reasons n))) :=
    Keeps.ite (fun _ => keeps_becomeInvalid hd hl hs hb he) fun _ =>
      Keeps.ite (fun _ => (keeps_post he).trans (keeps_laneSettle hl hs hb)) fun _ => keeps_postInvalid he _ s
  exact Keeps.ite (fun _ => h1.trans (keeps_abortOp hd he)) fun _ => h1

theorem keeps_moveZero {n : Lane} {z : Int} (hc : p.cal = true) (hd : p.decks = true) :
    Keeps p s (s.moveZero n z) := by
  unfold State.moveZero
  exact ((keeps_modCal hc).trans (keeps_modDeck hd)).trans (Keeps.ite (fun _ => keeps_modDeck hd) fun _ => Keeps.refl p _)

theorem keeps_trackZero {n : Lane} (hc : p.cal = true) (hd : p.decks = true) (he : p.events = true) :
    Keeps p s (s.trackZero n) := by
  unfold State.trackZero
  split
  · exact Keeps.refl p _
  · refine Keeps.ite (fun _ => ?_) fun _ => Keeps.refl p _
    refine Keeps.ite (fun _ => ?_) fun _ => keeps_moveZero hc hd
    exact Keeps.ite (fun _ => keeps_moveZero hc hd) fun _ =>
      ((keeps_moveZero hc hd).trans (keeps_modDeck hd)).trans (keeps_post he)

theorem keeps_appendPart {n : Lane} {r : Reading} (hl : p.lanes = true) : Keeps p s (s.appendPart n r) :=
  Keeps.ite (fun _ => keeps_modLane hl) fun _ => keeps_modLane hl

theorem keeps_discardAged {n : Lane} (hl : p.lanes = true) (he : p.events = true) : Keeps p s (s.discardAged n) :=
  (keeps_modLane hl).trans (keeps_post he)

theorem keeps_examineCapture {n : Lane} (hl : p.lanes = true) (he : p.events = true) :
    Keeps p s (s.examineCapture n) := by
  unfold State.examineCapture
  split
  · exact Keeps.refl p _
  · refine Keeps.ite (fun _ => ?_) fun _ => Keeps.refl p _
    exact Keeps.ite
      (fun _ => (keeps_discardAged hl he).trans (Keeps.ite (fun _ => keeps_appendPart hl) fun _ => Keeps.refl p _))
      fun _ => keeps_appendPart hl

theorem keeps_workSample {n : Lane} {cells : List Int} {e : Int} (hd : p.decks = true) (hl : p.lanes = true)
    (hs : p.settings = true) (hb : p.barriers = true) (he : p.events = true) :
    Keeps p s (s.workSample n cells e) :=
  (((keeps_modDeck hd).trans (keeps_setSettling hd hl)).trans (keeps_setOccupancy hd hl hs hb he)).trans
    (keeps_examineCapture hl he)

theorem keeps_calSucceeds {n : Lane} {sub : CalSub} {f : DeckCal → DeckCal} (hc : p.cal = true) (hd : p.decks = true)
    (he : p.events = true) : Keeps p s (s.calSucceeds n sub f) :=
  ((keeps_modCal hc).trans (keeps_modDeck hd)).trans (keeps_post he)

theorem keeps_emptyFilter {n : Lane} (hd : p.decks = true) (hl : p.lanes = true) : Keeps p s (s.emptyFilter n) :=
  (keeps_modDeck hd).trans (keeps_setSettling hd hl)

theorem keeps_zeroSucceeds {n : Lane} {sums : List Int} {e : Int} (hc : p.cal = true) (hd : p.decks = true)
    (hl : p.lanes = true) (hs : p.settings = true) (hb : p.barriers = true) (he : p.events = true) :
    Keeps p s (s.zeroSucceeds n sums e) :=
  ((((keeps_modDeck hd).trans (keeps_calSucceeds hc hd he)).trans (keeps_emptyFilter hd hl)).trans
    (keeps_modDeck hd)).trans (keeps_afterReasons hd hl hs hb he)

theorem keeps_spanEnds {n : Lane} {load : Nat} {sum : Int} (hc : p.cal = true) (hd : p.decks = true)
    (hl : p.lanes = true) (hs : p.settings = true) (hb : p.barriers = true) (he : p.events = true) :
    Keeps p s (s.spanEnds n load sum) := by
  unfold State.spanEnds
  refine Keeps.ite (fun _ => keeps_abortOp hd he) fun _ => ?_
  refine Keeps.ite (fun _ => keeps_abortOp hd he) fun _ => ?_
  exact (((keeps_modDeck hd).trans (keeps_calSucceeds hc hd he)).trans (keeps_emptyFilter hd hl)).trans
    (keeps_afterReasons hd hl hs hb he)

theorem keeps_calSample {n : Lane} {cells : List Int} {e : Int} (hc : p.cal = true) (hd : p.decks = true)
    (hl : p.lanes = true) (hs : p.settings = true) (hb : p.barriers = true) (he : p.events = true) :
    Keeps p s (s.calSample n cells e) := by
  unfold State.calSample
  split
  · exact Keeps.refl p _
  · refine Keeps.ite (fun _ => ?_) fun _ => Keeps.refl p _
    unfold State.countSample
    split
    · exact Keeps.ite (fun _ => keeps_abortOp hd he) fun _ =>
        Keeps.ite (fun _ => keeps_zeroSucceeds hc hd hl hs hb he) fun _ => keeps_modDeck hd
    · exact Keeps.ite (fun _ => keeps_abortOp hd he) fun _ =>
        Keeps.ite (fun _ => keeps_spanEnds hc hd hl hs hb he) fun _ => keeps_modDeck hd

theorem keeps_deliverSample {n : Lane} {cells : List Int} {e : Int} (hc : p.cal = true) (hd : p.decks = true)
    (hl : p.lanes = true) (hs : p.settings = true) (hb : p.barriers = true) (he : p.events = true) :
    Keeps p s (s.deliverSample n cells e) := by
  unfold State.deliverSample
  dsimp only
  refine Keeps.ite (fun _ => ?_) fun _ => (keeps_modDeck hd).trans (keeps_afterReasons hd hl hs hb he)
  refine Keeps.trans (Keeps.ite (fun _ => ?_) fun _ => ?_) (keeps_calSample hc hd hl hs hb he)
  · exact ((keeps_modDeck hd).trans (keeps_afterReasons hd hl hs hb he)).trans (keeps_workSample hd hl hs hb he)
  · exact (keeps_modDeck hd).trans (keeps_afterReasons hd hl hs hb he)

theorem keeps_slotEnds {slot : Fin 16} {cells : List Int} {e : Int} (ha : p.acq = true) (hc : p.cal = true)
    (hd : p.decks = true) (hl : p.lanes = true) (hs : p.settings = true) (hb : p.barriers = true)
    (he : p.events = true) : Keeps p s (s.slotEnds slot cells e) := by
  unfold State.slotEnds
  dsimp only
  split
  · exact keeps_modAcq ha
  · exact Keeps.ite (fun _ => (keeps_modAcq ha).trans (keeps_deliverSample hc hd hl hs hb he)) fun _ => keeps_modAcq ha

theorem keeps_frameStarts (ha : p.acq = true) (hd : p.decks = true) (hl : p.lanes = true) (hs : p.settings = true)
    (hb : p.barriers = true) (he : p.events = true) : Keeps p s s.frameStarts :=
  (keeps_modAcq ha).trans (Keeps.eachLane (fun _ _ =>
    (keeps_modDeck hd).trans (keeps_afterReasons hd hl hs hb he)) _)

/-! ### Visits -/

theorem keeps_postCrossed {k : Fin 8} (he : p.events = true) :
    ∀ ls, ∀ s : State, Keeps p s (s.postCrossed k ls)
  | [], s => Keeps.refl p s
  | _ :: ls, _ => (keeps_post he).trans (keeps_postCrossed he ls _)

theorem keeps_judgeLevels {k : Fin 8} {b : Nat} (he : p.events = true) : Keeps p s (s.judgeLevels k b) :=
  keeps_postCrossed he _ s

theorem keeps_createVisit {v : Visit} (ht : p.traffic = true) (hi : p.ident = true) (he : p.events = true) :
    Keeps p s (s.createVisit v) :=
  ((keeps_modTraffic ht).trans (keeps_modAccount hi)).trans (keeps_judgeLevels he)

theorem keeps_cancelVisit {v : Visit} (ht : p.traffic = true) (hi : p.ident = true) (he : p.events = true) :
    Keeps p s (s.cancelVisit v) :=
  ((keeps_modTraffic ht).trans (keeps_modAccount hi)).trans (keeps_judgeLevels he)

theorem keeps_endEntryHold {v : Visit} {r : Reason} (ht : p.traffic = true) (hi : p.ident = true)
    (he : p.events = true) (hl : p.lanes = true) (hs : p.settings = true) (hb : p.barriers = true) :
    Keeps p s (s.endEntryHold v r) :=
  (((keeps_cancelVisit ht hi he).trans (keeps_postRefused he)).trans (keeps_modLane hl)).trans
    (keeps_enterRefused hl hs hb)

theorem keeps_treatVisit {v : Visit} (ht : p.traffic = true) (hi : p.ident = true) (he : p.events = true) :
    Keeps p s (s.treatVisit v) := by
  unfold State.treatVisit
  split
  · exact keeps_cancelVisit ht hi he
  · exact keeps_modVisit ht
  · exact Keeps.refl p _
  · exact keeps_modVisit ht
  · exact keeps_modVisit ht

theorem keeps_treatVisits (ht : p.traffic = true) (hi : p.ident = true) (he : p.events = true) :
    ∀ vs, ∀ s : State, Keeps p s (s.treatVisits vs)
  | [], s => Keeps.refl p s
  | _ :: vs, _ => (keeps_treatVisit ht hi he).trans (keeps_treatVisits ht hi he vs _)

theorem keeps_createEntry {v : Vehicle} (hi : p.ident = true) : Keeps p s (s.createEntry v) := keeps_modIdent hi

theorem keeps_unlist {t : Token} (hq : p.lists = true) : Keeps p s (s.unlist t) := keeps_setLists hq

theorem keeps_joinList {n : Lane} {t : Token} (hq : p.lists = true) (he : p.events = true) :
    Keeps p s (s.joinList n t) := by
  unfold State.joinList
  dsimp only
  split
  · exact keeps_modList hq
  · exact (keeps_modList hq).trans (keeps_post he)

theorem keeps_approachRead {n : Lane} {t : Token} (hq : p.lists = true) (he : p.events = true) :
    Keeps p s (s.approachRead n t) :=
  Keeps.ite (fun _ => Keeps.refl p _) fun _ =>
    Keeps.ite (fun _ => keeps_post he) fun _ => (keeps_unlist hq).trans (keeps_joinList hq he)

theorem keeps_postSkipped {n : Lane} (he : p.events = true) : ∀ es, ∀ s : State, Keeps p s (s.postSkipped n es)
  | [], s => Keeps.refl p s
  | _ :: es, _ => (keeps_post he).trans (keeps_postSkipped he es _)

theorem keeps_settlePlace {n : Lane} {t : Token} (hq : p.lists = true) (he : p.events = true) :
    Keeps p s (s.settlePlace n t) :=
  Keeps.ite (fun _ => (keeps_modList hq).trans (keeps_postSkipped he _ _)) fun _ => keeps_unlist hq

theorem keeps_enterWeighing {n : Lane} {k : Nat} (hl : p.lanes = true) (he : p.events = true) :
    Keeps p s (s.enterWeighing n k) := (keeps_modLane hl).trans (keeps_examineCapture hl he)

theorem keeps_refuse {n : Lane} {t : Token} {r : Reason} (hl : p.lanes = true) (hs : p.settings = true)
    (hb : p.barriers = true) (he : p.events = true) : Keeps p s (s.refuse n t r) :=
  (keeps_postRefused he).trans (keeps_enterRefused hl hs hb)

theorem keeps_freshEntry {n : Lane} {v : Vehicle} {k : Option (Fin 8)} (hl : p.lanes = true) (hs : p.settings = true)
    (hb : p.barriers = true) (he : p.events = true) : Keeps p s (s.freshEntry n v k) := by
  unfold State.freshEntry
  split
  · exact keeps_refuse hl hs hb he
  · exact keeps_enterWeighing hl he

theorem keeps_freshCheck {n : Lane} {t : Token} {k : Option (Fin 8)} (hi : p.ident = true) (hl : p.lanes = true)
    (hs : p.settings = true) (hb : p.barriers = true) (he : p.events = true) : Keeps p s (s.freshCheck n t k) := by
  unfold State.freshCheck
  split
  · split
    · exact keeps_refuse hl hs hb he
    · exact (keeps_modLane hl).trans (keeps_enterWeighing hl he)
  · split
    · exact keeps_refuse hl hs hb he
    · split
      · exact keeps_refuse hl hs hb he
      · exact keeps_freshEntry hl hs hb he
      · exact (keeps_createEntry hi).trans (keeps_freshEntry hl hs hb he)

theorem keeps_identify {n : Lane} {t : Token} {src : Source} {k : Option (Fin 8)} {kd : Option Kind}
    (hq : p.lists = true) (hi : p.ident = true) (hl : p.lanes = true) (hs : p.settings = true)
    (hb : p.barriers = true) (he : p.events = true) : Keeps p s (s.identify n t src k kd) :=
  (((keeps_settlePlace hq he).trans (keeps_modVehicle hi)).trans (keeps_modLane hl)).trans
    (keeps_freshCheck hi hl hs hb he)

theorem keeps_admit {n : Lane} {v : Vehicle} {w : Weighing} {a : Admitted} (ht : p.traffic = true)
    (hi : p.ident = true) (hl : p.lanes = true) (hb : p.barriers = true) (he : p.events = true) :
    Keeps p s (s.letIn n v w a) := by
  unfold State.letIn
  dsimp only
  exact Keeps.ite (fun _ => ((keeps_createVisit ht hi he).trans (keeps_modLane hl)).trans (keeps_enterHeld hl he hb))
    fun _ => ((keeps_createVisit ht hi he).trans (keeps_modLane hl)).trans ((keeps_post he).trans (keeps_letGo hl he hb))

theorem keeps_admission {n : Lane} {w : Weighing} {i : Identity} (ht : p.traffic = true)
    (hi : p.ident = true) (hl : p.lanes = true) (hs : p.settings = true) (hb : p.barriers = true)
    (he : p.events = true) : Keeps p s (s.admission n w i) := by
  have conclude : ∀ (t : State) (v : Vehicle), Keeps p t (t.concludeEntry n v w i) := fun t v => by
    unfold State.concludeEntry
    split
    · exact keeps_refuse hl hs hb he
    · exact keeps_admit ht hi hl hb he
  unfold State.admission
  split
  · exact keeps_refuse hl hs hb he
  · exact conclude _ _
  · exact (keeps_createEntry hi).trans (conclude _ _)

/-! ### Tickets and printers -/

theorem keeps_queueJob {k : Nat} {n : Lane} {a : Fin 8} {c : Bool} (hp : p.printing = true) :
    Keeps p s (s.queueJob k n a c) := keeps_modPrinting hp

theorem keeps_releaseHold {k : Nat} {n : Lane} (hl : p.lanes = true) (hb : p.barriers = true) (he : p.events = true) :
    Keeps p s (s.releaseHold k n) :=
  Keeps.ite (fun _ => (keeps_modLane hl).trans (keeps_letGo hl he hb)) fun _ => Keeps.refl p _

theorem keeps_endJob_done {j : PrintJob} (hp : p.printing = true) (hk : p.tickets = true) (hl : p.lanes = true)
    (hb : p.barriers = true) (he : p.events = true) : Keeps p s (s.endJob j .done) := by
  unfold State.endJob
  exact (((keeps_modPrinting hp).trans (keeps_modTicket hk)).trans (keeps_post he)).trans
    (Keeps.eachLane (fun _ _ => keeps_releaseHold hl hb he) _)

theorem keeps_endJob_failed {j : PrintJob} {r : PrintFailure} (hp : p.printing = true) (hk : p.tickets = true)
    (he : p.events = true) : Keeps p s (s.endJob j (.failed r)) := by
  unfold State.endJob
  exact ((keeps_modPrinting hp).trans (keeps_modTicket hk)).trans (keeps_post he)

theorem keeps_queueCloseJob {n : Lane} {k : Nat} (hp : p.printing = true) (hk : p.tickets = true)
    (he : p.events = true) : Keeps p s (s.queueCloseJob n k) := by
  unfold State.queueCloseJob
  split
  · exact keeps_modTicket hk
  · exact Keeps.ite (fun _ => (keeps_modTicket hk).trans (keeps_post he)) fun _ =>
      (keeps_modTicket hk).trans (keeps_queueJob hp)

theorem keeps_storeTare {t : Token} {kg : Option Nat} (hi : p.ident = true) : Keeps p s (s.storeTare t kg) := by
  unfold State.storeTare
  split
  · exact Keeps.refl p _
  · exact keeps_modVehicle hi

theorem keeps_postLearned {t : Token} {kg : Option Nat} (he : p.events = true) : Keeps p s (s.postLearned t kg) := by
  unfold State.postLearned
  split
  · exact Keeps.refl p _
  · exact keeps_post he

theorem keeps_closeUpdate {v : Visit} (ht : p.traffic = true) (hi : p.ident = true) (hk : p.tickets = true) :
    Keeps p s (s.closeUpdate v) := by
  unfold State.closeUpdate
  exact (((keeps_modTraffic ht).trans (keeps_modAccount hi)).trans (keeps_modTickets hk)).trans (keeps_storeTare hi)

theorem keeps_closeVisit {n : Lane} {v : Visit} (ht : p.traffic = true) (hi : p.ident = true) (hk : p.tickets = true)
    (hp : p.printing = true) (hj : p.journalOrder = true) (hl : p.lanes = true) (hb : p.barriers = true)
    (he : p.events = true) : Keeps p s (s.closeVisit n v) := by
  have h3 : ∀ (k b : Nat) (o : Option Nat) (q : List Lane), Keeps p s
      ( { ((((s.closeUpdate v).judgeLevels v.stream b).postLearned v.token o).post .visitClosed (some n)
          (.visit v.number) (.ticket k)).queueCloseJob n k with journalOrder := q } : State) :=
    fun _ _ _ _ => (((((keeps_closeUpdate ht hi hk).trans (keeps_judgeLevels he)).trans (keeps_postLearned he)).trans
      (keeps_post he)).trans (keeps_queueCloseJob hp hk he)).trans (keeps_setJournalOrder hj)
  unfold State.closeVisit
  exact Keeps.ite (fun _ => (h3 _ _ _ _).trans ((keeps_modLane hl).trans (keeps_enterHeld hl he hb)))
    fun _ => (h3 _ _ _ _).trans (keeps_letGo hl he hb)

theorem keeps_journalCheck {n : Lane} {v : Visit} (ht : p.traffic = true) (hi : p.ident = true) (hk : p.tickets = true)
    (hp : p.printing = true) (hj : p.journalOrder = true) (hl : p.lanes = true) (hb : p.barriers = true)
    (he : p.events = true) : Keeps p s (s.journalCheck n v) := by
  unfold State.journalCheck
  refine Keeps.ite (fun _ => ?_) fun _ => keeps_closeVisit ht hi hk hp hj hl hb he
  exact ((keeps_post he).trans (keeps_enterHeld hl he hb)).trans (keeps_setJournalOrder hj)

theorem keeps_attachExit {n : Lane} {w : Weighing} {v : Visit} (ht : p.traffic = true) (hi : p.ident = true)
    (hk : p.tickets = true) (hp : p.printing = true) (hj : p.journalOrder = true) (hl : p.lanes = true)
    (hb : p.barriers = true) (he : p.events = true) : Keeps p s (s.attachExit n w v) := by
  have h1 : ∀ (f : LaneSeq → LaneSeq) (g : Visit → Visit), Keeps p s ((s.modLane n f).modVisit v.number g) :=
    fun _ _ => (keeps_modLane hl).trans (keeps_modVisit ht)
  unfold State.attachExit
  refine Keeps.ite (fun _ => (h1 _ _).trans ((keeps_post he).trans (keeps_enterHeld hl he hb))) fun _ => ?_
  exact Keeps.ite (fun _ => (h1 _ _).trans (keeps_enterHeld hl he hb)) fun _ =>
    (h1 _ _).trans (keeps_journalCheck ht hi hk hp hj hl hb he)

theorem keeps_exitDecision {n : Lane} {w : Weighing} {i : Identity} (ht : p.traffic = true) (hi : p.ident = true)
    (hk : p.tickets = true) (hp : p.printing = true) (hj : p.journalOrder = true) (hl : p.lanes = true)
    (hs : p.settings = true) (hb : p.barriers = true) (he : p.events = true) : Keeps p s (s.exitDecision n w i) := by
  unfold State.exitDecision
  split
  · exact keeps_refuse hl hs hb he
  · exact Keeps.ite (fun _ => keeps_refuse hl hs hb he) fun _ =>
      Keeps.ite (fun _ => keeps_refuse hl hs hb he) fun _ => keeps_attachExit ht hi hk hp hj hl hb he

theorem keeps_heldClose {n : Lane} (ht : p.traffic = true) (hi : p.ident = true) (hk : p.tickets = true)
    (hp : p.printing = true) (hj : p.journalOrder = true) (hl : p.lanes = true) (hb : p.barriers = true)
    (he : p.events = true) : Keeps p s (s.heldClose n) := by
  unfold State.heldClose
  split
  · exact Keeps.refl p _
  · exact Keeps.ite (fun _ => keeps_closeVisit ht hi hk hp hj hl hb he) fun _ => Keeps.refl p _

theorem keeps_takeClose {n : Lane} (ht : p.traffic = true) (hi : p.ident = true) (hk : p.tickets = true)
    (hp : p.printing = true) (hj : p.journalOrder = true) (hl : p.lanes = true) (hb : p.barriers = true)
    (he : p.events = true) : Keeps p s (s.takeClose n) := by
  unfold State.takeClose
  split
  · exact Keeps.ite (fun _ => keeps_attachExit ht hi hk hp hj hl hb he) fun _ => Keeps.refl p _
  · exact Keeps.refl p _
  · exact keeps_heldClose ht hi hk hp hj hl hb he

/-- A decision is called: nothing due, the postponement, or the procedure itself. -/
theorem keeps_decides {n : Lane} {d : Direction} {g : Weighing → Identity → State} (hl : p.lanes = true)
    (h : ∀ w i, Keeps p s (g w i)) : Keeps p s (s.decides n d g) := by
  unfold State.decides
  split
  · exact Keeps.refl p _
  · exact Keeps.ite (fun _ => keeps_modLane hl) fun _ => h _ _

/-! ### Loops and the clear-loop cycle -/

theorem keeps_postLoopFault {n : Lane} {side : LoopSide} {k : Option LoopFaultKind} (he : p.events = true) :
    Keeps p s (s.postLoopFault n side k) := by
  unfold State.postLoopFault
  split
  · exact Keeps.refl p _
  · exact keeps_post he

theorem keeps_entryPassed {n : Lane} (ht : p.traffic = true) : Keeps p s (s.entryPassed n) := by
  unfold State.entryPassed
  split
  · exact Keeps.ite (fun _ => keeps_modVisit ht) fun _ => Keeps.refl p _
  · exact Keeps.refl p _

theorem keeps_setCycle {n : Lane} {c : Option Bool} (hl : p.lanes = true) : Keeps p s (s.setCycle n c) :=
  keeps_modLane hl

theorem keeps_cycleEnds {n : Lane} {m : Bool} (ht : p.traffic = true) (hl : p.lanes = true) (hb : p.barriers = true)
    (he : p.events = true) : Keeps p s (s.cycleEnds n m) := by
  unfold State.cycleEnds
  exact Keeps.ite (fun _ => (keeps_setCycle hl).trans ((keeps_entryPassed ht).trans (keeps_enterClearing hl hb)))
    fun _ => Keeps.ite (fun _ => keeps_setCycle hl) fun _ => (keeps_setCycle hl).trans (keeps_post he)

theorem keeps_followCycle {n : Lane} {b : LoopReport} (ht : p.traffic = true) (hl : p.lanes = true)
    (hb : p.barriers = true) (he : p.events = true) : Keeps p s (s.followCycle n b) := by
  unfold State.followCycle
  split
  · exact keeps_setCycle hl
  · split
    · exact keeps_cycleEnds ht hl hb he
    · exact Keeps.refl p _
  · exact keeps_setCycle hl

theorem keeps_barrierHears {n : Lane} (hb : p.barriers = true) : Keeps p s (s.barrierHears n) := by
  unfold State.barrierHears
  split
  · exact Keeps.refl p _
  · exact keeps_reverse hb
  · exact keeps_reverse hb
  · exact keeps_seek hb
  · exact Keeps.refl p _

theorem keeps_loopOutOfHours {n : Lane} {side : LoopSide} {b : LoopReport} (he : p.events = true) :
    Keeps p s (s.loopOutOfHours n side b) :=
  Keeps.ite (fun _ => keeps_post he) fun _ => Keeps.refl p _

theorem keeps_laneHears {n : Lane} {side : LoopSide} {b : LoopReport} (ht : p.traffic = true) (hl : p.lanes = true)
    (hs : p.settings = true) (hb : p.barriers = true) (he : p.events = true) : Keeps p s (s.laneHears n side b) := by
  unfold State.laneHears
  split
  · exact (keeps_followCycle ht hl hb he).trans (keeps_laneSettle hl hs hb)
  · exact Keeps.trans (Keeps.ite (fun _ => keeps_examineCapture hl he) fun _ => Keeps.refl p _)
      (keeps_laneSettle hl hs hb)

theorem keeps_reportChanged {n : Lane} {side : LoopSide} {b : LoopReport} (ht : p.traffic = true)
    (hl : p.lanes = true) (hs : p.settings = true) (hb : p.barriers = true) (he : p.events = true) :
    Keeps p s (s.reportChanged n side b) := by
  unfold State.reportChanged
  refine Keeps.ite (fun _ => Keeps.refl p _) fun _ => ?_
  cases side
  · exact (keeps_loopOutOfHours he).trans (keeps_laneHears ht hl hs hb he)
  · exact ((keeps_loopOutOfHours he).trans (keeps_laneHears ht hl hs hb he)).trans (keeps_barrierHears hb)

/-! ### Records -/

theorem keeps_cleanRecord (hk : p.link = true) (he : p.events = true) : Keeps p s s.cleanRecord := by
  unfold State.cleanRecord
  exact (keeps_modLink hk).trans (Keeps.ite (fun _ => Keeps.refl p _) fun _ => keeps_post he)

theorem keeps_receive {h : RecHead} (hk : p.link = true) (he : p.events = true) : Keeps p s (s.receive h) :=
  (keeps_modLink hk).trans (keeps_cleanRecord hk he)

theorem keeps_answer {h : RecHead} {c : ResultCode} (hk : p.link = true) : Keeps p s (s.answer h c) :=
  keeps_modLink hk

/-- What an act on the addressed channel keeps, its record keeps. -/
theorem keeps_takeRecord {h : RecHead} {t : ChanType} {act : State → State × ResultCode} (hk : p.link = true)
    (he : p.events = true) (ha : ∀ s1, Keeps p s1 (act s1).1) : Keeps p s (s.takeRecord h t act) := by
  unfold State.takeRecord
  refine Keeps.ite (fun _ => ?_) fun _ => Keeps.refl p _
  refine (keeps_receive (h := h) hk he).trans ?_
  refine Keeps.ite (fun _ => ?_) fun _ => Keeps.refl p _
  exact Keeps.ite (fun _ => (ha _).trans (keeps_answer hk)) fun _ => keeps_answer hk

theorem keeps_takeSite {h : RecHead} {act : State → State × ResultCode} (hk : p.link = true)
    (he : p.events = true) (ha : ∀ s1, Keeps p s1 (act s1).1) : Keeps p s (s.takeSite h act) :=
  keeps_takeRecord hk he ha

theorem keeps_takeLane {h : RecHead} {act : Lane → State → State × ResultCode} (hk : p.link = true)
    (he : p.events = true) (ha : ∀ n s1, Keeps p s1 (act n s1).1) : Keeps p s (s.takeLane h act) := by
  refine keeps_takeRecord hk he fun s1 => ?_
  split
  · exact Keeps.refl p _
  · exact ha _ _

/-- A READ keeps what it does not take from the queue of events. -/
theorem keeps_takeRead {h : RecHead} {t : ChanType} {act : State → Except ResultCode ReadOut} (hk : p.link = true)
    (he : p.events = true) (ha : ∀ s1 out, act s1 = .ok out → Keeps p s1 out.state) :
    Keeps p s (s.takeRead h t act) := by
  unfold State.takeRead
  refine Keeps.ite (fun _ => ?_) fun _ => Keeps.refl p _
  refine (keeps_receive (h := h) hk he).trans ?_
  refine Keeps.ite (fun _ => ?_) fun _ => Keeps.refl p _
  refine Keeps.ite (fun _ => ?_) fun _ => keeps_answer hk
  split
  · exact keeps_answer hk
  · refine Keeps.ite (fun _ => (ha _ _ ‹_›).trans (keeps_modLink hk)) fun _ => keeps_answer hk

theorem keeps_takeTurn {h : RecHead} (hk : p.link = true) (he : p.events = true) : Keeps p s (s.takeTurn h) := by
  unfold State.takeTurn
  refine Keeps.ite (fun _ => ?_) fun _ => Keeps.refl p _
  exact ((keeps_receive hk he).trans (keeps_modLink hk)).trans
    (Keeps.ite (fun _ => keeps_modLink hk) fun _ => Keeps.refl p _)

theorem keeps_takeDamaged {e : LinkErrors} {b : Bool} (hk : p.link = true) : Keeps p s (s.takeDamaged e b) :=
  Keeps.ite (fun _ => keeps_modLink hk) fun _ => Keeps.refl p _

theorem keeps_takeHeaderBad {e : LinkErrors} (hk : p.link = true) : Keeps p s (s.takeHeaderBad e) :=
  Keeps.ite (fun _ => keeps_modLink hk) fun _ => Keeps.refl p _

theorem keeps_guarded {α β : Type} {b : Body α} {read : α → Option β} {act : β → State → State × ResultCode}
    (ha : ∀ f s1, Keeps p s1 (act f s1).1) : Keeps p s (State.guarded b read act s).1 := by
  unfold State.guarded
  split
  · exact Keeps.refl p _
  · split
    · exact Keeps.refl p _
    · split
      · exact Keeps.refl p _
      · exact ha _ _

theorem keeps_calTakes {α β : Type} {b : Body α} {read : α → Option β} {act : β → State × ResultCode} {n : Lane}
    (ha : ∀ f, Keeps p s (act f).1) : Keeps p s (s.calTakes b read act n).1 := by
  unfold State.calTakes
  split
  · exact Keeps.refl p _
  · split
    · exact Keeps.refl p _
    · split
      · exact Keeps.refl p _
      · exact ha _

end Sys2Proof.Machine
end

