-- ==== Sys2Proof/Laws/FrameActs.lean ====
section
/-! SUPPORT. What each command's own operation leaves alone, over the frames of the shared operations. -/

namespace Sys2Proof.Machine

variable {p : Parts} {s : State}

/-! ### Clock, loops and barriers -/

theorem keeps_tickLane {n} (hc : p.cal = true) (hd : p.decks = true) (he : p.events = true) (ho : p.loops = true) (hr
    : p.readers = true) (hq : p.lists = true) (hl : p.lanes = true) : Keeps p s (s.tickLane n) :=
  ((((keeps_trackZero hc hd he).trans (keeps_modLoops ho)).trans (keeps_modReaders hr)).trans (keeps_modList
      hq)).trans (keeps_modLane hl)

theorem keeps_advance (hk : p.clock = true) (ht : p.traffic = true) (hc : p.cal = true) (hd : p.decks = true) (he :
    p.events = true) (ho : p.loops = true) (hr : p.readers = true) (hq : p.lists = true) (hl : p.lanes = true) (hn :
    p.link = true) : Keeps p s s.advance :=
  (((keeps_modClock hk).trans (keeps_modTraffic ht)).trans (Keeps.eachLane (fun _ _ => keeps_tickLane hc hd he ho hr
      hq hl) _)).trans (keeps_modLink hn)

theorem keeps_postExpired {n} (he : p.events = true) : ∀ es, ∀ s : State, Keeps p s (s.postExpired n es)
  | [], s => Keeps.refl p s
  | _ :: es, _ => (keeps_post he).trans (keeps_postExpired he es _)

theorem keeps_sweepVehicle {v} (hi : p.ident = true) (he : p.events = true) : Keeps p s (s.sweepVehicle v) := by
  unfold State.sweepVehicle
  refine Keeps.ite (fun _ => (keeps_modIdent hi).trans (keeps_post he)) fun _ => ?_
  split
  · exact Keeps.refl p _
  · exact (keeps_modVehicle hi).trans (keeps_post he)

theorem keeps_sweepVehicles (hi : p.ident = true) (he : p.events = true) : ∀ vs, ∀ s : State, Keeps p s
    (s.sweepVehicles vs)
  | [], s => Keeps.refl p s
  | _ :: es, _ => (keeps_sweepVehicle hi he).trans (keeps_sweepVehicles hi he es _)

theorem keeps_minute (hk : p.clock = true) (hi : p.ident = true) (he : p.events = true) (hq : p.lists = true) : Keeps
    p s s.minuteSweeps := by
  unfold State.minuteSweeps
  refine Keeps.ite (fun _ => ?_) fun _ => Keeps.refl p _
  exact ((keeps_modClock hk).trans (Keeps.eachLane (fun _ _ => (keeps_modList hq).trans (keeps_postExpired he _ _))
      _)).trans (keeps_sweepVehicles hi he _ _)

theorem keeps_cancelHeld  (ht : p.traffic = true) (hi : p.ident = true) (he : p.events = true) (hl : p.lanes = true)
    (hs : p.settings = true) (hb : p.barriers = true) : ∀ vs, ∀ s : State, Keeps p s (s.cancelHeld vs)
  | [], s => Keeps.refl p s
  | _ :: es, _ => (Keeps.ite (fun _ => keeps_endEntryHold ht hi he hl hs hb) fun _ => Keeps.refl p _).trans
      (keeps_cancelHeld ht hi he hl hs hb es _)

theorem keeps_linkExpires (hk : p.link = true) (ht : p.traffic = true) (hi : p.ident = true) (he : p.events = true)
    (hl : p.lanes = true) (hs : p.settings = true) (hb : p.barriers = true) : Keeps p s s.linkExpires := by
  unfold State.linkExpires
  exact Keeps.ite (fun _ => ((keeps_modLink hk).trans (keeps_post he)).trans (keeps_cancelHeld ht hi he hl hs hb _ _))
      fun _ => Keeps.refl p _

theorem keeps_stuck {n side} (ho : p.loops = true) (he : p.events = true) : Keeps p s (s.stuckExpires n side) := by
  unfold State.stuckExpires
  exact Keeps.ite (fun _ => (keeps_modLoop ho).trans (keeps_post he)) fun _ => Keeps.refl p _

theorem keeps_approvalExpires {k} (ht : p.traffic = true) (hi : p.ident = true) (he : p.events = true) (hl : p.lanes =
    true) (hs : p.settings = true) (hb : p.barriers = true) : Keeps p s (s.approvalExpires k) := by
  unfold State.approvalExpires
  split
  · exact Keeps.refl p _
  · exact Keeps.ite (fun _ => keeps_endEntryHold ht hi he hl hs hb) fun _ => Keeps.refl p _

theorem keeps_passExpires {k} (ht : p.traffic = true) (hi : p.ident = true) (he : p.events = true) (hl : p.lanes =
    true) (hs : p.settings = true) (hb : p.barriers = true) : Keeps p s (s.passExpires k) := by
  unfold State.passExpires
  split
  · exact Keeps.refl p _
  · exact Keeps.ite (fun _ => ((keeps_cancelVisit ht hi he).trans (keeps_post he)).trans (keeps_enterRefused hl hs
        hb)) fun _ => Keeps.refl p _

theorem keeps_measure {n side k} (ho : p.loops = true) (ht : p.traffic = true) (he : p.events = true) (hl : p.lanes =
    true) (hs : p.settings = true) (hb : p.barriers = true) : Keeps p s (s.measureLoop n side k) := by
  unfold State.measureLoop
  exact ((keeps_modLoop ho).trans (keeps_postLoopFault he)).trans (keeps_reportChanged ht hl hs hb he)

theorem keeps_switchActs {n side a} (he : p.events = true) (hl : p.lanes = true) (hs : p.settings = true) (hb :
    p.barriers = true) : Keeps p s (s.switchActs n side a) := by
  unfold State.switchActs
  split <;> first | exact keeps_barrierRests hl hs hb | exact keeps_enterFault hl hs hb he | exact Keeps.refl p _ |
      exact (keeps_modBarrier hb).trans (keeps_barrierRests hl hs hb)

theorem keeps_switch {n side a} (he : p.events = true) (hl : p.lanes = true) (hs : p.settings = true) (hb : p.barriers
    = true) : Keeps p s (s.switchChanges n side a) := by
  unfold State.switchChanges
  refine Keeps.ite (fun _ => Keeps.refl p _) fun _ => ?_
  dsimp only
  refine Keeps.ite (fun _ => ?_) fun _ => (keeps_modBarrier hb).trans (keeps_switchActs he hl hs hb)
  exact Keeps.ite (fun _ => keeps_modBarrier hb) fun _ => (keeps_modBarrier hb).trans (keeps_enterFault hl hs hb he)

theorem keeps_trip {n} (he : p.events = true) (hl : p.lanes = true) (hs : p.settings = true) (hb : p.barriers = true)
    : Keeps p s (s.tripInMotion n) := by
  unfold State.tripInMotion
  split
  · unfold State.obstructed
    dsimp only
    exact Keeps.ite (fun _ => ((keeps_modBarrier hb).trans (keeps_post he)).trans (keeps_reverse hb)) fun _ =>
        ((keeps_modBarrier hb).trans (keeps_post he)).trans (keeps_enterFault hl hs hb he)
  · exact keeps_enterFault hl hs hb he
  · exact Keeps.refl p _

theorem keeps_trips {n} (he : p.events = true) (hl : p.lanes = true) (hs : p.settings = true) (hb : p.barriers = true)
    : Keeps p s (s.comparatorTrips n) := by
  unfold State.comparatorTrips
  dsimp only
  split
  · exact Keeps.ite (fun _ => keeps_modBarrier hb) fun _ => (keeps_modBarrier hb).trans (keeps_enterFault hl hs hb he)
  · exact Keeps.ite (fun _ => keeps_modBarrier hb) fun _ => (keeps_modBarrier hb).trans (keeps_trip he hl hs hb)

theorem keeps_blank {n} (he : p.events = true) (hl : p.lanes = true) (hs : p.settings = true) (hb : p.barriers = true)
    : Keeps p s (s.blankingEnds n) := by
  unfold State.blankingEnds
  dsimp only
  exact Keeps.ite (fun _ => (keeps_modBarrier hb).trans (keeps_trip he hl hs hb)) fun _ => keeps_modBarrier hb

/-! ### Readers, printers and manual working -/

theorem keeps_readToken {n side t} (hr : p.readers = true) (hq : p.lists = true) (hi : p.ident = true) (he : p.events
    = true) (hl : p.lanes = true) (hs : p.settings = true) (hb : p.barriers = true) : Keeps p s (s.readToken n side t)
    := by
  unfold State.readToken
  refine Keeps.ite (fun _ => Keeps.refl p _) fun _ => ?_
  unfold State.acceptRead
  dsimp only
  refine Keeps.ite (fun _ => (keeps_modPort hr).trans (keeps_post he)) fun _ => ?_
  cases side
  · exact (keeps_modPort hr).trans (keeps_approachRead hq he)
  · exact (keeps_modPort hr).trans (Keeps.ite (fun _ => keeps_identify hq hi hl hs hb he) fun _ => Keeps.refl p _)

theorem keeps_gather {n side bs} (hr : p.readers = true) (hq : p.lists = true) (hi : p.ident = true) (he : p.events =
    true) (hl : p.lanes = true) (hs : p.settings = true) (hb : p.barriers = true) : Keeps p s (s.gather n side bs) :=
    by
  refine Keeps.foldl (fun t b => ?_) bs s
  unfold State.gatherByte
  refine Keeps.ite (fun _ => keeps_modPort hr) fun _ => ?_
  dsimp only
  split
  · exact keeps_modPort hr
  · exact (keeps_modPort hr).trans (keeps_readToken hr hq hi he hl hs hb)

theorem keeps_setBusJob {st} (hp : p.printing = true) : Keeps p s (s.setBusJob st) := keeps_modPrinting hp

theorem keeps_settleManual {n v} (ht : p.traffic = true) (hi : p.ident = true) (he : p.events = true) (hl : p.lanes =
    true) : Keeps p s (s.settleManual n v) := by
  unfold State.settleManual
  split
  any_goals exact keeps_modVisit ht
  any_goals exact Keeps.refl p _
  · exact Keeps.ite (fun _ => (keeps_cancelVisit ht hi he).trans (keeps_modLane hl)) fun _ => keeps_modVisit ht
  any_goals exact Keeps.ite (fun _ => keeps_modVisit ht) fun _ => Keeps.refl p _

theorem keeps_enterManual {n} (ht : p.traffic = true) (hi : p.ident = true) (he : p.events = true) (hl : p.lanes =
    true) (hb : p.barriers = true) (hj : p.journalOrder = true) : Keeps p s (s.enterManual n) := by
  unfold State.enterManual
  dsimp only
  split
  · exact (((keeps_settleManual ht hi he hl).trans (keeps_modLane hl)).trans (keeps_post he)).trans
        ((keeps_setJournalOrder hj).trans (keeps_command hb))
  · exact ((keeps_modLane hl).trans (keeps_post he)).trans ((keeps_setJournalOrder hj).trans (keeps_command hb))

theorem keeps_relearn {n side} (ho : p.loops = true) (he : p.events = true) (hl : p.lanes = true) (hs : p.settings =
    true) (hb : p.barriers = true) : Keeps p s (s.relearn n side) := by
  have hrep : ((s.modLoop n side relearnedLoop).loop n side).report = .occupied := by
    cases side <;> simp [State.modLoop, State.loop, Loop.report, relearnedLoop]
  have hcond : ((s.modLoop n side relearnedLoop).loop n side).condition = .start := by
    cases side <;> simp [State.modLoop, State.loop, relearnedLoop]
  have h1 : Keeps p s ((s.modLoop n side relearnedLoop).reportChanged n side (s.loop n side).report) := by
    refine (keeps_modLoop (n := n) (side := side) (f := relearnedLoop) ho).trans ?_
    unfold State.reportChanged
    refine Keeps.ite (fun _ => Keeps.refl p _) fun hne => ?_
    have hlh : ∀ t : State, (t.loop n side).report = .occupied → (t.loop n side).condition = .start → Keeps p t
        (t.laneHears n side (s.loop n side).report) := by
      intro t h1 h2
      cases side
      · exact Keeps.trans (Keeps.ite (fun _ => keeps_examineCapture hl he) fun _ => Keeps.refl p _) (keeps_laneSettle
            hl hs hb)
      · refine Keeps.trans (t := t.followCycle n (s.loop n .clear).report) ?_ (keeps_laneSettle hl hs hb)
        unfold State.followCycle
        rw [h1, h2]
        split
        · exact keeps_setCycle hl
        · simp_all
        · exact keeps_setCycle hl
    have hoh : Keeps p (s.modLoop n side relearnedLoop) ((s.modLoop n side relearnedLoop).loopOutOfHours n side
        (s.loop n side).report) := keeps_loopOutOfHours he
    have e1 : ∀ (t : State) b, ((t.loopOutOfHours n side b).loop n side) = t.loop n side := by
      intro t b; unfold State.loopOutOfHours; split <;> rfl
    cases side
    · exact hoh.trans (hlh _ (by rw [e1]; exact hrep) (by rw [e1]; exact hcond))
    · exact (hoh.trans (hlh _ (by rw [e1]; exact hrep) (by rw [e1]; exact hcond))).trans (keeps_barrierHears hb)
  unfold State.relearn
  cases side
  · exact h1
  · exact h1.trans (keeps_setCycle hl)

theorem keeps_restartLane {n} (hl : p.lanes = true) (hs : p.settings = true) (hb : p.barriers = true) : Keeps p s
    (s.restartLane n) := by
  unfold State.restartLane
  dsimp only
  exact Keeps.ite (fun _ => (keeps_modLane hl).trans (keeps_enterClosed hl hs hb)) fun _ => (keeps_modLane hl).trans
      (keeps_enterIdle hl hs hb)

/-! ### What a record does -/

theorem keeps_siteOpens (hs : p.settings = true) (hl : p.lanes = true) : Keeps p s s.siteOpens.1 := by
  unfold State.siteOpens
  dsimp only
  exact (keeps_modSettings hs).trans (Keeps.eachLane (fun _ _ => keeps_modLane hl) _)

theorem keeps_siteClosesLane {n} (hs : p.settings = true) (hl : p.lanes = true) (hb : p.barriers = true) : Keeps p s
    (s.siteClosesLane n) := by
  unfold State.siteClosesLane
  split
  · exact keeps_enterClosed hl hs hb
  · exact Keeps.refl _ _
  · exact keeps_modLane hl

theorem keeps_siteCloses (hs : p.settings = true) (hl : p.lanes = true) (hb : p.barriers = true) : Keeps p s
    s.siteCloses.1 := by
  unfold State.siteCloses
  dsimp only
  exact (keeps_modSettings hs).trans (Keeps.eachLane (fun _ _ => keeps_siteClosesLane hs hl hb) _)

theorem keeps_laneOpens {n} (hs : p.settings = true) (hl : p.lanes = true) (hb : p.barriers = true) : Keeps p s
    (State.laneOpens n s).1 := by
  unfold State.laneOpens
  split; · exact Keeps.refl _ _
  split; · exact Keeps.refl _ _
  dsimp only
  exact (keeps_modLaneSettings hs).trans (keeps_enterIdle hl hs hb)

theorem keeps_laneCloses {n} (hs : p.settings = true) (hl : p.lanes = true) (hb : p.barriers = true) : Keeps p s
    (State.laneCloses n s).1 := by
  unfold State.laneCloses
  split
  · dsimp only; exact keeps_enterClosed hl hs hb
  · exact Keeps.refl _ _

theorem keeps_laneClears {n} (hs : p.settings = true) (hl : p.lanes = true) (hb : p.barriers = true) : Keeps p s
    (State.laneClears n s).1 := by
  unfold State.laneClears
  split
  · dsimp only; exact keeps_enterIdle hl hs hb
  · exact Keeps.refl _ _

theorem keeps_barrierRaises {n} (ht : p.traffic = true) (hi : p.ident = true) (he : p.events = true) (hl : p.lanes =
    true) (hb : p.barriers = true) (hj : p.journalOrder = true) : Keeps p s (State.barrierRaises n s).1 := by
  unfold State.barrierRaises
  split <;> dsimp only <;> first | exact Keeps.refl _ _ | exact keeps_enterManual ht hi he hl hb hj

theorem keeps_barrierLowers {n} (hl : p.lanes = true) (hb : p.barriers = true) : Keeps p s (State.barrierLowers n s).1
    := by
  unfold State.barrierLowers
  split
  · dsimp only; exact keeps_enterClearing hl hb
  · exact Keeps.refl _ _

theorem keeps_faultLeft {n} (he : p.events = true) (hs : p.settings = true) (hl : p.lanes = true) (hb : p.barriers =
    true) : Keeps p s (s.faultLeft n) := by
  unfold State.faultLeft
  split
  · exact keeps_letGo hl he hb
  · exact Keeps.ite (fun _ => keeps_enterIdle hl hs hb) fun _ => Keeps.refl _ _
  · exact keeps_laneSettle hl hs hb
  · exact Keeps.refl _ _

theorem keeps_barrierResets {n} (he : p.events = true) (hs : p.settings = true) (hl : p.lanes = true) (hb : p.barriers
    = true) : Keeps p s (State.barrierResets n s).1 := by
  unfold State.barrierResets
  split
  · dsimp only
    split
    · dsimp only; exact (keeps_modBarrier hb).trans (keeps_enterFault hl hs hb he)
    · dsimp only; exact (((keeps_modBarrier hb).trans (keeps_modBarrier hb)).trans (keeps_faultLeft he hs hl
          hb)).trans (keeps_seek hb)
  · exact Keeps.refl _ _

theorem keeps_approves {k n} (ht : p.traffic = true) (hi : p.ident = true) (hk : p.tickets = true)
    (hp : p.printing = true) (hj : p.journalOrder = true) (hl : p.lanes = true) (hb : p.barriers = true)
    (he : p.events = true) : Keeps p s (State.approves k n s).1 := by
  unfold State.approves
  split; · exact Keeps.refl _ _
  split; · exact Keeps.refl _ _
  split; · dsimp only; exact ((keeps_modVisit ht).trans (keeps_post he)).trans (keeps_letGo hl he hb)
  split; · exact Keeps.refl _ _
  dsimp only
  exact keeps_journalCheck ht hi hk hp hj hl hb he

theorem keeps_declines {k n} (ht : p.traffic = true) (hi : p.ident = true) (he : p.events = true) (hl : p.lanes =
    true) (hs : p.settings = true) (hb : p.barriers = true) : Keeps p s (State.declines k n s).1 := by
  unfold State.declines
  split; · exact Keeps.refl _ _
  split; · exact Keeps.refl _ _
  split; · dsimp only; exact keeps_endEntryHold ht hi he hl hs hb
  exact Keeps.refl _ _

theorem keeps_returns {k n} (ht : p.traffic = true) (he : p.events = true) (hl : p.lanes = true) (hs : p.settings =
    true) (hb : p.barriers = true) : Keeps p s (State.returns k n s).1 := by
  unfold State.returns
  split; · exact Keeps.refl _ _
  split; · exact Keeps.refl _ _
  dsimp only
  exact ((keeps_modVisit ht).trans (keeps_postRefused he)).trans (keeps_enterRefused hl hs hb)

theorem keeps_zeroes {n} (hc : p.cal = true) (hd : p.decks = true) : Keeps p s (State.zeroes n s).1 := by
  unfold State.zeroes
  split; · exact Keeps.refl _ _
  split; · exact Keeps.refl _ _
  split; · dsimp only; exact keeps_moveZero hc hd
  exact Keeps.refl _ _

theorem keeps_newDay (ht : p.traffic = true) : Keeps p s s.newDay.1 := by
  unfold State.newDay
  dsimp only
  exact keeps_modTraffic ht

theorem keeps_linkResets (hk : p.link = true) (he : p.events = true) : Keeps p s s.linkResets.1 := by
  unfold State.linkResets
  dsimp only
  exact (keeps_modLink hk).trans (keeps_setEvents he)

theorem keeps_restarted {q l j} (hr : p.readers = true) (hq : p.lists = true) (hj : p.journalOrder = true) :
    Keeps p s { s with readers := q, lists := l, journalOrder := j } := by
  constructor <;> first | exact fun _ => rfl | exact fun _ _ => rfl | rfl | skip
  · exact fun hp => Bool.noConfusion (hr.symm.trans hp)
  · exact fun hp => Bool.noConfusion (hq.symm.trans hp)
  · exact fun hp => Bool.noConfusion (hj.symm.trans hp)

theorem keeps_startedAndTreated {c f} (ht : p.traffic = true) (hi : p.ident = true) (he : p.events = true) : Keeps p s
    (s.startedAndTreated c f) :=
  (keeps_post he).trans (keeps_treatVisits ht hi he _ _)

theorem keeps_resetLanes (ht : p.traffic = true) (hi : p.ident = true) (he : p.events = true) (hr : p.readers = true)
    (hq : p.lists = true) (hj : p.journalOrder = true) (hl : p.lanes = true) (hs : p.settings = true) (hb : p.barriers
    = true) : Keeps p s s.lanesReset.1 := by
  unfold State.lanesReset State.resetLanes
  dsimp only
  exact (((keeps_startedAndTreated ht hi he).trans (keeps_restarted hr hq hj)).trans (Keeps.eachLane (fun _ _ =>
      keeps_restartLane hl hs hb) _)).trans (Keeps.eachLane (fun _ _ => keeps_command hb) _)

theorem keeps_allResets (hk : p.link = true) : Keeps p s s.allResets.1 := by
  unfold State.allResets
  dsimp only
  exact keeps_modLink hk

theorem keeps_timeSet {b} (hk : p.clock = true) : Keeps p s (State.timeSet b s).1 := by
  unfold State.timeSet
  split
  · exact Keeps.refl _ _
  · dsimp only; exact keeps_modClock hk

theorem keeps_vehicleWrites {f} (hi : p.ident = true) : Keeps p s (State.vehicleWrites f s).1 := by
  unfold State.vehicleWrites
  split; · dsimp only; exact keeps_modIdent hi
  split
  · exact Keeps.refl _ _
  · dsimp only; exact keeps_modIdent hi

theorem keeps_vehicleDeletes {f} (hi : p.ident = true) (hq : p.lists = true) : Keeps p s (State.vehicleDeletes f s).1
    := by
  unfold State.vehicleDeletes
  split; · exact Keeps.refl _ _
  split
  · exact Keeps.refl _ _
  · dsimp only; exact (keeps_modIdent hi).trans (keeps_unlist hq)

theorem keeps_accountWrites {f} (hi : p.ident = true) : Keeps p s (State.accountWrites f s).1 := by
  unfold State.accountWrites
  dsimp only
  exact keeps_modAccount hi

theorem keeps_periodResets {f} (hi : p.ident = true) : Keeps p s (State.periodResets f s).1 := by
  unfold State.periodResets
  split
  · dsimp only; exact keeps_modAccount hi
  · dsimp only; exact keeps_modIdent hi

theorem keeps_idents {b n} (hi : p.ident = true) (hq : p.lists = true) (he : p.events = true) (hl : p.lanes = true)
    (hs : p.settings = true) (hb : p.barriers = true) : Keeps p s (State.idents b n s).1 := by
  unfold State.idents
  split; · exact Keeps.refl _ _
  split; · exact Keeps.refl _ _
  split; · dsimp only; exact keeps_identify hq hi hl hs hb he
  exact Keeps.refl _ _

theorem keeps_zeroStarts {n} (hd : p.decks = true) : Keeps p s (s.zeroStarts n).1 := by
  unfold State.zeroStarts
  split
  · dsimp only; exact keeps_modDeck hd
  · exact Keeps.refl _ _

theorem keeps_spanStarts {n k} (hd : p.decks = true) : Keeps p s (s.spanStarts n k).1 := by
  unfold State.spanStarts
  split
  · dsimp only; exact keeps_modDeck hd
  · exact Keeps.refl _ _

theorem keeps_trims {n f} (hc : p.cal = true) (hd : p.decks = true) (he : p.events = true) (hl : p.lanes = true) :
    Keeps p s (s.trims n f).1 := by
  unfold State.trims
  dsimp only
  exact (keeps_calSucceeds hc hd he).trans (keeps_emptyFilter hd hl)

theorem keeps_ranges {n f} (hc : p.cal = true) (hd : p.decks = true) (he : p.events = true) : Keeps p s (s.ranges n
    f).1 := by
  unfold State.ranges
  split
  · exact Keeps.refl _ _
  · dsimp only; exact (keeps_calSucceeds hc hd he).trans (keeps_modDeck hd)

theorem keeps_calAborts {n} (hd : p.decks = true) (he : p.events = true) : Keeps p s (State.calAborts n s).1 := by
  unfold State.calAborts
  split; · exact Keeps.refl _ _
  split; · dsimp only; exact keeps_abortOp hd he
  exact Keeps.refl _ _

theorem keeps_ticketsReleased {f} (ht : p.traffic = true) (hi : p.ident = true) (hk : p.tickets = true) (hp : p.printing
    = true) (hj : p.journalOrder = true) (hl : p.lanes = true) (hb : p.barriers = true) (he : p.events = true) :
    Keeps p s (State.ticketsReleased f s).1 := by
  unfold State.ticketsReleased
  split; · exact Keeps.refl _ _
  split; · exact Keeps.refl _ _
  exact (keeps_modTickets hk).trans (Keeps.foldl (fun _ _ => keeps_heldClose ht hi hk hp hj hl hb he) _ _)

theorem keeps_ticketReprints {f} (hk : p.printing = true) : Keeps p s (State.ticketReprints f s).1 := by
  unfold State.ticketReprints
  split; · exact Keeps.refl _ _
  · exact Keeps.refl _ _
  split; · exact Keeps.refl _ _
  split; · exact Keeps.refl _ _
  dsimp only
  exact keeps_queueJob hk

theorem keeps_stockSet {f} (ht : p.traffic = true) (he : p.events = true) : Keeps p s (State.stockSet f s).1 := by
  unfold State.stockSet
  dsimp only
  exact (keeps_modTraffic ht).trans (keeps_judgeLevels he)

theorem keeps_settingsSet {f} (hs : p.settings = true) : Keeps p s (State.settingsSet f s).1 := by
  unfold State.settingsSet
  dsimp only
  exact keeps_modSettings hs

theorem keeps_laneSettingsSet {n f} (hs : p.settings = true) : Keeps p s (State.laneSettingsSet n f s).1 := by
  unfold State.laneSettingsSet
  dsimp only
  exact keeps_modLaneSettings hs

theorem keeps_deckSettingsSet {n f} (hs : p.settings = true) : Keeps p s (State.deckSettingsSet n f s).1 := by
  unfold State.deckSettingsSet
  dsimp only
  exact keeps_modDeckSettings hs

theorem keeps_cellsSet {n f} (hc : p.cal = true) (hd : p.decks = true) (he : p.events = true) (hl : p.lanes = true)
    (hs : p.settings = true) (hb : p.barriers = true) : Keeps p s (State.cellsSet n f s).1 := by
  unfold State.cellsSet
  split; · exact Keeps.refl _ _
  split; · exact Keeps.refl _ _
  split; · exact Keeps.refl _ _
  dsimp only
  exact ((keeps_modDeckSettings hs).trans (keeps_modCal hc)).trans (keeps_afterReasons hd hl hs hb he)

theorem keeps_loopSet {n f} (ho : p.loops = true) (he : p.events = true) (hl : p.lanes = true) (hs : p.settings =
    true) (hb : p.barriers = true) : Keeps p s (State.loopSet n f s).1 := by
  unfold State.loopSet
  dsimp only
  exact Keeps.ite (fun _ => (keeps_modLaneSettings hs).trans (keeps_relearn ho he hl hs hb)) fun _ =>
      keeps_modLaneSettings hs

theorem keeps_listsSet {f} (hs : p.settings = true) : Keeps p s (State.listsSet f s).1 := by
  unfold State.listsSet
  split; · exact Keeps.refl _ _
  split; · exact Keeps.refl _ _
  dsimp only
  exact keeps_modSettings hs

theorem keeps_vehicleTableSet {f} (hs : p.settings = true) : Keeps p s (State.vehicleTableSet f s).1 := by
  unfold State.vehicleTableSet
  split; · exact Keeps.refl _ _
  exact keeps_settingsSet hs

theorem keeps_enterWarning (hw : p.power = true) (hd : p.decks = true) (he : p.events = true) : Keeps p s
    s.enterWarning :=
  ((keeps_modPower hw).trans (keeps_post he)).trans (Keeps.eachLane (fun _ _ => keeps_abortOp hd he) _)

theorem keeps_judgeSupply {k} (hw : p.power = true) (hd : p.decks = true) (he : p.events = true) : Keeps p s
    (s.judgeSupply k) :=
  Keeps.ite (fun _ => keeps_enterWarning hw hd he) fun _ => Keeps.refl p _

theorem keeps_warnLevelSet {k f} (hs : p.settings = true) (hw : p.power = true) (hd : p.decks = true) (he : p.events =
    true) : Keeps p s (State.warnLevelSet k f s).1 := by
  unfold State.warnLevelSet
  dsimp only
  exact (keeps_modSettings hs).trans (keeps_judgeSupply hw hd he)

theorem keeps_warningEnds {k} (hw : p.power = true) (hl : p.lanes = true) (he : p.events = true) : Keeps p s
    (s.warningEnds k) :=
  Keeps.ite (fun _ => ((keeps_modPower hw).trans (keeps_post he)).trans (Keeps.eachLane (fun _ _ => keeps_modLane hl)
      _)) fun _ => Keeps.refl p _

theorem keeps_calEnableFalls (hw : p.power = true) (hd : p.decks = true) (he : p.events = true) : Keeps p s
    s.calEnableFalls := by
  unfold State.calEnableFalls
  dsimp only
  exact Keeps.ite (fun _ => (keeps_modPower hw).trans (Keeps.eachLane (fun _ _ => keeps_abortOp hd he) _)) fun _ =>
      keeps_modPower hw

theorem keeps_postStartFault {n} (he : p.events = true) : Keeps p s (s.postStartFault n) := by
  unfold State.postStartFault
  split
  · exact keeps_post he
  · exact Keeps.refl _ _

theorem keeps_startSupply {k} (hw : p.power = true) (he : p.events = true) : Keeps p s (s.startSupply k) := by
  unfold State.startSupply
  exact Keeps.ite (fun _ => (keeps_modPower hw).trans (keeps_post he)) fun _ => Keeps.refl p _

/-- Every part is marked. -/
def Parts.all : Parts := ⟨true, true, true, true, true, true, true, true, true, true, true, true, true, true, true,
    true, true, true, true⟩

theorem keeps_volatileReset {r env} : Keeps Parts.all s (s.volatileReset r env) := by
  constructor <;> first | exact fun hp => Bool.noConfusion hp | rfl

theorem keeps_settleCopy {k} : Keeps Parts.all s (s.settleCopy k) := by
  unfold State.settleCopy
  split <;> constructor <;> first | exact fun hp => Bool.noConfusion hp | rfl

theorem keeps_startOver {c f d env} : Keeps Parts.all s (s.startOver c f d env) := by
  unfold State.startOver
  refine Keeps.trans ?_ (keeps_startSupply rfl rfl)
  refine Keeps.trans ?_ (Keeps.eachLane (fun _ _ => keeps_postStartFault rfl) _)
  refine Keeps.trans ?_ (Keeps.eachLane (fun _ _ => keeps_restartLane rfl rfl rfl) _)
  refine Keeps.trans ?_ (keeps_startedAndTreated rfl rfl rfl)
  refine Keeps.trans ?_ (keeps_modTickets rfl)
  exact Keeps.trans keeps_volatileReset (keeps_modPower rfl)

theorem keeps_startUp {c env} : Keeps Parts.all s (s.startUp c env) := keeps_settleCopy.trans keeps_startOver

theorem keeps_leavesReset {env} : Keeps Parts.all s (s.leavesReset env) := by
  unfold State.leavesReset
  split
  · exact Keeps.refl _ _
  · exact Keeps.ite (fun _ => keeps_startUp) fun _ => Keeps.refl _ _

theorem keeps_transferEnds {j k a} (hp : p.printing = true) (hk : p.tickets = true) (he : p.events = true) : Keeps p s
    (s.transferEnds j k a) := by
  unfold State.transferEnds
  dsimp only
  refine Keeps.ite (fun _ => ?_) fun _ => (keeps_modPrinting hp).trans (keeps_endJob_failed hp hk he)
  exact Keeps.ite (fun _ => (keeps_modPrinting hp).trans (keeps_setBusJob hp)) fun _ => (keeps_modPrinting hp).trans
      (keeps_setBusJob hp)

theorem keeps_endJob {j e} (hp : p.printing = true) (hk : p.tickets = true) (hl : p.lanes = true) (hb : p.barriers =
    true) (he : p.events = true) : Keeps p s (s.endJob j e) := by
  cases e
  · exact keeps_endJob_done hp hk hl hb he
  · exact keeps_endJob_failed hp hk he

theorem keeps_statusReads {j k r} (hp : p.printing = true) (hk : p.tickets = true) (hl : p.lanes = true) (hb :
    p.barriers = true) (he : p.events = true) : Keeps p s (s.statusReads j k r) := by
  unfold State.statusReads
  refine Keeps.trans (keeps_modPrinting (f := fun p => { p with lastTransfer := some (statusTransfer j.address r) }) hp) ?_
  generalize s.modPrinting _ = u
  cases r with
  | noAck => exact keeps_endJob_failed hp hk he
  | byte b =>
    dsimp only
    split
    · exact (keeps_modPrinting hp).trans (keeps_endJob hp hk hl hb he)
    · exact (keeps_modPrinting hp).trans (keeps_setBusJob hp)

theorem keeps_endTransmission (hk : p.link = true) : Keeps p s s.endTransmission :=
  Keeps.ite (fun _ => keeps_modLink hk) fun _ => keeps_modLink hk

theorem keeps_gapEnds {c} (hk : p.link = true) : Keeps p s (s.gapEnds c) := by
  unfold State.gapEnds
  split
  · exact (keeps_modLink hk).trans (keeps_endTransmission hk)
  · exact (keeps_modLink hk).trans (keeps_endTransmission hk)
  · exact keeps_endTransmission hk
  · exact Keeps.refl _ _
  · exact keeps_endTransmission hk
  all_goals exact Keeps.refl _ _

theorem keeps_replyEnds (hk : p.link = true) (hw : p.power = true) : Keeps p s s.replyEnds := by
  unfold State.replyEnds
  refine Keeps.ite (fun _ => ?_) fun _ => Keeps.refl _ _
  dsimp only
  exact Keeps.ite (fun _ => (keeps_modLink hk).trans (keeps_modPower hw)) fun _ => keeps_modLink hk

theorem keeps_holdReset {c k} (hw : p.power = true) (hc : p.copy = true) : Keeps p s (s.holdReset c k) :=
  (keeps_modPower hw).trans (keeps_setCopy hc)

theorem keeps_brownsOut {k c} (hw : p.power = true) (hc : p.copy = true) : Keeps p s (s.brownsOut k c) :=
  Keeps.ite (fun _ => (keeps_holdReset hw hc).trans (keeps_modPower hw)) fun _ => Keeps.refl _ _

theorem keeps_lineResets {c} (hw : p.power = true) (hc : p.copy = true) : Keeps p s (s.lineResets c) :=
  keeps_holdReset hw hc

end Sys2Proof.Machine
end

