-- ==== Sys2Proof/Laws/DeckTurns.lean ====
section
/-! SUPPORT. What the deck operations do to the decks, the calibration and the events: one lemma for each. -/

namespace Sys2Proof.Machine

variable {s : State} {n : Lane}

/-! ### The lane's moves leave the decks alone -/

theorem laneSettle_decks : (s.laneSettle n).decks = s.decks :=
  (keeps_laneSettle (p := { lanes := true, settings := true, barriers := true }) rfl rfl rfl).decks rfl
theorem laneSettle_events : (s.laneSettle n).events = s.events :=
  (keeps_laneSettle (p := { lanes := true, settings := true, barriers := true }) rfl rfl rfl).events rfl
theorem laneSettle_cal : (s.laneSettle n).ret.cal = s.ret.cal :=
  (keeps_laneSettle (p := { lanes := true, settings := true, barriers := true }) rfl rfl rfl).cal rfl
theorem laneSettle_clock : (s.laneSettle n).clock = s.clock :=
  (keeps_laneSettle (p := { lanes := true, settings := true, barriers := true }) rfl rfl rfl).clock rfl
theorem occupancyChanged_decks : (s.occupancyChanged n).decks = s.decks :=
  (keeps_occupancyChanged (p := { lanes := true, settings := true, barriers := true, events := true }) rfl rfl rfl
    rfl).decks rfl

theorem setOccupancy_decks (o : Occupancy) :
    (s.setOccupancy n o).decks = s.decks.upd n fun d => { d with occupancy := o } := by
  unfold State.setOccupancy
  split
  · rename_i h
    refine Quad.ext_get fun m => ?_
    rw [Quad.get_upd]
    split
    · rename_i hm
      subst hm
      rw [← h]
      rfl
    · rfl
  · exact occupancyChanged_decks

theorem setSettling_decks (m : Settling) :
    (s.setSettling n m).decks = s.decks.upd n fun d => { d with settling := m } := by
  unfold State.setSettling
  dsimp only
  split <;> rfl

theorem dropParts_decks : (s.dropParts n).decks = s.decks :=
  (keeps_dropParts (p := { lanes := true, events := true }) rfl rfl).decks rfl

/-- A deck as R13 leaves it when it becomes INVALID. -/
def invalidDeck (d : Deck) : Deck :=
  { d with history := [], reading := none, settling := clearedSettling, occupancy := .neither }

theorem becomeInvalid_decks : (s.becomeInvalid n).decks = s.decks.upd n invalidDeck := by
  unfold State.becomeInvalid
  show State.decks (State.laneSettle _ n) = _
  rw [laneSettle_decks, setOccupancy_decks, dropParts_decks, setSettling_decks]
  simp only [State.modDeck_decks, Quad.upd_upd]
  rfl

theorem postInvalid_decks : ∀ (k : Nat) (s : State), (s.postInvalid n k).decks = s.decks
  | 0, _ => rfl
  | k + 1, _ => postInvalid_decks k _

/-- A deck whose capture in flight has ended early. -/
def abortedDeck (now : SiteTime) (c : AbortCause) (d : Deck) : Deck :=
  match d.op with
  | none => d
  | some op => { d with op := none, lastOutcome := some ⟨op.sub, .aborted c, now⟩ }

theorem abortOp_decks (c : AbortCause) : (s.abortOp n c).decks = s.decks.upd n (abortedDeck s.now c) := by
  unfold State.abortOp
  split
  · rename_i h
    refine Quad.ext_get fun m => ?_
    rw [Quad.get_upd]
    split
    · rename_i hm
      subst hm
      unfold abortedDeck
      rw [show (s.decks.get m).op = none from h]
    · rfl
  · rename_i op h
    refine Quad.ext_get fun m => ?_
    show (Quad.upd s.decks n _).get m = _
    rw [Quad.get_upd, Quad.get_upd]
    split
    · rename_i hm
      subst hm
      unfold abortedDeck
      rw [show (s.decks.get m).op = some op from h]
    · rfl

/-- A deck after its reason set has changed from one to another (R13, R14, R64). -/
def turnedDeck (now : SiteTime) (before after : ReasonSet) (d : Deck) : Deck :=
  let d1 := if before.isEmpty && !after.isEmpty then invalidDeck d else d
  if before.faultJoined after then abortedDeck now .invalid d1 else d1

theorem laneSettle_reasons : (s.laneSettle n).reasons n = s.reasons n := by
  unfold State.reasons State.cal State.deck
  rw [laneSettle_decks, laneSettle_cal]

theorem becomeInvalid_clock : (s.becomeInvalid n).clock = s.clock :=
  (keeps_becomeInvalid (p := { decks := true, lanes := true, settings := true, barriers := true, events := true }) rfl rfl
    rfl rfl rfl).clock rfl
theorem becomeInvalid_cal : (s.becomeInvalid n).ret.cal = s.ret.cal :=
  (keeps_becomeInvalid (p := { decks := true, lanes := true, settings := true, barriers := true, events := true }) rfl rfl
    rfl rfl rfl).cal rfl
theorem postInvalid_clock {k : Nat} : (s.postInvalid n k).clock = s.clock :=
  (keeps_postInvalid (p := { events := true }) rfl k s).clock rfl
theorem afterReasons_cal {b : ReasonSet} : (s.afterReasons n b).ret.cal = s.ret.cal :=
  (keeps_afterReasons (p := { decks := true, lanes := true, settings := true, barriers := true, events := true }) rfl rfl
    rfl rfl rfl).cal rfl
theorem afterReasons_clock {b : ReasonSet} : (s.afterReasons n b).clock = s.clock :=
  (keeps_afterReasons (p := { decks := true, lanes := true, settings := true, barriers := true, events := true }) rfl rfl
    rfl rfl rfl).clock rfl

theorem quad_upd_id {α : Type} (q : Quad α) (n : Lane) : (q.upd n fun d => d) = q := by cases n <;> rfl

/-- What a change of a deck's reasons does to the decks. -/
theorem afterReasons_decks (before : ReasonSet) :
    (s.afterReasons n before).decks = s.decks.upd n (turnedDeck s.now before (s.reasons n)) := by
  unfold State.afterReasons turnedDeck
  have hnow : ∀ t : State, t.clock = s.clock → t.now = s.now := fun t h => congrArg Clock.siteTime h
  dsimp only
  generalize hA : (before.isEmpty && !(s.reasons n).isEmpty) = a
  cases a
  · simp only [Bool.false_eq_true, if_false]
    generalize hB : (!before.isEmpty && (s.reasons n).isEmpty) = b
    cases b
    · simp only [Bool.false_eq_true, if_false]
      split
      · rw [abortOp_decks, postInvalid_decks, hnow _ postInvalid_clock]
      · rw [postInvalid_decks, quad_upd_id]
    · simp only [if_true]
      split
      · rw [abortOp_decks, laneSettle_decks, hnow ((s.post .deckValid (some n) .none .none).laneSettle n) (laneSettle_clock.trans rfl)]; rfl
      · rw [laneSettle_decks, quad_upd_id]; rfl
  · simp only [if_true]
    split
    · rw [abortOp_decks, becomeInvalid_decks, hnow _ becomeInvalid_clock, Quad.upd_upd]
    · rw [becomeInvalid_decks]

/-! ### The zero limit (R31, R63) -/

/-- What bounds Z lies within the limit of the present Max, RANGE or not. -/
theorem zeroBound_le : s.zeroBound n ≤ (s.cal n).max / 5 := Nat.min_le_right _ _

/-- With no limit held since a RANGE, the limit of the present Max bounds Z. -/
theorem zeroBound_of_none (h : (s.deck n).heldLimit = none) : s.zeroBound n = (s.cal n).max / 5 := by
  simp [State.zeroBound, State.zeroLimitNow, zeroLimit, h]

/-! ### Events -/

/-- The events of parts dropped at the invalidity of a deck (R51). -/
def State.droppedEvents (s : State) (n : Lane) : List Event :=
  if (s.lane n).state = .weighing ∧ (s.lane n).capture.parts ≠ [] then
    [s.event .partDiscarded (some n) .none (.parts (s.lane n).capture.parts.length)] else []

theorem add_all (s : State) (es : List Event) (t : State) (h : t.events = s.eventsAfter es) (k : EventKind)
    (l : Option Lane) (x : Subject) (d : Detail) (hc : t.clock = s.clock) :
    (t.post k l x d).events = s.eventsAfter (es ++ [s.event k l x d]) := by
  show EventQueue.add t.events (t.event k l x d) = _
  unfold State.eventsAfter at *
  rw [h, List.foldl_append]
  show _ = EventQueue.add _ _
  unfold State.event State.now
  rw [hc]

theorem dropParts_events : (s.dropParts n).events = s.eventsAfter (s.droppedEvents n) := by
  unfold State.dropParts State.droppedEvents
  dsimp only
  by_cases h : (s.lane n).state = .weighing
  · rw [if_pos h]
    by_cases h2 : (s.lane n).capture.parts = []
    · rw [if_pos h2, if_neg (by intro hh; exact hh.2 h2)]; rfl
    · rw [if_neg h2, if_pos ⟨h, h2⟩]; rfl
  · rw [if_neg h, if_neg (by intro hh; exact h hh.1)]; rfl

theorem occupancyChanged_neither_events (h : (s.deck n).occupancy = .neither) :
    (s.occupancyChanged n).events = s.events := by
  unfold State.occupancyChanged
  split
  · exact laneSettle_events
  · rename_i h1; rw [h] at h1; cases h1
  · rename_i h1; rw [h] at h1; cases h1
  · rename_i h1; rw [h] at h1; cases h1
  · rfl

theorem setOccupancy_neither_events : (s.setOccupancy n .neither).events = s.events := by
  unfold State.setOccupancy
  split
  · rfl
  · rw [occupancyChanged_neither_events]
    · rfl
    · unfold State.deck State.modDeck
      dsimp only
      rw [Quad.get_upd_self]

theorem setSettling_lane (m : Settling) : ((s.setSettling n m).lane n).state = (s.lane n).state
    ∧ ((s.setSettling n m).lane n).capture.parts = (s.lane n).capture.parts := by
  unfold State.setSettling
  dsimp only
  split
  · unfold State.lane State.modLane
    dsimp only
    rw [Quad.get_upd_self]; exact ⟨rfl, rfl⟩
  · exact ⟨rfl, rfl⟩

theorem setSettling_events (m : Settling) : (s.setSettling n m).events = s.events :=
  (keeps_setSettling (p := { decks := true, lanes := true }) rfl rfl).events rfl
theorem setSettling_clock (m : Settling) : (s.setSettling n m).clock = s.clock :=
  (keeps_setSettling (p := { decks := true, lanes := true }) rfl rfl).clock rfl

theorem becomeInvalid_events : (s.becomeInvalid n).events
    = s.eventsAfter (s.droppedEvents n ++ [s.event .deckInvalid (some n) .none (.reasons (s.reasons n))]) := by
  unfold State.becomeInvalid
  dsimp only
  refine add_all s (s.droppedEvents n) _ ?_ _ _ _ _ ?_
  · rw [laneSettle_events, setOccupancy_neither_events, dropParts_events]
    unfold State.eventsAfter State.droppedEvents State.event State.now
    rw [setSettling_events, setSettling_clock, (setSettling_lane _).1, (setSettling_lane _).2]
    rfl
  · rw [laneSettle_clock]
    exact ((keeps_setOccupancy (p := { decks := true, lanes := true, settings := true, barriers := true, events := true })
      rfl rfl rfl rfl rfl).clock rfl).trans
        (((keeps_dropParts (p := { lanes := true, events := true }) rfl rfl).clock rfl).trans (setSettling_clock _))

theorem postInvalid_events : ∀ (k : Nat) (s : State), (s.postInvalid n k).events
    = s.eventsAfter (List.replicate k (s.event .deckInvalid (some n) .none (.reasons (s.reasons n))))
  | 0, _ => rfl
  | k + 1, s => postInvalid_events k (s.post .deckInvalid (some n) .none (.reasons (s.reasons n)))

/-- The event of a capture ended early, where one was in flight (R64). -/
def State.abortEvents (s : State) (n : Lane) (c : AbortCause) : List Event :=
  match (s.deck n).op with
  | some op => [s.event .calAborted (some n) .none (.calAborted op.sub c)]
  | none => []

theorem abortOp_events (c : AbortCause) : (s.abortOp n c).events = s.eventsAfter (s.abortEvents n c) := by
  unfold State.abortOp State.abortEvents
  split <;> rename_i h <;> rw [h] <;> rfl

theorem eventsAfter_append (s : State) (es fs : List Event) (t : State) (h : t.events = s.eventsAfter es) :
    t.eventsAfter fs = s.eventsAfter (es ++ fs) := by
  unfold State.eventsAfter at *
  rw [h, List.foldl_append]

/-- The events of a change of a deck's reasons (R13, R14, R64). -/
def State.turnEvents (s : State) (n : Lane) (before : ReasonSet) : List Event :=
  let after := s.reasons n
  let invalid := s.event .deckInvalid (some n) .none (.reasons after)
  (if before.isEmpty && !after.isEmpty then s.droppedEvents n ++ [invalid]
    else if !before.isEmpty && after.isEmpty then [s.event .deckValid (some n) .none .none]
    else List.replicate (before.joined after) invalid)
    ++ if before.faultJoined after then s.abortEvents n .invalid else []

theorem afterReasons_events (before : ReasonSet) :
    (s.afterReasons n before).events = s.eventsAfter (s.turnEvents n before) := by
  unfold State.afterReasons State.turnEvents
  dsimp only
  generalize hu : (if (before.isEmpty && !(s.reasons n).isEmpty) = true then s.becomeInvalid n
    else if (!before.isEmpty && (s.reasons n).isEmpty) = true then
      (s.post .deckValid (some n) .none .none).laneSettle n
    else s.postInvalid n (before.joined (s.reasons n))) = u
  have h1 : u.events = s.eventsAfter (if (before.isEmpty && !(s.reasons n).isEmpty) = true then
      s.droppedEvents n ++ [s.event .deckInvalid (some n) .none (.reasons (s.reasons n))]
    else if (!before.isEmpty && (s.reasons n).isEmpty) = true then [s.event .deckValid (some n) .none .none]
    else List.replicate (before.joined (s.reasons n)) (s.event .deckInvalid (some n) .none (.reasons (s.reasons n)))) := by
    subst hu
    split
    · exact becomeInvalid_events
    · split
      · rw [laneSettle_events]; rfl
      · exact postInvalid_events _ _
  have h2 : u.clock = s.clock := by
    subst hu
    split
    · exact becomeInvalid_clock
    · split
      · exact laneSettle_clock
      · exact postInvalid_clock
  have h3 : (u.deck n).op = (s.deck n).op := by
    subst hu
    unfold State.deck
    split
    · rw [becomeInvalid_decks, Quad.get_upd_self]; rfl
    · split
      · rw [laneSettle_decks]; rfl
      · rw [postInvalid_decks]
  split
  · rw [abortOp_events]
    have h4 : u.abortEvents n .invalid = s.abortEvents n .invalid := by
      unfold State.abortEvents State.event State.now
      rw [h3, h2]
    rw [h4]
    exact eventsAfter_append _ _ _ _ h1
  · rw [h1, List.append_nil]

end Sys2Proof.Machine
end

