-- ==== Sys2Proof/Laws/Operands.lean ====
section
/-! SUPPORT. What each reader of a record's operands accepts, in the ranges of the rule that owns the record, and what a
record answers whose values are out of them or that comes in WARNING. -/

namespace Sys2Proof.Machine

/-! ### Fields (R203) -/

theorem ranged_isSome {lo hi n : Nat} : (ranged lo hi n).isSome = true ↔ Within lo hi n := by
  unfold ranged Within; split <;> simp_all

theorem ranged_value {lo hi n k : Nat} (h : ranged lo hi n = some k) : k = n := by
  unfold ranged at h; split at h <;> simp_all

theorem flagOf_isSome {b : Byte} : (flagOf b).isSome = true ↔ b.toNat ≤ 1 := by
  unfold flagOf; split <;> simp_all; omega

theorem kindOf_isSome {b : Byte} : (kindOf b).isSome = true ↔ Within 1 2 b.toNat := by
  unfold kindOf Within; split <;> simp_all; omega

theorem optKindOf_isSome {b : Byte} : (optKindOf b).isSome = true ↔ b.toNat ≤ 2 := by
  unfold optKindOf
  split
  · simp_all
  · simp_all [kindOf_isSome, Within]; omega

theorem openStateOf_isSome {b : Byte} : (openStateOf b).isSome = true ↔ Within 1 2 b.toNat := by
  unfold openStateOf Within; split <;> simp_all; omega

theorem accountStateOf_isSome {b : Byte} : (accountStateOf b).isSome = true ↔ Within 1 3 b.toNat := by
  unfold accountStateOf Within; split <;> simp_all; omega

theorem limitKindOf_isSome {b : Byte} : (limitKindOf b).isSome = true ↔ Within 1 2 b.toNat := by
  unfold limitKindOf Within; split <;> simp_all; omega

theorem dirModeOf_isSome {b : Byte} : (dirModeOf b).isSome = true ↔ Within 1 3 b.toNat := by
  unfold dirModeOf Within; split <;> simp_all; omega

theorem loopSideOf_isSome {b : Byte} : (loopSideOf b).isSome = true ↔ Within 1 2 b.toNat := by
  unfold loopSideOf Within; split <;> simp_all; omega

theorem laneOfNumber_isSome {n : Nat} : (Lane.ofNumber n).isSome = true ↔ Within 1 4 n := by
  unfold Lane.ofNumber Within; split <;> simp_all; omega

theorem streamOf_isSome {b : Byte} : (streamOf b).isSome = true ↔ Within 1 8 b.toNat := by
  unfold streamOf Within; split <;> (try split) <;> simp_all <;> omega

theorem optStreamOf_isSome {b : Byte} : (optStreamOf b).isSome = true ↔ NumberedOrAbsent b := by
  unfold optStreamOf NumberedOrAbsent
  split
  · simp_all
  · simp_all [streamOf_isSome]

theorem classOf_isSome {b : Byte} : (classOf b).isSome = true ↔ b.toNat ≤ 15 := by
  unfold classOf; split <;> simp_all <;> omega

theorem optRanged_isSome {lo hi : Nat} {v : BitVec 32} :
    (optRanged lo hi v).isSome = true ↔ WithinOrAbsent lo hi v := by
  unfold optRanged WithinOrAbsent
  split
  · simp_all
  · simp_all [ranged_isSome]

theorem laneMaskOf_isSome {b : Byte} :
    (laneMaskOf b).isSome = true ↔ Within 1 15 b.toNat ∨ b.toNat = 255 := by
  unfold laneMaskOf Within; split <;> (try split) <;> simp_all <;> omega

theorem tareChoiceOf_isSome {b : Byte} {v : BitVec 32} :
    (tareChoiceOf b v).isSome = true ↔ Within 1 3 b.toNat ∧ (b.toNat = 1 → v.toNat ≤ 150000) := by
  unfold tareChoiceOf Within; split <;> simp_all [ranged_isSome]; omega

/-! ### Records: each is read exactly when every field of it is in its range -/

theorem vehicleFields_isSome {i : VehicleItem} : (vehicleFields i).isSome = true ↔
    i.cls.toNat ≤ 15 ∧ Within 1 2 i.kind.toNat ∧ NumberedOrAbsent i.stream ∧ WithinOrAbsent 1 150000 i.gross
      ∧ (Within 1 15 i.mask.toNat ∨ i.mask.toNat = 255) ∧ i.barred.toNat ≤ 1 ∧ Within 1 3 i.tareChoice.toNat
      ∧ (i.tareChoice.toNat = 1 → i.tare.toNat ≤ 150000) := by
  have h : (vehicleFields i).isSome = true ↔
      (classOf i.cls).isSome = true
        ∧ (kindOf i.kind).isSome = true
        ∧ (optStreamOf i.stream).isSome = true
        ∧ (optRanged 1 150000 i.gross).isSome = true
        ∧ (laneMaskOf i.mask).isSome = true
        ∧ (flagOf i.barred).isSome = true
        ∧ (tareChoiceOf i.tareChoice i.tare).isSome = true := by
    unfold vehicleFields
    cases classOf i.cls <;>
    cases kindOf i.kind <;>
    cases optStreamOf i.stream <;>
    cases optRanged 1 150000 i.gross <;>
    cases laneMaskOf i.mask <;>
    cases flagOf i.barred <;>
    cases tareChoiceOf i.tareChoice i.tare <;> simp
  simpa only [classOf_isSome, kindOf_isSome, optStreamOf_isSome, optRanged_isSome, laneMaskOf_isSome, flagOf_isSome,
    tareChoiceOf_isSome] using h

theorem accountFields_isSome {i : AccountItem} : (accountFields i).isSome = true ↔
    Within 1 3 i.state.toNat ∧ WithinOrAbsent 1 4000000000 i.allowance ∧ Within 1 2 i.limitKind.toNat
      ∧ i.approval.toNat ≤ 1 ∧ NumberedOrAbsent i.stream := by
  have h : (accountFields i).isSome = true ↔
      (accountStateOf i.state).isSome = true
        ∧ (optRanged 1 Config.tonnageMax i.allowance).isSome = true
        ∧ (limitKindOf i.limitKind).isSome = true
        ∧ (flagOf i.approval).isSome = true
        ∧ (optStreamOf i.stream).isSome = true := by
    unfold accountFields
    cases accountStateOf i.state <;>
    cases optRanged 1 Config.tonnageMax i.allowance <;>
    cases limitKindOf i.limitKind <;>
    cases flagOf i.approval <;>
    cases optStreamOf i.stream <;> simp
  simpa only [Config.tonnageMax, accountStateOf_isSome, optRanged_isSome, limitKindOf_isSome, flagOf_isSome, optStreamOf_isSome] using h

theorem stockFields_isSome {i : StockItem} : (stockFields i).isSome = true ↔
    Within 1 8 i.stream.toNat ∧ Within 0 4000000000 i.stock.toNat := by
  have h : (stockFields i).isSome = true ↔
      (streamOf i.stream).isSome = true
        ∧ (ranged 0 Config.tonnageMax i.stock.toNat).isSome = true := by
    unfold stockFields
    cases streamOf i.stream <;>
    cases ranged 0 Config.tonnageMax i.stock.toNat <;> simp
  simpa only [Config.tonnageMax, streamOf_isSome, ranged_isSome] using h

theorem identFields_isSome {i : IdentItem} : (identFields i).isSome = true ↔
    NumberedOrAbsent i.stream ∧ i.kind.toNat ≤ 2 := by
  have h : (identFields i).isSome = true ↔
      (optStreamOf i.stream).isSome = true
        ∧ (optKindOf i.kind).isSome = true := by
    unfold identFields
    cases optStreamOf i.stream <;>
    cases optKindOf i.kind <;> simp
  simpa only [optStreamOf_isSome, optKindOf_isSome] using h

theorem reprintFields_isSome {i : ReprintItem} : (reprintFields i).isSome = true ↔
    Within 1 999999 i.ticket.toNat ∧ Within 1 4 i.lane.toNat := by
  have h : (reprintFields i).isSome = true ↔
      (ticketOf i.ticket).isSome = true
        ∧ (Lane.ofNumber i.lane.toNat).isSome = true := by
    unfold reprintFields
    cases ticketOf i.ticket <;>
    cases Lane.ofNumber i.lane.toNat <;> simp
  simpa only [Config.ticketMax, ticketOf, ranged_isSome, laneOfNumber_isSome] using h

theorem settlingFields_isSome {i : SettlingItem} : (settlingFields i).isSome = true ↔
    Within 1 5000 i.band.toNat ∧ Within 1 255 i.tTent.toNat ∧ Within 1 255 i.tSettle.toNat
      ∧ Within 1 255 i.tLock.toNat ∧ Within 1 255 i.tDrop.toNat := by
  have h : (settlingFields i).isSome = true ↔
      (ranged 1 5000 i.band.toNat).isSome = true
        ∧ (ranged 1 255 i.tTent.toNat).isSome = true
        ∧ (ranged 1 255 i.tSettle.toNat).isSome = true
        ∧ (ranged 1 255 i.tLock.toNat).isSome = true
        ∧ (ranged 1 255 i.tDrop.toNat).isSome = true := by
    unfold settlingFields
    cases ranged 1 5000 i.band.toNat <;>
    cases ranged 1 255 i.tTent.toNat <;>
    cases ranged 1 255 i.tSettle.toNat <;>
    cases ranged 1 255 i.tLock.toNat <;>
    cases ranged 1 255 i.tDrop.toNat <;> simp
  simpa only [ranged_isSome] using h

theorem policyFields_isSome {i : PolicyItem} : (policyFields i).isSome = true ↔
    Within 1 3 i.direction.toNat ∧ i.admitting.toNat ≤ 1 ∧ i.cls.toNat ≤ 15 ∧ NumberedOrAbsent i.stream
      ∧ Within 5 300 i.passTimeout.toNat := by
  have h : (policyFields i).isSome = true ↔
      (dirModeOf i.direction).isSome = true
        ∧ (flagOf i.admitting).isSome = true
        ∧ (classOf i.cls).isSome = true
        ∧ (optStreamOf i.stream).isSome = true
        ∧ (ranged 5 300 i.passTimeout.toNat).isSome = true := by
    unfold policyFields
    cases dirModeOf i.direction <;>
    cases flagOf i.admitting <;>
    cases classOf i.cls <;>
    cases optStreamOf i.stream <;>
    cases ranged 5 300 i.passTimeout.toNat <;> simp
  simpa only [dirModeOf_isSome, flagOf_isSome, classOf_isSome, optStreamOf_isSome, ranged_isSome] using h

theorem classFields_isSome {i : ClassItem} : (classFields i).isSome = true ↔
    i.cls.toNat ≤ 15 ∧ Within 1 4 i.parts.toNat ∧ Within 0 150000 i.tare.toNat ∧ Within 1 150000 i.gross.toNat
      ∧ Within 0 10000 i.tolerance.toNat ∧ i.learning.toNat ≤ 1 := by
  have h : (classFields i).isSome = true ↔
      (classOf i.cls).isSome = true
        ∧ (ranged 1 4 i.parts.toNat).isSome = true
        ∧ (ranged 0 150000 i.tare.toNat).isSome = true
        ∧ (ranged 1 150000 i.gross.toNat).isSome = true
        ∧ (ranged 0 10000 i.tolerance.toNat).isSome = true
        ∧ (flagOf i.learning).isSome = true := by
    unfold classFields
    cases classOf i.cls <;>
    cases ranged 1 4 i.parts.toNat <;>
    cases ranged 0 150000 i.tare.toNat <;>
    cases ranged 1 150000 i.gross.toNat <;>
    cases ranged 0 10000 i.tolerance.toNat <;>
    cases flagOf i.learning <;> simp
  simpa only [classOf_isSome, ranged_isSome, flagOf_isSome] using h

theorem printerFields_isSome {i : PrinterItem} : (printerFields i).isSome = true ↔
    NumberedOrAbsent i.address ∧ i.printFirst.toNat ≤ 1 := by
  have h : (printerFields i).isSome = true ↔
      (optStreamOf i.address).isSome = true
        ∧ (flagOf i.printFirst).isSome = true := by
    unfold printerFields
    cases optStreamOf i.address <;>
    cases flagOf i.printFirst <;> simp
  simpa only [optStreamOf_isSome, flagOf_isSome] using h

theorem admissionFields_isSome {i : AdmissionItem} : (admissionFields i).isSome = true ↔
    WithinOrAbsent 1 4000000000 i.cap := by
  have h : (admissionFields i).isSome = true ↔
      (optRanged 1 Config.tonnageMax i.cap).isSome = true := by
    unfold admissionFields
    cases optRanged 1 Config.tonnageMax i.cap <;> simp
  simpa only [Config.tonnageMax, optRanged_isSome] using h

theorem linkFields_isSome {i : LinkItem} : (linkFields i).isSome = true ↔
    Within 64 1024 i.replyLimit.toNat := by
  have h : (linkFields i).isSome = true ↔
      (ranged 64 1024 i.replyLimit.toNat).isSome = true := by
    unfold linkFields
    cases ranged 64 1024 i.replyLimit.toNat <;> simp
  simpa only [ranged_isSome] using h

theorem planFields_isSome {v : Vector Byte 16} :
    (planFields v).isSome = true ↔ ∀ i : Fin 16, (v.get i).toNat ≤ 4 := by
  have h : (v.toList.all fun b => decide (b.toNat ≤ 4)) = true ↔ ∀ i : Fin 16, (v.get i).toNat ≤ 4 := by
    simp [Fin.forall_iff, Vector.get]
  unfold planFields
  split <;> simp_all

theorem depthOf_isSome {b : Byte} : (depthOf b).isSome = true ↔ b.toNat ∈ [1, 2, 4, 8, 16] := by
  unfold depthOf
  split <;> simp_all

theorem loopFields_isSome {i : LoopItem} : (loopFields i).isSome = true ↔
    Within 1 2 i.loop.toNat ∧ Within 10 20000 i.onThr.toNat ∧ Within 1 19999 i.offThr.toNat
      ∧ Within 0 3600 i.limit.toNat ∧ i.relearn.toNat ≤ 1 ∧ i.offThr.toNat < i.onThr.toNat := by
  rw [← loopSideOf_isSome, ← ranged_isSome, ← ranged_isSome, ← ranged_isSome, ← flagOf_isSome]
  unfold loopFields
  cases loopSideOf i.loop
  · simp
  cases hon : ranged 10 20000 i.onThr.toNat
  · simp
  cases hoff : ranged 1 19999 i.offThr.toNat
  · simp
  cases ranged 0 3600 i.limit.toNat <;> cases flagOf i.relearn <;> simp
  rw [ranged_value hon, ranged_value hoff]

theorem barrierFields_isSome {i : BarrierItem} : (barrierFields i).isSome = true ↔
    Within 1 255 i.start.toNat ∧ Within i.start.toNat 255 i.run.toNat ∧ Within 1 255 i.step.toNat
      ∧ Within 1 30 i.travel.toNat := by
  simp only [← ranged_isSome]
  unfold barrierFields
  cases h : ranged 1 255 i.start.toNat
  · simp
  rw [ranged_value h, Option.bind_eq_bind, Option.bind_some]
  cases ranged i.start.toNat 255 i.run.toNat <;> cases ranged 1 255 i.step.toNat <;>
    cases ranged 1 30 i.travel.toNat <;> simp

theorem listFields_isSome {i : ListItem} : (listFields i).isSome = true ↔
    (∀ d ∈ i.depths.toList, d.toNat ≤ 32) ∧ Within 1 255 i.age.toNat := by
  have h : ((i.depths.map fun b => b.toNat).toList.all fun d => decide (d ≤ 32)) = true ↔
      ∀ d ∈ i.depths.toList, d.toNat ≤ 32 := by
    simp [Quad.toList, Quad.map]
  rw [← ranged_isSome, ← h]
  unfold listFields
  dsimp only
  split <;> simp_all

theorem vehicleTableFields_isSome {i : VehicleTableItem} : (vehicleTableFields i).isSome = true ↔
    Within 0 512 i.learnLimit.toNat ∧ Within 0 365 i.provAge.toNat ∧ Within 0 8760 i.tareAge.toNat
      ∧ i.learnLimit.toNat % 64 = 0 := by
  simp only [← ranged_isSome]
  unfold vehicleTableFields
  cases h : ranged 0 512 i.learnLimit.toNat
  · simp
  rw [ranged_value h]
  cases ranged 0 365 i.provAge.toNat <;> cases ranged 0 8760 i.tareAge.toNat <;> simp

theorem streamFields_isSome {i : StreamItem} : (streamFields i).isSome = true ↔
    Within 1 8 i.stream.toNat ∧ Within 0 5000000 i.capacity.toNat ∧ Within 1 2 i.state.toNat
      ∧ (∀ l ∈ [i.level1, i.level2, i.level3, i.level4], WithinOrAbsent 1 5000000 l)
      ∧ i.capacity.toNat % 500 = 0 := by
  simp only [List.forall_mem_cons, ← optRanged_isSome]
  rw [← openStateOf_isSome, ← streamOf_isSome, ← ranged_isSome]
  unfold streamFields
  cases streamOf i.stream
  · simp
  cases h : ranged 0 5000000 i.capacity.toNat
  · simp
  rw [ranged_value h]
  cases openStateOf i.state <;> cases optRanged 1 5000000 i.level1 <;> cases optRanged 1 5000000 i.level2 <;>
    cases optRanged 1 5000000 i.level3 <;> cases optRanged 1 5000000 i.level4 <;> simp

theorem periodAccounts_isSome {v : BitVec 16} :
    (periodAccounts v).isSome = true ↔ v.toNat ≤ 255 ∨ v.toNat = 65535 := by
  unfold periodAccounts
  split <;> (try split) <;> simp_all <;> omega

theorem ticketOf_isSome {v : BitVec 32} : (ticketOf v).isSome = true ↔ Within 1 999999 v.toNat := ranged_isSome

theorem warnLevelOf_isSome {b : Byte} : (warnLevelOf b).isSome = true ↔ Within 19 22 b.toNat := ranged_isSome

/-! ### The order of the refusals (R204, R208) -/

variable {α β : Type} {s : State} {read : α → Option β} {act : β → State → State × ResultCode}

/-- A value out of its range is answered BAD_ARGUMENT, in WARNING too. -/
theorem guarded_bad {a : α} (h : (read a).isSome = false) :
    State.guarded (.item a) read act s = (s, .badArgument) := by
  unfold State.guarded
  rw [Option.isSome_eq_false_iff, Option.isNone_iff_eq_none] at h
  simp only [h]

/-- A record whose values are in their ranges is answered BUSY in WARNING. -/
theorem guarded_busy {a : α} (h : (read a).isSome = true) (hw : s.warning = true) :
    State.guarded (.item a) read act s = (s, .busy) := by
  obtain ⟨f, hf⟩ := Option.isSome_iff_exists.1 h
  unfold State.guarded
  simp only [hf, hw, if_true]

end Sys2Proof.Machine
end

