-- ==== Sys2Proof/Laws/Records.lean ====
section
/-! SUPPORT. What a record's receipt and its answer do: one lemma for each part they leave, the port as they leave it,
and the shape that an executed record reduces to. -/

namespace Sys2Proof.Machine

variable {s : State} {h : RecHead}

/-! ### Posting -/

theorem post_events {k : EventKind} {n : Option Lane} {x : Subject} {d : Detail} :
    (s.post k n x d).events = s.events.add (s.event k n x d) := rfl

@[simp] theorem post_ret {k : EventKind} {n : Option Lane} {x : Subject} {d : Detail} :
    (s.post k n x d).ret = s.ret := rfl
@[simp] theorem post_link {k : EventKind} {n : Option Lane} {x : Subject} {d : Detail} :
    (s.post k n x d).link = s.link := rfl
@[simp] theorem post_lanes {k : EventKind} {n : Option Lane} {x : Subject} {d : Detail} :
    (s.post k n x d).lanes = s.lanes := rfl
@[simp] theorem post_clock {k : EventKind} {n : Option Lane} {x : Subject} {d : Detail} :
    (s.post k n x d).clock = s.clock := rfl

theorem posts_refl (t : State) (ht : t.events = s.events) : s.posts t [] := ht

theorem posts_trans {t u : State} {es fs : List Event} (h1 : s.posts t es) (h2 : t.posts u fs) : s.posts u (es ++ fs) := by
  unfold State.posts State.eventsAfter at *
  rw [h2, h1, List.foldl_append]

/-! ### Receiving and answering -/

theorem receive_eq : s.receive h = { s with
    link := { s.link with
      port := .receiving, errors := s.link.errors.union (correctedOnly h.corrected), silence := 0, lostDue := false
      live := true }
    events := s.restored.foldl EventQueue.add s.events } := by
  unfold State.receive State.cleanRecord State.restored
  cases hl : s.link.live <;> simp [State.modLink, hl] <;> rfl

@[simp] theorem receive_ret : (s.receive h).ret = s.ret := by rw [receive_eq]
@[simp] theorem receive_acq : (s.receive h).acq = s.acq := by rw [receive_eq]
@[simp] theorem receive_decks : (s.receive h).decks = s.decks := by rw [receive_eq]
@[simp] theorem receive_loops : (s.receive h).loops = s.loops := by rw [receive_eq]
@[simp] theorem receive_barriers : (s.receive h).barriers = s.barriers := by rw [receive_eq]
@[simp] theorem receive_readers : (s.receive h).readers = s.readers := by rw [receive_eq]
@[simp] theorem receive_lists : (s.receive h).lists = s.lists := by rw [receive_eq]
@[simp] theorem receive_lanes : (s.receive h).lanes = s.lanes := by rw [receive_eq]
@[simp] theorem receive_journalOrder : (s.receive h).journalOrder = s.journalOrder := by rw [receive_eq]
@[simp] theorem receive_clock : (s.receive h).clock = s.clock := by rw [receive_eq]
@[simp] theorem receive_printing : (s.receive h).printing = s.printing := by rw [receive_eq]
@[simp] theorem receive_power : (s.receive h).power = s.power := by rw [receive_eq]
@[simp] theorem receive_pending : (s.receive h).pending = s.pending := by rw [receive_eq]
theorem receive_posts : s.posts (s.receive h) s.restored := by rw [receive_eq]; rfl

@[simp] theorem answer_ret {c : ResultCode} : (s.answer h c).ret = s.ret := rfl
@[simp] theorem answer_acq {c : ResultCode} : (s.answer h c).acq = s.acq := rfl
@[simp] theorem answer_decks {c : ResultCode} : (s.answer h c).decks = s.decks := rfl
@[simp] theorem answer_loops {c : ResultCode} : (s.answer h c).loops = s.loops := rfl
@[simp] theorem answer_barriers {c : ResultCode} : (s.answer h c).barriers = s.barriers := rfl
@[simp] theorem answer_readers {c : ResultCode} : (s.answer h c).readers = s.readers := rfl
@[simp] theorem answer_lists {c : ResultCode} : (s.answer h c).lists = s.lists := rfl
@[simp] theorem answer_lanes {c : ResultCode} : (s.answer h c).lanes = s.lanes := rfl
@[simp] theorem answer_journalOrder {c : ResultCode} : (s.answer h c).journalOrder = s.journalOrder := rfl
@[simp] theorem answer_clock {c : ResultCode} : (s.answer h c).clock = s.clock := rfl
@[simp] theorem answer_events {c : ResultCode} : (s.answer h c).events = s.events := rfl
@[simp] theorem answer_printing {c : ResultCode} : (s.answer h c).printing = s.printing := rfl
@[simp] theorem answer_power {c : ResultCode} : (s.answer h c).power = s.power := rfl
@[simp] theorem answer_pending {c : ResultCode} : (s.answer h c).pending = s.pending := rfl

theorem isEmpty_iff (e : LinkErrors) : e.isEmpty = true ↔ e = LinkErrors.none := by
  obtain ⟨a, b, c, d, f, g, i⟩ := e
  simp [LinkErrors.isEmpty, LinkErrors.none, and_assoc]

/-- What an executed record's answer leaves of the port, when the command has left the port alone. -/
theorem answered_reply {t : State} {r : Reply} (ht : t.link = (s.receive h).link) :
    s.answered h r (t.modLink fun p => (p.reply r).flush) := by
  unfold State.answered State.linkAfter
  show (LinkPort.reply t.link r).flush = _
  rw [ht, receive_eq]
  unfold LinkPort.flush LinkPort.reply State.answering
  dsimp only
  by_cases he : s.link.errors.union (correctedOnly h.corrected) = LinkErrors.none
  · rw [if_pos ((isEmpty_iff _).2 he), if_pos he, he]
  · rw [if_neg (fun hc => he ((isEmpty_iff _).1 hc)), if_neg he]
    simp [List.append_assoc]

theorem answered_of {t : State} {c : ResultCode} (ht : t.link = (s.receive h).link) :
    s.answered h (.result h.chan c) (t.answer h c) := answered_reply ht

/-- The whole state that an answered command leaves, when it has left the port alone and posted these events. -/
theorem answer_recorded {t u : State} {c : ResultCode} {es : List Event} (hl : t.link = (s.receive h).link)
    (he : t.events = s.eventsAfter (s.restored ++ es)) (hu : { t with link := u.link, events := u.events } = u) :
    t.answer h c = s.recorded h (.result h.chan c) es u := by
  have h1 : (t.answer h c).link = s.linkAfter h (.result h.chan c) := answered_of hl
  have h3 := congrArg
    (fun x : State => { x with link := s.linkAfter h (.result h.chan c), events := s.eventsAfter (s.restored ++ es) }) hu
  refine Eq.trans ?_ h3
  show { t with link := (t.answer h c).link } = _
  rw [h1, ← he]

theorem listening_of (hp : s.power.held = none) (hw : s.link.port = .waiting ∨ s.link.port = .receiving) :
    s.listening = true := by
  unfold State.listening State.running
  rcases hw with hw | hw <;> simp [hp, hw]

theorem hasPlace_of (hs : repliesSize s.link.replies + 12 ≤ 4096) : (s.receive h).link.hasPlace = true := by
  rw [receive_eq]
  refine decide_eq_true ?_
  show 8 ≤ 4096 - 4 - repliesSize s.link.replies
  omega

/-- A record of a type that its channel is of: what it does, and its answer (R191, R192, R194). -/
theorem takeRecord_takes {t : ChanType} {act : State → State × ResultCode} (ht : s.takes h t) :
    s.takeRecord h t act = (act (s.receive h)).1.answer h (act (s.receive h)).2 := by
  obtain ⟨h1, h2, h3, h4⟩ := ht
  unfold State.takeRecord
  rw [if_pos (listening_of h1 h2)]
  dsimp only
  rw [if_pos (hasPlace_of h3), if_pos h4]

theorem takeSite_takes {act : State → State × ResultCode} (ht : s.takes h .site) :
    s.takeSite h act = (act (s.receive h)).1.answer h (act (s.receive h)).2 := takeRecord_takes ht

theorem takeLane_takes {n : Lane} {act : Lane → State → State × ResultCode} (ht : s.takes h .lane)
    (hn : h.chan = .lane n) : s.takeLane h act = (act n (s.receive h)).1.answer h (act n (s.receive h)).2 := by
  unfold State.takeLane
  rw [takeRecord_takes ht]
  simp only [hn]

/-- A READ that is carried out (R192, R194). -/
theorem takeRead_takes {t : ChanType} {act : State → Except ResultCode ReadOut} {out : ReadOut} (ht : s.takes h t)
    (ha : act (s.receive h) = .ok out) (hf : repliesSize s.link.replies + out.payload.length + 14 ≤ 4096) :
    s.takeRead h t act = out.state.modLink fun p => (p.reply (.data h.chan out.payload)).flush := by
  obtain ⟨h1, h2, h3, h4⟩ := ht
  unfold State.takeRead
  rw [if_pos (listening_of h1 h2)]
  dsimp only
  rw [if_pos (hasPlace_of h3), if_pos h4, ha]
  dsimp only
  rw [if_pos]
  rw [receive_eq]
  refine decide_eq_true ?_
  show out.payload.length + 6 + 4 ≤ 4096 - 4 - repliesSize s.link.replies
  omega

/-- A record on a channel that is not of its type (R191). -/
theorem takeRecord_wrong {t : ChanType} {act : State → State × ResultCode} (h1 : s.power.held = none)
    (h2 : s.link.port = .waiting ∨ s.link.port = .receiving) (h3 : repliesSize s.link.replies + 12 ≤ 4096)
    (h4 : admits t h.chan = false) : s.takeRecord h t act = (s.receive h).answer h .wrongChannel := by
  unfold State.takeRecord
  rw [if_pos (listening_of h1 h2)]
  dsimp only
  rw [if_pos (hasPlace_of h3), if_neg (by rw [h4]; exact Bool.false_ne_true)]

theorem takeRead_wrong {t : ChanType} {act : State → Except ResultCode ReadOut} (h1 : s.power.held = none)
    (h2 : s.link.port = .waiting ∨ s.link.port = .receiving) (h3 : repliesSize s.link.replies + 12 ≤ 4096)
    (h4 : admits t h.chan = false) : s.takeRead h t act = (s.receive h).answer h .wrongChannel := by
  unfold State.takeRead
  rw [if_pos (listening_of h1 h2)]
  dsimp only
  rw [if_pos (hasPlace_of h3), if_neg (by rw [h4]; exact Bool.false_ne_true)]

/-- A record whose values are read, with the supply not in WARNING. -/
theorem guarded_ok {α β : Type} {a : α} {f : β} {read : α → Option β} {act : β → State → State × ResultCode}
    (hr : read a = some f) (hw : s.warning = false) : State.guarded (.item a) read act s = act f s := by
  unfold State.guarded
  simp only [hr, hw]
  rfl

end Sys2Proof.Machine
end

