-- ==== Sys2Proof/Laws/Retained.lean ====
section
/-! SUPPORT. What a start-up finds of retained memory whose checks are those formed over its contents (R209, R210): the
sections whose check reads with damage fail, and no others. -/

namespace Sys2Proof.Machine

variable {w : Nat}

/-- Damage to a check shows exactly when there is some. -/
theorem damaged_iff (k d : BitVec w) : k ^^^ d ≠ k ↔ d ≠ 0#w := by
  refine not_congr ⟨fun h => ?_, fun h => by simp [h]⟩
  have : k ^^^ (k ^^^ d) = k ^^^ k := congrArg _ h
  simpa [← BitVec.xor_assoc] using this

/-- The sections that fail over checks formed from their contents are those whose check reads with damage. -/
theorem failing_formed (r : Retained) (e : CheckDamage) :
    r.checks.failing r e =
      ⟨decide (e.calibration ≠ 0), decide (e.settings ≠ 0), decide (e.identities ≠ 0), decide (e.traffic ≠ 0),
        decide (e.tickets ≠ 0)⟩ := by
  simp only [SectionChecks.failing, Retained.checks, damaged_iff, BitVec.ofNat_eq_ofNat]

/-- A complete copy whose check was formed over it is good exactly when its check reads without damage. -/
theorem good_formed (r : Retained) (d : BitVec 32) :
    (UpdateCopy.complete r (Config.sectionCheck r)).good d = if d = 0 then some r else none := by
  simp [UpdateCopy.good]

/-- A start-up over checks formed from the contents, with no update copy. -/
theorem startUp_formed {s : State} {cause : StartCause} {env : StartEnv} (hk : s.checks = s.ret.checks)
    (hc : s.copy = .empty) :
    s.startUp cause env =
      s.startOver cause
        (reckoned
          ⟨decide (env.damage.calibration ≠ 0), decide (env.damage.settings ≠ 0), decide (env.damage.identities ≠ 0),
            decide (env.damage.traffic ≠ 0), decide (env.damage.tickets ≠ 0)⟩) .empty env := by
  obtain ⟨r, k, c⟩ := s
  obtain rfl : c = .empty := hc
  obtain rfl : k = r.checks := hk
  show State.startOver _ cause (reckoned (r.checks.failing r env.damage)) .empty env = _
  rw [failing_formed]
  rfl

end Sys2Proof.Machine
end

