-- ==== Sys2Proof/Tests/Slice0.lean ====
section
/-! SUPPORT. Tests of the model: the manual's worked sequences and tables, one step each, the commands that the
well-formedness checks refuse, and for each statement with hypotheses a state and operands that meet them. -/

namespace Sys2Proof.Tests

open Sys2Proof Sys2Proof.Machine

/-! ### Helpers -/

/-- The state after one command. -/
def ran (c : Instr) (s : State) : State :=
  match exec c s with
  | .next t => t
  | .fault f => nomatch f
  | .refused _ => s

/-- A header found good, on the site channel and on a lane channel. -/
def atSite : RecHead := ⟨.site, false⟩
def atLane (n : Lane) : RecHead := ⟨.lane n, false⟩

/-- The constants of the worked sample of chapter Weight arithmetic. -/
def workedCal : DeckCal where
  zeros := #v[10000, 10000, 10000, 10000, 0, 0, 0, 0]
  trims := #v[65536, 65536, 66191, 64881, 65536, 65536, 65536, 65536]
  eCal := 1600000
  k := 20580
  max := 60000
  d := 20
  z := 120
  zeroDone := true
  spanDone := true
  counter := 7

/-- A loop that is FREE over an empty road. -/
def freeLoop : Loop := ⟨.free, some 81920, some 81920, none, 0, 0, false, false⟩

/-- The sections of a yard at work. -/
def yardRetained : Retained :=
  { factoryRetained with
    cal := Quad.fill workedCal
    settings := { factorySettings with lanes := factorySettings.lanes.map fun l => { l with closed := false } } }

/-- A yard at work: decks calibrated and empty, loops FREE, lanes IDLE and open, barriers DOWN, the link LIVE and its port
WAITING, and no events held. -/
def yard : State :=
  { State.reset with
    ret := yardRetained
    checks := yardRetained.checks
    decks := Quad.fill { startDeck false with occupancy := .empty }
    loops := Quad.fill ⟨freeLoop, freeLoop⟩
    lanes := Quad.fill (startLane .idle)
    link := { startLink 19200 with port := .waiting, live := true }
    events := ⟨[], false, 0⟩ }

/-- The kinds of the events held. -/
def kinds (s : State) : List EventKind := s.events.queue.map (·.kind)

/-- The details of the events held. -/
def details (s : State) : List Detail := s.events.queue.map (·.detail)

/-- The last reply held. -/
def lastReply (s : State) : Option Reply := s.link.replies.getLast?

/-! ### Well-formedness: an ill-formed command for each check -/

theorem test_wf_refuses_no_cells : (Instr.deckSample 0 [] 1600000).wf = false := by decide
theorem test_wf_refuses_nine_cells : (Instr.deckSample 0 (List.replicate 9 0) 1600000).wf = false := by decide
theorem test_wf_refuses_count_past_converter : (Instr.zeroCaptureComplete 0 [2097152] 1600000).wf = false := by decide
theorem test_wf_refuses_reference_past_converter : (Instr.spanCaptureComplete 0 [0] (-2097153)).wf = false := by decide
theorem test_wf_refuses_visit_zero : (Instr.approvalTimeout 0).wf = false := by decide
theorem test_wf_refuses_visit_past_counter : (Instr.approvalTimeout 65536).wf = false := by decide
theorem test_wf_refuses_period_count : (Instr.loopMeasurement .one .entry 400002).wf = false := by decide
theorem test_wf_refuses_empty_frame : (Instr.tokenFrame .one .deck []).wf = false := by decide
theorem test_wf_refuses_long_frame : (Instr.tokenFrame .one .deck (List.replicate 10 0)).wf = false := by decide
theorem test_wf_refuses_damage_without_error :
    (Instr.recordNotExecuted (.damaged true false false false false)).wf = false := by decide
theorem test_wf_refuses_turn_with_checksum :
    (Instr.recordNotExecuted (.damaged false true false true true)).wf = false := by decide
theorem test_wf_refuses_trim_of_no_pairs : (Instr.trim atSite (.item [])).wf = false := by decide
theorem test_wf_accepts_extremes : (Instr.deckSample 15 [-2097152, 2097151] 2097151).wf = true := by decide

/-! ### Deck acquisition (chapter Deck acquisition: the tolerance table and the nine samples of deck 2) -/

theorem test_tolerance_table :
    (refInTolerance workedCal 1500000, refInTolerance workedCal 1499999, refInTolerance workedCal 1700000,
      refInTolerance workedCal 1700001) = (true, false, true, false) := by decide
theorem test_tolerance_of_small_nominals :
    (refInTolerance { workedCal with eCal := 40 } 38, refInTolerance { workedCal with eCal := 40 } 37,
      refInTolerance { workedCal with eCal := 15 } 15, refInTolerance { workedCal with eCal := 15 } 16)
      = (true, false, true, false) := by decide
theorem test_reference_end_values_without_zero_mark :
    (refInTolerance { workedCal with zeroDone := false } 2097150,
      refInTolerance { workedCal with zeroDone := false } 2097151) = (true, false) := by decide

/-- Sample 2 of deck 2: slot 2 of the factory plan, a saturated cell. -/
def saturatedStep : State := ran (.deckSample 1 [250100, 245000, 2097151, 242000] 1599000) yard

theorem test_frame_start_without_deck_four :
    let plan : Vector (Option Lane) 16 :=
      #v[some .one, some .two, some .three, some .one, some .two, some .three, some .one, some .two, some .three,
        some .one, some .two, some .three, some .one, some .two, some .three, none]
    let t := ran .frameStart (yard.modSettings fun c => { c with slotPlan := plan })
    (t.deckValid .three, t.deckValid .four, details t) = (true, false, [.reasons ⟨false, true, false, false⟩]) := by
  decide

/-! ### Weight arithmetic (the worked sample of deck 3, the filter and the cases at the limits) -/

theorem test_worked_stage_two : trimmedSum workedCal [260000, 255000, 248000, 252000] = 974960 := by decide
theorem test_worked_stage_three : correctedSum workedCal [260000, 255000, 248000, 252000] 1580000 = 987301 := by decide
theorem test_worked_stage_four : spanWeight workedCal [260000, 255000, 248000, 252000] 1580000 = 310038 := by decide
/-- The worked sample, and the fourth good sample of deck 2. -/
theorem test_sample_makes_a_reading :
    (let s := yard.modDeck .two fun d => { d with saturated := true, excitation := true, good := 3 }
     let t := ran (.deckSample 1 [250000, 245000, 238000, 242000] 1598000) s
     (t.deckValid .two, (t.deck .two).good, kinds t, (t.deck .two).history.length) = (true, 0, [.deckValid], 1))
      ∧ (let s := yard.modDeck .three fun d => { d with history := [310038, 310038, 310038] }
         let t := ran (.deckSample 2 [260000, 255000, 248000, 252000] 1580000) s
         (t.deck .three).reading = some ⟨310038, 309918, 309918, 31000, .normal, 4, 0, 400⟩) := by decide
theorem test_filter_means : (roundDiv 930118 3, roundDiv 1240187 4, roundDiv 1240177 4) = (310039, 310047, 310044) := by
  decide
theorem test_halves_go_away_from_zero : (roundDiv 201 2, roundDiv (-201) 2) = (101, -101) := by decide
theorem test_rounding_below_zero :
    (roundDiv (-98304) 65536, roundDiv (-3200000) 1580000, roundDiv (-41160) 65536) = (-2, -2, -1) := by decide
theorem test_range_limits :
    (rangeStatus workedCal 601800, rangeStatus workedCal 601801, rangeStatus workedCal (-4000),
      rangeStatus workedCal (-4001)) = (.normal, .over, .normal, .under) := by decide
theorem test_weight_saturates :
    spanWeight { workedCal with zeros := Vector.replicate 8 0, trims := Vector.replicate 8 65536, k := 16000000 }
      [2000000, 2000000, 2000000, 2000000] 1600000 = 1953125000
      ∧ spanWeight { workedCal with zeros := Vector.replicate 8 0, trims := Vector.replicate 8 65536, k := 16777215 }
        [2000000, 2000000, 2000000, 2000000] 1500000 = 2000000000 := by decide

/-! ### Settling and zero (a vehicle coming to rest; zero following a drifting deck) -/

/-- A reading of this filtered weight. -/
def readingOf (f : Int) (d : Int) : Reading := ⟨f, f, f, d, .normal, 4, 0, 400⟩

theorem test_first_reading_is_the_anchor :
    judgeReading factoryDeck clearedSettling (readingOf 98410 9840) = ⟨.unsettled, some 98410, 0, 0⟩ := by decide
theorem test_fifth_reading_is_tentative :
    judgeReading factoryDeck ⟨.unsettled, some 98410, 3, 0⟩ (readingOf 98396 9840) = ⟨.tentative, some 98410, 4, 0⟩ := by
  decide
theorem test_jolt_is_counted_out :
    judgeReading factoryDeck ⟨.settled, some 98410, 12, 0⟩ (readingOf 98530 9860) = ⟨.settled, some 98410, 12, 1⟩ := by
  decide
theorem test_reading_twenty_six_locks :
    judgeReading factoryDeck ⟨.settled, some 98410, 23, 0⟩ (readingOf 98440 9840) = ⟨.locked, some 98410, 24, 0⟩ := by
  decide
theorem test_third_reading_out_unsettles :
    judgeReading factoryDeck ⟨.settled, some 98410, 12, 2⟩ (readingOf 98530 9860) = ⟨.unsettled, some 98530, 0, 0⟩ := by
  decide

/-- The drifting deck 3, LOCKED on an IDLE lane with this reading, zero offset and anchor. -/
def drifting (f z a : Int) (marked : Bool) : State :=
  (yard.modCal .three fun c => { c with z := z }).modDeck .three fun d =>
    { d with
      reading := some (readingOf f 0), settling := ⟨.locked, some a, 24, 0⟩, zeroMarker := marked }

/-- The three seconds of the drifting deck. -/
theorem test_zero_tracking :
    (let t := ran .siteTimeAdvance (drifting 60 11900 58 false)
     ((t.cal .three).z, (t.deck .three).settling.anchor, kinds t) = (11960, some (-2), []))
      ∧ (let t := ran .siteTimeAdvance (drifting 70 11960 (-2) false)
         ((t.cal .three).z, (t.deck .three).settling.anchor, details t) = (12000, some (-42), [.limitSide .upper]))
      ∧ (let t := ran .siteTimeAdvance (drifting 50 12000 (-42) true)
         ((t.cal .three).z, (t.deck .three).settling.anchor, kinds t) = (12000, some (-42), [])) := by decide
theorem test_zero_record_past_the_limit :
    lastReply (ran (.zero (atLane .three)) (drifting 50 12000 (-42) true)) = some (.result (.lane .three) .limit) := by
  decide
/-- A limit held since a RANGE that raised Max refuses a ZERO that the new Max would take, and one that lowered it still
gives way to the new Max (R31, R63; log 39). -/
theorem test_zero_record_before_the_next_sample :
    let held (limit : Nat) := (drifting 50 11000 7 true).modDeck .three fun d => { d with heldLimit := some limit }
    lastReply (ran (.zero (atLane .three)) (held 11000)) = some (.result (.lane .three) .limit)
      ∧ lastReply (ran (.zero (atLane .three)) (held 11050)) = some (.result (.lane .three) .ok)
      ∧ lastReply (ran (.zero (atLane .three)) ((held 20000).modCal .three fun c => { c with max := 55000 }))
        = some (.result (.lane .three) .limit) := by decide
theorem test_zero_record_sets_zero :
    ((ran (.zero (atLane .three)) (drifting 50 100 7 true)).cal .three).z = 150 := by decide

/-! ### Calibration (a deck from the factory state; two captures that fail) -/

/-- Deck 3 from the factory state, its lane CLOSED and CAL ENABLE high. -/
def factoryDeckThree : State :=
  ((yard.modCal .three fun _ => factoryCal).modLane .three fun l => { l with state := .closed }).modPower fun p =>
    { p with calEnable := true }

/-- A zero capture of deck 3 with sixty-three samples counted; with the sample (10010, 10000, 10000, 10000) and reference
1,600,000 its sums are those of step 2. -/
def lastZeroSample : State :=
  factoryDeckThree.modDeck .three fun d =>
    { d with
      op := some (.zero 63 (some [10000, 10000, 10000, 10000]) [630000, 629980, 630000, 630031] 100800025) }

theorem test_zero_capture_record_starts :
    let t := ran (.zeroCapture (atLane .three) (.item ())) factoryDeckThree
    ((t.deck .three).op, lastReply t) = (some (.zero 0 none [] 0), some (.result (.lane .three) .ok)) := by decide
theorem test_zero_capture_completes :
    let t := ran (.zeroCaptureComplete 2 [10010, 10000, 10000, 10000] 1600000) lastZeroSample
    ((t.cal .three).eCal, (t.cal .three).zeros.get 0, (t.cal .three).zeros.get 3, (t.cal .three).counter, details t)
      = (1600000, 10000, 10000, 1, [.calDone .zeroCapture 1]) := by decide
theorem test_zero_capture_half_rounds_up :
    ((ran (.zeroCaptureComplete 2 [10032, 10000, 10000, 10000] 1600000) lastZeroSample).cal .three).zeros.get 0
      = 10001 := by decide

/-- A span capture of deck 3 with a load of 31,000 kg and sixty-three samples counted; the next sample's corrected sum is
987,301. -/
def lastSpanSample (sum : Int) : State :=
  (factoryDeckThree.modCal .three fun _ => { workedCal with k := 65536, spanDone := false, counter := 2 }).modDeck .three
    fun d => { d with op := some (.span 31000 63 (some 987310) sum) }

theorem test_span_capture_completes :
    let t := ran (.spanCaptureComplete 2 [260000, 255000, 248000, 252000] 1580000) (lastSpanSample 62199989)
    ((t.cal .three).k, (t.cal .three).counter, kinds t, details t)
      = (20577, 3, [.calDone, .deckValid], [.calDone .spanCapture 3, .none]) := by decide
theorem test_span_capture_too_small :
    let t := ran (.spanCaptureComplete 2 [260000, 255000, 248000, 252000] 1580000) (lastSpanSample (-62199989))
    (details t, (t.deck .three).op) = ([.calAborted .spanCapture .spanTooSmall], none) := by decide
theorem test_trim_replaces_the_listed_cells :
    let t := ran (.trim (atLane .three) (.item [⟨3, 66191⟩, ⟨4, 64881⟩])) factoryDeckThree
    ((t.cal .three).trims.get 2, (t.cal .three).trims.get 3, (t.cal .three).trims.get 0, details t)
      = (66191, 64881, 65536, [.calDone .trim 1]) := by decide
theorem test_trim_of_a_repeated_cell :
    lastReply (ran (.trim (atLane .three) (.item [⟨3, 66191⟩, ⟨3, 64881⟩])) factoryDeckThree)
      = some (.result (.lane .three) .badArgument) := by decide
theorem test_range_sets_capacity :
    let t := ran (.range (atLane .three) (.item ⟨50000, 5⟩)) factoryDeckThree
    ((t.cal .three).max, (t.cal .three).d, (t.cal .three).counter) = (50000, 5, 1) := by decide
/-- The limit of Max 60,000 outlives a RANGE to the deck's next sample (R63). -/
theorem test_range_holds_the_zero_limit :
    let t := ran (.range (atLane .three) (.item ⟨100000, 100⟩)) factoryDeckThree
    let u := ran (.deckSample 2 [1, 1, 1, 1] 1) t
    ((t.deck .three).heldLimit, (u.deck .three).heldLimit) = (some 12000, none) := by decide
theorem test_range_past_ten_thousand_divisions :
    lastReply (ran (.range (atLane .three) (.item ⟨50005, 5⟩)) factoryDeckThree)
      = some (.result (.lane .three) .badArgument) := by decide
/-- A reading keeps the minimum weighing it was made with, whatever a RANGE sets after it (R30). -/
theorem test_minimum_stands_with_the_reading :
    let s := factoryDeckThree.modDeck .three fun d => { d with reading := some (readingOf 4000 400) }
    let t := ran (.range (atLane .three) (.item ⟨100000, 50⟩)) { s with power := { s.power with calEnable := true } }
    ((t.cal .three).d, (t.deck .three).reading.map (·.minimum)) = (50, some 400) := by decide
theorem test_abort_with_nothing_in_flight :
    lastReply (ran (.abort (atLane .three)) factoryDeckThree) = some (.result (.lane .three) .wrongState) := by decide
theorem test_cal_record_with_key_off :
    lastReply (ran (.abort (atLane .three)) (ran .calEnableFall factoryDeckThree))
      = some (.result (.lane .three) .calLocked) := by decide
theorem test_enable_fall_ends_each_operation :
    let s := lastZeroSample.modDeck .one fun d => { d with op := some (.zero 40 none [] 0) }
    let t := ran .calEnableFall s
    (kinds t, (t.deck .one).op, (t.deck .three).op) = ([.calAborted, .calAborted], none, none) := by decide
theorem test_enable_rise : (ran .calEnableRise yard).power.calEnable = true := by decide

/-! ### Capture of parts (an articulated vehicle in two parts) -/

/-- Lane 2 with the trailer's first part captured, LOCKED at 21,360 kg, its rear axles over the entry loop. -/
def trailer (age : Nat) : State :=
  (((yard.modDeck .two fun d =>
      { d with
        reading := some (readingOf 213600 21360), settling := ⟨.locked, some 213600, 24, 0⟩
        occupancy := .occupied }).modLane .two fun l =>
      { l with
        state := .weighing
        capture := ⟨some 2, [⟨18440, .two, 10100, 7, false⟩], true, some age⟩ }).modLoop .two .entry fun l =>
      { l with condition := .occupied }).modClock fun c => { c with siteTime := 10109, unset := false }

/-- A saturated cell, an unstable sample in a capture, and a part discarded. -/
theorem test_sample_that_ends_work :
    ((saturatedStep.reasons .two, kinds saturatedStep) = (⟨false, false, true, false⟩, [.deckInvalid]))
      ∧ (let s := lastSpanSample 0 |>.modDeck .three fun d => { d with op := some (.span 31000 36 (some 985300) 35471880) }
         let t := ran (.deckSample 2 [260000, 255000, 248000, 252000] 1580000) s
         (details t, (t.cal .three).k) = ([.calAborted .spanCapture .unstable], 65536))
      ∧ (kinds (ran (.deckSample 1 [0, 0, 0, 2097151] 1600000) (trailer 9)) = [.partDiscarded, .deckInvalid]) := by decide

/-! ### Loops and barriers (a vehicle crossing a loop; a barrier lowering into trouble) -/

/-- Lane 1 PASSING an EXIT with its barrier UP. -/
def passing : State :=
  (yard.modLane .one fun l =>
    { l with state := .passing, identity := some ⟨10, .exit, none, none, .deckReader⟩ }).modBarrier .one fun b =>
    { b with state := .up, target := .up, downSwitch := false, upSwitch := true }

theorem test_learning_ends_occupied :
    let s := yard.modLoop .one .clear fun l => { l with condition := .learning, learnTimer := some 0 }
    ((ran (.learningEnd .one .clear) s).loop .one .clear).condition = .occupied := by decide
theorem test_loop_stuck :
    let s := yard.modLoop .one .entry fun l => { l with condition := .occupied, presence := 601, stuckDue := true }
    let t := ran (.loopStuck .one .entry) s
    (details t, (t.loop .one .entry).stuck) = ([.stuck .entry 600], true) := by decide

/-- Lane 2 in CLEARING, its barrier lowering with the factory settings and so many obstructions counted. -/
def lowering (count : Nat) : State :=
  (yard.modLane .two fun l => { l with state := .clearing }).modBarrier .two fun b =>
    { b with
      state := .lowering, duty := 200, direction := some .down, motionMs := some 1900, obstructions := count
      downSwitch := false }

theorem test_ramp_step :
    let s := (lowering 0).modBarrier .two fun b => { b with duty := 180 }
    ((ran (.barrierRampStep .two) s).barrier .two).duty = 190 := by decide
theorem test_ramp_stops_at_run_duty : ((ran (.barrierRampStep .two) (lowering 0)).barrier .two).duty = 200 := by decide
/-- The first obstruction, and the third. -/
theorem test_obstructions_counted :
    (let t := ran (.comparatorTrip .two) (lowering 0)
     ((t.barrier .two).state, (t.barrier .two).duty, details t) = (.reversing, 0, [.obstructions 1]))
      ∧ (let t := ran (.comparatorTrip .two) (lowering 2)
         ((t.barrier .two).state, (t.lane .two).state, kinds t)
           = (.fault .obstruction, .clearing, [.barrierObstructed, .barrierFault])) := by decide
theorem test_trip_in_blanking_is_disregarded :
    let s := (lowering 0).modBarrier .two fun b => { b with blanked := true }
    ((ran (.comparatorTrip .two) s).barrier .two).state = .lowering := by decide
theorem test_blanking_end_takes_a_held_trip :
    let s := (lowering 0).modBarrier .two fun b => { b with blanked := true, comparator := true }
    ((ran (.comparatorBlankingEnd .two) s).barrier .two).obstructions = 1 := by decide
theorem test_comparator_clears : ((ran (.comparatorClear .two) (lowering 0)).barrier .two).comparator = false := by decide
theorem test_pause_ends_in_raising :
    let s := (lowering 1).modBarrier .two fun b => { b with state := .reversing, duty := 0 }
    ((ran (.reversingPauseEnd .two) s).barrier .two).state = .raising := by decide
/-- A loop judges its measurements: a vehicle crossing it, and a baseline that falls behind. -/
theorem test_crossing_of_a_loop :
    (((ran (.loopMeasurement .one .clear 81610) passing).loop .one .clear).condition = .free)
      ∧ (let t := ran (.loopMeasurement .one .clear 81480) passing
         ((t.loop .one .clear).condition, (t.lane .one).cycle) = (.occupied, some true))
      ∧ (let s := ran (.loopMeasurement .one .clear 81480) passing
         (((ran (.loopMeasurement .one .clear 81715) s).loop .one .clear).condition,
           ((ran (.loopMeasurement .one .clear 81722) s).loop .one .clear).condition) = (.occupied, .free))
      ∧ (let s := ran (.loopMeasurement .one .clear 81480) passing
         let t := ran (.loopMeasurement .one .clear 81722) s
         ((t.lane .one).state, (t.barrier .one).state, (t.barrier .one).duty, kinds t) = (.clearing, .lowering, 80, []))
      ∧ (let s := yard.modLoop .one .clear fun l => { l with baseline := some 81090, latest := some 81095 }
         ((ran (.loopMeasurement .one .clear 81920) s).loop .one .clear).baseline = some 81920)
      ∧ (let t := ran (.loopMeasurement .two .clear 81480) (lowering 1)
         ((t.barrier .two).state, (t.barrier .two).obstructions, kinds t) = (.reversing, 1, [])) := by decide
theorem test_down_switch_ends_the_lane :
    let t := ran (.limitSwitchChange .two .down true) (lowering 2)
    ((t.barrier .two).state, (t.barrier .two).obstructions, (t.lane .two).state) = (.down, 0, .idle) := by decide
theorem test_both_switches_are_a_fault :
    let t := ran (.limitSwitchChange .two .up true) yard
    ((t.barrier .two).state, (t.lane .two).state) = (.fault .switch, .suspended) := by decide
theorem test_travel_timeout : ((ran (.travelTimeout .two) (lowering 0)).barrier .two).state = .fault .travel := by decide
theorem test_barrier_reset_part_way_down :
    let s := (lowering 3).modBarrier .two fun b => { b with state := .fault .obstruction, duty := 0, direction := none }
    let t := ran (.barrierReset (atLane .two)) s
    ((t.barrier .two).state, (t.barrier .two).obstructions) = (.lowering, 0) := by decide

/-! ### Waiting lists and identification (a queue at the mouth of lane 2; a stranger who becomes a regular) -/

/-- A lorry of the vehicle table. -/
def lorry (t : Token) (account : Fin 256) : Vehicle :=
  ⟨t, account, 2, .delivery, some 4, none, none, none, false, .loaded, 0⟩

/-- A completed one-part weighing. -/
def weighed (n : Lane) (kg : Nat) : Weighing := ⟨kg, n, 20000, [⟨kg, n, 20000, 7, false⟩], false⟩

/-- No flag of a visit. -/
def plain : VisitFlags := ⟨false, false, false, false, false, false, false⟩

/-- The frame of a token below 256. -/
def frameOf (t : Byte) : List Byte := [0, 0, 0, 0, 0, 0, 0, t, t]

/-- The yard with these vehicles, accounts 10 (A, C and D) and 11 (B, ON_STOP). -/
def queueYard : State :=
  yard.modIdent fun i =>
    { i with
      vehicles := [lorry 10 10, lorry 11 11, lorry 12 10, lorry 13 10]
      accounts := i.accounts.set 11 ⟨.onStop, none, .hard, 0, 0, false, none⟩ }

/-- Entries listed OK, or marked. -/
def listed (t : Token) (r : Option Reason) : WaitEntry := ⟨t, 0, 0, .entry, r⟩

/-- A ninth byte ends a frame, and the bytes past it begin the next (R92). -/
theorem test_bytes_past_a_frame_begin_the_next :
    let s := queueYard.modReaders .two fun p => { p with approach := ⟨[0, 0, 0, 0, 0], none, 10⟩ }
    let t := ran (.tokenFrame .two .approach [0, 0, 10, 10, 1, 2]) s
    ((t.readerPort .two .approach).gathered, (t.list .two).map (·.token)) = ([1, 2], [10]) := by decide
theorem test_gap_discards_bytes :
    let s := yard.modReaders .two fun p => { p with deck := ⟨[1, 2], none, 10⟩ }
    ((ran (.tokenFrameGap .two .deck) s).readerPort .two .deck).gathered = [] := by decide
/-- The waiting lists as approach reads change them. -/
theorem test_approach_reads :
    (let t := ran (.tokenFrame .two .approach (frameOf 11)) (queueYard.modList .two fun _ => [listed 10 none])
     (t.list .two, details t) = ([listed 10 none, listed 11 (some .accountStopped)], [.reason .accountStopped]))
      ∧ (let s := queueYard.modList .two fun _ => [listed 10 none, listed 11 (some .accountStopped), listed 12 none]
         let t := ran (.tokenFrame .three .approach (frameOf 12)) s
         ((t.list .two).map (·.token), t.list .three, kinds t) = ([10, 11], [listed 12 none], []))
      ∧ (let s := queueYard.modReaders .two fun p => { p with approach := ⟨[], some 10, 9⟩ }
         (ran (.tokenFrame .two .approach (frameOf 10)) s).list .two = [])
      ∧ ((ran (.tokenFrame .two .approach [0, 0, 0, 0, 0, 0, 0, 10, 11]) queueYard).list .two = [])
      ∧ (let s := queueYard.modSettings fun c => { c with siteMode := .closed }
         let t := ran (.tokenFrame .two .approach (frameOf 10)) s
         (kinds t, t.list .two) = ([.outOfHours], [])) := by decide

/-- Lane 3 admitting unknown vehicles into account 40 of default stream 5, OCCUPIED, at site time 5,000,000. -/
def stranger (provisional : Nat) : State :=
  ((((yard.modLaneSettings .three fun c => { c with policy := ⟨.both, true, 40, 2, none, 60⟩ }).modIdent fun i =>
      { i with
        provisional := provisional
        accounts := i.accounts.set 40 ⟨.active, none, .hard, 0, 0, false, some 4⟩ }).modLane .three fun l =>
    { l with state := .occupied }).modDeck .three fun d => { d with occupancy := .occupied }).modClock fun c =>
      { c with siteTime := 5000000 }

/-- Deck reads identify a listed vehicle and a stranger. -/
theorem test_deck_reads :
    (let s := (queueYard.modList .two fun _ => [listed 10 none, listed 11 (some .accountStopped), listed 13 none]).modLane
       .two fun l => { l with state := .occupied }
     let t := ran (.tokenFrame .two .deck (frameOf 13)) s
     ((t.lane .two).state, t.list .two, t.events.queue.map (·.subject))
       = (.weighing, [], [.token 10, .token 11]))
      ∧ (let t := ran (.tokenFrame .three .deck (frameOf 99)) (stranger 37)
         ((t.lane .three).state, t.ret.ident.provisional, t.ret.ident.vehicles)
           = (.weighing, 38, [⟨99, 40, 2, .delivery, none, none, none, none, false, .provisional, 5000000⟩])) := by decide
theorem test_learn_limit_refuses :
    let t := ran (.ident (atLane .three) (.item ⟨99, 255, 0⟩)) (stranger 128)
    ((t.lane .three).state, details t, lastReply t)
      = (.refused, [.reason .learnLimit], some (.result (.lane .three) .ok)) := by decide
theorem test_ident_outside_occupied :
    lastReply (ran (.ident (atLane .one) (.item ⟨99, 255, 0⟩)) (stranger 0)) = some (.result (.lane .one) .wrongState) := by
  decide

/-! ### Expiries (the stranger's tare and entry; a silent office) -/

/-- The minute sweep due at this site time, with X's learned tare set at 5,003,460 and its last use at 5,003,400. -/
def ageing (now : SiteTime) (v : Vehicle) (provisional : Nat) : State :=
  ((yard.modSettings fun c => { c with provAge := 60, tareAge := 720 }).modIdent fun i =>
    { i with vehicles := [v], provisional := provisional }).modClock fun c =>
      { c with siteTime := now, sweepDue := true }

/-- X with its learned tare, entered by learning or by the host. -/
def regular (origin : EntryOrigin) : Vehicle :=
  ⟨99, 40, 2, .delivery, none, none, some ⟨9870, .learned, 5003460⟩, none, false, origin, 5003400⟩

theorem test_tare_expires :
    let t := ran .minuteSweep (ageing 7595461 (regular .provisional) 1)
    (t.ret.ident.vehicles.map (·.tare), kinds t, details t) = ([none], [.tareExpired], [.weight 9870]) := by decide
theorem test_entry_expires :
    let t := ran .minuteSweep (ageing 10187401 { regular .provisional with tare := none } 1)
    (t.ret.ident.vehicles, t.ret.ident.provisional, details t) = ([], 0, [.days 60]) := by decide

/-! ### Admission (an allowance; a nearly full stream; the daily permit; a cash customer) -/

/-- A lorry of account 17 and stream 3 with this stored tare, weighed in at lane 1. -/
def arriving (kg tare : Nat) (account : Account) (stock reserved : Nat) (f : Settings → Settings) : State :=
  ((((yard.modIdent fun i =>
      { i with
        vehicles := [{ lorry 10 17 with stream := some 2, tare := some ⟨tare, .loaded, 0⟩ }]
        accounts := i.accounts.set 17 account }).modTraffic fun t =>
      { t with streams := t.streams.set 2 ⟨stock, reserved⟩, counter := 511 }).modSettings f).modLane .one fun l =>
    { l with
      state := .weighing, identity := some ⟨10, .entry, none, none, .deckReader⟩
      heldWeighing := some (weighed .one kg) })

/-- Account 17 of the allowance table. -/
def allowed (kind : LimitKind) (consumed pending : Nat) : Account := ⟨.active, some 60000, kind, consumed, pending, false, none⟩

/-- Account 17 without an allowance. -/
def account17 : Account := ⟨.active, none, .hard, 0, 10000, false, none⟩

/-- Stream 3 of the nearly full stream. -/
def greenWaste (c : Settings) : Settings :=
  { c with streams := c.streams.set 2 ⟨200000, .opened, ⟨some 198000, some 199000, none, none⟩⟩ }

/-- The nearly full stream, and the daily permit. -/
theorem test_admission_against_stream_and_permit :
    (let t := ran (.admissionProcedure .one) (arriving 14260 9880 account17 187400 20 greenWaste)
     (t.streamTotals 2, details t) = (⟨187400, 20⟩, [.reason .streamCapacity]))
      ∧ (let t := ran (.admissionProcedure .one) (arriving 11980 9880 account17 187400 20 greenWaste)
         (t.streamTotals 2, t.ret.traffic.visits.map (·.number), details t)
           = (⟨187400, 25⟩, [512], [.level 198000 true, .level 199000 true, .blocks 5]))
      ∧ (let s := (arriving 15500 9500 account17 0 89 fun c => { c with permitCap := some 1200000 }).modTraffic fun t =>
           { t with accepted := 1150000 }
         details (ran (.admissionProcedure .one) s) = [.reason .permitCap])
      ∧ (let s := (arriving 14000 9500 account17 0 80 fun c => { c with permitCap := some 1200000 }).modTraffic fun t =>
           { t with accepted := 1150000 }
         ((ran (.admissionProcedure .one) s).streamTotals 2).reserved = 89) := by decide
/-- A delivery no heavier than its tare takes no blocks, and is admitted past the stream's capacity (R145, log 40). -/
theorem test_delivery_of_no_blocks :
    let t := ran (.admissionProcedure .one) (arriving 9880 9880 account17 200000 20 greenWaste)
    (t.streamTotals 2, details t) = (⟨200000, 20⟩, [.blocks 0]) := by decide
/-- The rows of the allowance table, and the approval of a cash customer. -/
theorem test_admission_against_an_allowance :
    (let t := ran (.admissionProcedure .one) (arriving 17500 9500 (allowed .hard 41200 9800) 0 20 id)
     ((t.account 17).pending, (t.lane .one).state) = (17800, .passing))
      ∧ (let t := ran (.admissionProcedure .one) (arriving 11000 9500 (allowed .hard 41200 17800) 0 20 id)
         ((t.account 17).pending, details t) = (17800, [.reason .allowance]))
      ∧ (let t := ran (.admissionProcedure .one) (arriving 11000 9500 (allowed .soft 41200 17800) 0 20 id)
         ((t.account 17).pending, t.ret.traffic.visits.map (·.flags.allowanceExceeded)) = (19300, [true]))
      ∧ (let t := ran (.admissionProcedure .one) (arriving 11000 9500 { account17 with approval := true } 0 20 id)
         ((t.lane .one).state, t.ret.traffic.visits.map (·.state), kinds t) = (.held .approval, [.heldIn], [.held])) := by decide

/-- A visit of token 10, account 17 and stream 3. -/
def visitOf (k : Nat) (kind : Kind) (st : VisitState) (kg estimate blocks : Nat) : Visit :=
  { number := k, token := 10, account := 17, cls := 2, stream := 2, kind := kind, state := st, entryLane := .one
    exitLane := none, entry := weighed .one kg, exit := none, estimate := estimate, blocks := blocks, net := none
    flags := plain, timer := 0, approvalDue := false }

/-- The yard with one open visit, handled by a lane in this state, its stream and account holding its reservation. -/
def oneVisit (n : Lane) (d : Direction) (st : LaneState) (v : Visit) : State :=
  (((yard.modTraffic fun t =>
      { t with visits := [v], streams := t.streams.set 2 ⟨9000, v.blocks⟩, counter := v.number }).modIdent fun i =>
    { i with
      vehicles := [{ lorry 10 17 with stream := some 2, kind := v.kind }]
      accounts := i.accounts.set 17 { account17 with pending := v.estimate } }).modLane n fun l =>
    { l with state := st, identity := some ⟨10, d, none, none, .deckReader⟩, visit := some v.number }).modDeck n fun d =>
      { d with occupancy := .occupied }

/-- Visit 77 held at entry in lane 1. -/
def visit77 : Visit := visitOf 77 .delivery .heldIn 10900 1400 3
def cashier : State := oneVisit .one .entry (.held .approval) visit77

theorem test_approval_timeout_cancels :
    let t := ran (.approvalTimeout 77) (cashier.modVisit 77 fun v => { v with timer := 121, approvalDue := true })
    ((t.lane .one).state, (t.lane .one).lateNumber, t.ret.traffic.visits, (t.account 17).pending, details t)
      = (.refused, some 77, [], 0, [.reason .approvalTimeout]) := by decide
/-- An APPROVE in time, and late ones. -/
theorem test_approve_at_entry :
    (let s := yard.modLane .one fun l => { l with state := .refused, lateNumber := some 77 }
     (lastReply (ran (.approve (atLane .one) 77) s), lastReply (ran (.approve (atLane .one) 78) s))
       = (some (.result (.lane .one) .tooLate), some (.result (.lane .one) .notFound)))
      ∧ (let t := ran (.approve (atLane .one) 77) cashier
         ((t.lane .one).state, t.ret.traffic.visits.map (·.flags.approvedIn), details t) = (.passing, [true], [.blocks 3])) := by decide
theorem test_decline_cancels :
    let t := ran (.decline (atLane .one) 77) cashier
    ((t.lane .one).state, (t.streamTotals 2).reserved, details t) = (.refused, 0, [.reason .declined]) := by decide
theorem test_silent_office :
    let s := cashier.modLink fun p => { p with silence := 31, lostDue := true }
    let t := ran .linkLost s
    (kinds t, t.ret.traffic.visits, (t.lane .one).state, t.link.live)
      = ([.linkLost, .vehicleRefused], [], .refused, false) := by decide
/-- A baseline followed, and a silence past its timeout. -/
theorem test_advance_of_loops_and_link :
    (((ran .siteTimeAdvance (yard.modLoop .one .clear fun l => { l with latest := some 81925 })).loop .one .clear).baseline
     = some 81921)
      ∧ (let s := yard.modLink fun p => { p with silence := 30 }
         ((ran .siteTimeAdvance s).link.silence, (ran .siteTimeAdvance s).link.lostDue) = (31, true)) := by decide
theorem test_pass_timeout_cancels :
    let s := (oneVisit .one .entry .passing (visitOf 77 .delivery .entering 10900 1400 3)).modLane .one fun l =>
      { l with passTimer := some 61, passDue := true }
    let t := ran (.passTimeout .one) s
    ((t.lane .one).state, t.ret.traffic.visits, kinds t) = (.refused, [], [.passTimeout]) := by decide

/-! ### Exit, close and the records that end a hold (a collection over its plate; manual working) -/

/-- Visit 140, a collection weighed in empty at 11,200 kg, at lane 4 with this exit weighing completed. -/
def leaving (kg : Nat) : State :=
  ((oneVisit .four .exit .weighing (visitOf 140 .collection .onSite 11200 0 0)).modSettings fun c =>
    { c with classes := c.classes.set 2 ⟨1, 0, 26000, 200, true⟩ }).modLane .four fun l =>
      { l with heldWeighing := some (weighed .four kg) }

/-- Visit 140 after its exit weighing, its lane held. -/
def leftAt (r : HoldReason) (vs : VisitState) : State :=
  oneVisit .four .exit (.held r)
    { visitOf 140 .collection vs 11200 0 0 with
      exitLane := some .four, exit := some (weighed .four 25900), net := some 14700 }

theorem test_overweight_collection :
    let t := ran (.exitProcedure .four) (leaving 29850)
    ((t.lane .four).state, t.ret.traffic.visits.map (fun v => (v.state, v.net)), kinds t)
      = (.held .overweight, [(.overweight, some 18650)], [.overweightOut, .held]) := by decide
theorem test_return_sends_back :
    let t := ran (.returnVisit (atLane .four) 140) (leftAt .overweight .overweight)
    ((t.lane .four).state, t.ret.traffic.visits.map (fun v => (v.state, v.net)), details t)
      = (.refused, [(.onSite, none)], [.reason .overweight]) := by decide
/-- The exit procedure closes the visit at once (R158): its learned tare, its ticket, and a stock that runs out. -/
theorem test_exit_closes_at_once :
    let t := ran (.exitProcedure .four) (leaving 25900)
    ((t.lane .four).state, t.ret.traffic.visits.length, t.streamTotals 2, kinds t)
        = (.held .print, 0, ⟨0, 0⟩, [.tareLearned, .visitClosed, .held])
      ∧ t.ret.tickets.journal.map (fun x => (x.number, x.net, x.flags.stockUnderrun)) = [(1, 14700, true)]
      ∧ t.ret.ident.vehicles.map (fun v => v.tare.map (·.value)) = [some 11200] := by decide
theorem test_approve_at_exit_closes_at_once :
    let t := ran (.approve (atLane .four) 140) (leftAt .approval .heldOut)
    ((t.lane .four).state, t.ret.traffic.visits.length, t.ret.tickets.journal.map (·.visit), kinds t, lastReply t)
      = (.held .print, 0, [140], [.tareLearned, .visitClosed, .held], some (.result (.lane .four) .ok)) := by decide
theorem test_raise_during_a_journal_hold :
    let s := { leftAt .journal .heldOut with journalOrder := [.four] }
    let t := ran (.barrierRaise (atLane .four)) s
    ((t.lane .four).state, t.ret.traffic.visits.map (·.state), t.journalOrder, details t)
      = (.manual, [.onSite], [], [.laneState (.held .journal)]) := by decide
/-- The last part waits for the entry loop; an aged one is discarded there; a crossing in MANUAL posts nothing. -/
theorem test_part_waits_for_the_entry_loop :
    (((ran (.loopMeasurement .two .entry 81500) (trailer 9)).lane .two).heldWeighing = none)
      ∧ (let t := ran (.loopMeasurement .two .entry 81920) (trailer 9)
         ((t.lane .two).heldWeighing.map fun w => (w.value, w.time, w.parts.length)) = some (39800, 10109, 2))
      ∧ (let t := ran (.loopMeasurement .two .entry 81920) (trailer 140)
         (details t, (t.lane .two).capture.parts.map (·.value), (t.lane .two).capture.age) = ([.parts 1], [21360], some 0))
      ∧ (let s := (yard.modLane .four fun l => { l with state := .manual, cycle := some false }).modLoop .four .clear fun l =>
           { l with condition := .occupied }
         kinds (ran (.loopMeasurement .four .clear 81900) s) = []) := by decide
theorem test_barrier_lower_ends_manual :
    let s := yard.modLane .four fun l => { l with state := .manual }
    ((ran (.barrierLower (atLane .four)) s).lane .four).state = .clearing := by decide

/-! ### Tickets and printers (a printer out of paper; a full journal across the wrap; two closes at one lane) -/

/-- A ticket of visit 140, issued at site time 31,000. -/
def ticketOf (k : Nat) (p : PrintState) : Ticket :=
  { number := k, visit := 140, issued := 31000, kind := .collection, token := 10, account := 17, cls := 2, stream := 2
    entry := weighed .one 11200, exit := weighed .four 25900, net := 14700, flags := { plain with stockUnderrun := true }
    print := p, failure := none, copies := 0 }

/-- A close job or a copy job. -/
def job (k : Nat) (n : Lane) (address : Fin 8) (copy : Bool) (st : JobState) : PrintJob := ⟨k, n, address, copy, st⟩

/-- Lane 4 HELD on ticket 4,207, with this print queue. -/
def printYard (js : List PrintJob) (p : PrintState) : State :=
  (((yard.modTickets fun _ => ⟨[ticketOf 4206 .queued, ticketOf 4207 p], 4208⟩).modPrinting fun q =>
      { q with queue := js }).modLane .four fun l => { l with state := .held .print, heldTicket := some 4207 }).modClock
    fun c => { c with siteTime := 31000, unset := false }

set_option maxRecDepth 20000 in
theorem test_nineteenth_transfer :
    let s := printYard [job 4207 .four 3 false (.sending 18)] .queued
    let t := ran (.printLineTransfer true) s
    (t.printing.queue, t.printing.lastTransfer) = ([job 4207 .four 3 false (.printing 0)], some ⟨8, [0]⟩) := by decide
/-- READY frees the bus; PAPER_OUT fails the job. -/
theorem test_status_ends_a_job :
    (let s := printYard [job 4206 .two 1 false (.printing 2), job 4207 .four 3 false .queued] .queued
     let t := ran (.printerStatusRead (.byte 1)) s
     (t.printing.queue, kinds t, (t.ticketNumbered 4206).map (·.print))
       = ([job 4207 .four 3 false (.sending 0)], [.printDone], some .printed))
      ∧ (let s := printYard [job 4207 .four 3 false (.printing 4)] .queued
         let t := ran (.printerStatusRead (.byte 3)) s
         (t.printing.queue, (t.ticketNumbered 4207).map (fun x => (x.print, x.failure)), (t.lane .four).state, details t)
           = ([], some (.failed, some .paperOut), .held .print, [.jobFailed false .paperOut])) := by decide
theorem test_reprint_queues_a_copy :
    let t := ran (.ticketsReprint (atLane .one) (.item ⟨4207, 3⟩)) (printYard [] .failed)
    lastReply t = some (.result (.lane .one) .wrongChannel) := by decide
theorem test_reprint_on_the_site_channel :
    let t := ran (.ticketsReprint atSite (.item ⟨4207, 3⟩)) (printYard [] .failed)
    (t.printing.queue, lastReply t) = ([job 4207 .three 2 true (.sending 0)], some (.result .site .ok)) := by decide
theorem test_copy_ends_the_hold :
    let t := ran (.printerStatusRead (.byte 1)) (printYard [job 4207 .three 2 true (.printing 9)] .failed)
    ((t.ticketNumbered 4207).map (fun x => (x.print, x.copies)), (t.lane .four).state, details t)
      = (some (.printed, 1), .passing, [.copyMark true]) := by decide
theorem test_print_timeout :
    let t := ran .printTimeout (printYard [job 4207 .four 3 false (.printing 75)] .queued)
    (details t, (t.ticketNumbered 4207).map (·.failure)) = ([.jobFailed false .timeout], some (some .timeout)) := by decide
theorem test_busy_lane_prints_nothing :
    let s := (leaving 25900).modPrinting fun q => { q with queue := [job 5001 .four 2 false .queued] }
    let t := ran (.exitProcedure .four) (s.modTickets fun _ => ⟨[], 5002⟩)
    (t.ret.tickets.journal.map (fun x => (x.number, x.print, x.failure)), kinds t)
      = ([(5002, .failed, some .laneBusy)], [.tareLearned, .visitClosed, .printFailed, .held]) := by decide

/-- The wrap of the ticket numbers, with a copy job of ticket 999,998. -/
def wrapYard (js : List PrintJob) : State :=
  (yard.modTickets fun _ => ⟨[ticketOf 999997 .none, ticketOf 999998 .none, ticketOf 999999 .none, ticketOf 1 .none], 2⟩).modPrinting
    fun q => { q with queue := js }

theorem test_release_of_a_ticket_in_use :
    let t := ran (.ticketsRelease atSite (.item 999998)) (wrapYard [job 999998 .two 1 true (.sending 0)])
    (lastReply t, t.ret.tickets.journal.length) = (some (.result .site .inUse), 4) := by decide
theorem test_release_goes_by_position :
    (ran (.ticketsRelease atSite (.item 999999)) (wrapYard [])).ret.tickets.journal.map (·.number) = [1] := by decide

set_option maxRecDepth 20000 in
/-- A release makes the close that waits for the journal, with the release (R158, R171). -/
theorem test_release_makes_the_held_close :
    let s := { leftAt .journal .heldOut with journalOrder := [.four] }
    let t := ran (.ticketsRelease atSite (.item 5)) (s.modTickets fun _ => ⟨ticketOf 5 .none :: List.replicate 127 (ticketOf 6 .none), 7⟩)
    ((t.lane .four).state, t.ret.traffic.visits, t.journalOrder, t.ret.tickets.journal.length,
      t.ret.tickets.journal.getLast?.map (·.visit)) = (.held .print, [], [], 128, some 140) := by decide
/-- A status read puts its read transfer on the bus, with the status byte where one comes (R179, R206). -/
theorem test_status_read_transfer :
    let s := printYard [job 4207 .four 3 false (.printing 4)] .queued
    ((ran (.printerStatusRead (.byte 2)) s).printing.lastTransfer, (ran (.printerStatusRead .noAck) s).printing.lastTransfer)
      = (some ⟨9, [2]⟩, some ⟨9, []⟩) := by decide
/-! ### The ticket as printed (R178) -/

set_option maxRecDepth 20000 in
theorem test_ticket_line_two :
    lineBytes false (ticketOf 4207 .none) 2
      = [84, 73, 67, 75, 69, 84, 32, 32, 32, 52, 50, 48, 55, 32, 86, 73, 83, 73, 84, 32, 32, 32, 49, 52, 48]
        ++ List.replicate 7 32 := by decide
set_option maxRecDepth 20000 in
theorem test_ticket_line_three :
    lineBytes false (ticketOf 4207 .none) 3
      = [73, 83, 83, 85, 69, 68, 32, 32, 32, 32, 32, 48, 32, 48, 56, 58, 51, 54, 58, 52, 48] ++ List.replicate 11 32 := by
  decide
set_option maxRecDepth 20000 in
theorem test_ticket_flags_line :
    lineBytes false (ticketOf 4207 .none) 18 = [70, 76, 65, 71, 83, 32, 83, 85] ++ List.replicate 24 32 := by decide

/-! ### The office link (errors that wait; the bytes of one exchange; check byte figures) -/

theorem test_unknown_kind_is_put_back :
    let s := ran (.recordNotExecuted (.damaged false false true false false)) yard
    let t := ran (.transmissionEnd none) s
    (s.link.replies, t.link.replies, t.link.errors.kindUnknown, t.link.port)
      = ([.errors { LinkErrors.none with kindUnknown := true }], [], true, .waiting) := by decide
theorem test_header_bad_passes_the_rest_over :
    let t := ran (.headerBad .bad) yard
    (t.link.port, t.link.turn, t.link.replies)
      = (.discarding, true, [.errors { LinkErrors.none with headerBad := true }]) := by decide
theorem test_end_gives_the_line_back :
    let s := yard.modLink fun p => { p with port := .sending, replies := [.finish 0], resetAll := true }
    let t := ran .replyComplete s
    (t.link.port, t.link.replies, t.power.held) = (.waiting, [], some .record) := by decide
/-- A gap inside the first record of a transmission, and what a header cut from its payload had added (R185, R186). -/
theorem test_gap_inside_a_record :
    (ran (.transmissionEnd (some HeaderMarks.none)) yard).link.errors = { LinkErrors.none with cutShort := true }
      ∧ (ran (.transmissionEnd (some ⟨true, true, false⟩)) yard).link.errors
        = { LinkErrors.none with headerCorrected := true, kindUnknown := true, cutShort := true }
      ∧ transmission [21, 0] 0 = [.transmissionEnd (some HeaderMarks.none)] := by decide
theorem test_first_gap_makes_the_port_ready :
    (ran .idleGapAtRelease (yard.modLink fun p => { p with port := .awaitIdle })).link.port = .waiting := by decide
/-- A TURN carries the errors, and restores the link. -/
theorem test_turn_answered :
    (let s := yard.modLink fun p => { p with errors := { LinkErrors.none with kindUnknown := true } }
     let t := ran (.transmissionEnd none) (ran (.turn atSite) s)
     (t.link.replies, t.link.port)
       = ([.errors { LinkErrors.none with kindUnknown := true }, .finish 0], .sending))
      ∧ (let s := yard.modLink fun p => { p with live := false, silence := 40 }
         let t := ran (.turn atSite) s
         (kinds t, t.link.live, t.link.silence) = ([.linkRestored], true, 0)) := by decide
theorem test_corrected_record_is_answered_twice :
    (ran (.day ⟨.site, true⟩) yard).link.replies
      = [.result .site .ok, .errors { LinkErrors.none with headerCorrected := true }] := by decide
set_option maxRecDepth 20000 in
theorem test_checksum_of_one_byte : checksum [15] = 4127 := by decide
set_option maxRecDepth 20000 in
theorem test_bytes_of_the_read : recordBytes (.readEvents atSite (.item ())) = some [21, 0, 1, 46, 15, 16, 31] := by decide
set_option maxRecDepth 20000 in
theorem test_bytes_of_the_transmission :
    transmission [21, 0, 1, 46, 15, 16, 31, 0, 0, 0, 0] 0
      = [.readEvents atSite (.item ()), .turn atSite, .transmissionEnd none] := by decide
theorem test_bytes_of_the_approve : recordBytes (.approve (atLane .one) 77) = some [36, 0, 77, 20] := by decide
theorem test_damaged_approve_reads_back :
    transmission [36, 16, 77, 20] 0 = [.approve ⟨.lane .one, true⟩ 77, .transmissionEnd none] := by decide
theorem test_bytes_of_the_answers :
    ((Reply.finish 0).bytes, (Reply.result (.lane .one) .ok).bytes) = ([15, 0, 0, 0], [45, 0, 0, 24]) := by decide
set_option maxRecDepth 20000 in
theorem test_bytes_of_the_events :
    let e : Event := ⟨.vehicleAdmitted, some .two, 20000, .visit 512, .blocks 5⟩
    let t := ran (.readEvents atSite (.item ())) { yard with events := ⟨[e], false, 0⟩ }
    (t.events.queue, t.link.replies.map fun r => (r.bytes.take 12, r.bytes.length))
      = ([], [([31, 0, 31, 40, 15, 1, 2, 2, 0, 0, 78, 32], 37)]) := by decide
set_option maxRecDepth 20000 in
theorem test_lost_events_close_the_last_read :
    let e : Event := ⟨.outOfHours, some .two, 20000, .token 10, .none⟩
    let t := ran (.readEvents atSite (.item ())) { yard with events := ⟨[e, e, e, e], true, 5⟩ }
    (t.events, t.link.replies.map Reply.size) = (⟨[], false, 0⟩, [149]) := by decide
theorem test_dropped_event_is_counted :
    let e : Event := ⟨.outOfHours, some .two, 20000, .token 10, .none⟩
    let t := ran (.turn atSite) { yard with
      events := ⟨List.replicate 64 e, false, 0⟩, link := { yard.link with live := false } }
    (t.events.queue.length, t.events.overflow, t.events.dropped) = (64, true, 1) := by decide

/-! ### Records of the site and the lanes -/

theorem test_site_close_closes_idle_lanes :
    let t := ran (.siteClose atSite) (yard.modLane .two fun l => { l with state := .weighing })
    ((t.lane .one).state, (t.laneSettings .one).closed, (t.lane .two).state, (t.lane .two).closePending)
      = (.closed, true, .weighing, true) := by decide
theorem test_site_open_forgets_the_closing :
    let t := ran (.siteOpen atSite) (yard.modLane .two fun l => { l with closePending := true })
    ((t.lane .two).closePending, t.ret.settings.siteMode) = (false, .opened) := by decide
theorem test_lane_open :
    let s := ((yard.modLane .one fun l => { l with state := .closed }).modLaneSettings .one fun c =>
      { c with closed := true })
    let t := ran (.laneOpen (atLane .one)) s
    ((t.lane .one).state, (t.laneSettings .one).closed) = (.idle, false) := by decide
theorem test_lane_close_outside_idle :
    lastReply (ran (.laneClose (atLane .one)) (yard.modLane .one fun l => { l with state := .weighing }))
      = some (.result (.lane .one) .wrongState) := by decide
theorem test_lane_clear :
    ((ran (.laneClear (atLane .one)) (yard.modLane .one fun l => { l with state := .refused })).lane .one).state = .idle := by
  decide
theorem test_day_clears_the_tonnage :
    (ran (.day atSite) (yard.modTraffic fun t => { t with accepted := 1150000 })).ret.traffic.accepted = 0 := by decide
theorem test_time_sets_the_clock :
    (ran (.time atSite (.item 20000)) yard).clock = ⟨20000, false, 0, false⟩ := by decide
theorem test_reset_link_empties_the_events :
    let t := ran (.resetLink atSite) { yard with events := ⟨[⟨.manualPass, some .two, 0, .none, .none⟩], true, 5⟩ }
    (t.events, lastReply t) = (⟨[], false, 0⟩, some (.result .site .ok)) := by decide
theorem test_reset_lanes_unconfirms_an_entry :
    let t := ran (.resetLanes atSite) (oneVisit .one .entry .passing (visitOf 77 .delivery .entering 10900 1400 3))
    ((t.lane .one).state, t.ret.traffic.visits.map (·.state), details t)
      = (.occupied, [.onSite], [.started .record SectionSet.none 1]) := by decide
theorem test_reset_all_passes_the_rest_over :
    let t := ran (.resetAll atSite) yard
    (t.link.port, t.link.turn, t.link.resetAll) = (.discarding, true, true) := by decide

/-! ### Tables and settings -/

theorem test_vehicle_write_keeps_the_tare :
    let s := ageing 5100000 (regular .provisional) 38
    let t := ran (.vehicleWrite atSite (.item ⟨99, 52, 2, 1, 5, 0xFFFFFFFF, 255, 0, 3, 0⟩)) s
    (t.ret.ident.vehicles, t.ret.ident.provisional)
      = ([⟨99, 52, 2, .delivery, some 4, none, some ⟨9870, .learned, 5003460⟩, none, false, .loaded, 5100000⟩], 37) := by
  decide
theorem test_vehicle_write_of_a_bad_mask :
    lastReply (ran (.vehicleWrite atSite (.item ⟨99, 52, 2, 1, 5, 0xFFFFFFFF, 0, 0, 3, 0⟩)) yard)
      = some (.result .site .badArgument) := by decide
theorem test_delete_waits_for_the_identity :
    let s := (ageing 0 (regular .provisional) 38).modLane .one fun l =>
      { l with state := .weighing, identity := some ⟨99, .entry, none, none, .deckReader⟩ }
    lastReply (ran (.vehicleDelete atSite (.item 99)) s) = some (.result .site .inUse) := by decide
theorem test_delete_leaves_the_list :
    let s := (ageing 0 (regular .provisional) 38).modList .two fun _ => [listed 99 none]
    let t := ran (.vehicleDelete atSite (.item 99)) s
    (t.ret.ident.vehicles, t.ret.ident.provisional, t.list .two, kinds t) = ([], 37, [], []) := by decide
theorem test_account_write_keeps_the_amounts :
    let s := yard.modIdent fun i => { i with accounts := i.accounts.set 17 (allowed .hard 41200 9800) }
    (ran (.accountWrite atSite (.item ⟨17, 1, 0xFFFFFFFF, 2, 0, 255⟩)) s).account 17
      = ⟨.active, none, .soft, 41200, 9800, false, none⟩ := by decide
theorem test_period_reset_keeps_pending :
    let s := yard.modIdent fun i => { i with accounts := i.accounts.set 17 (allowed .hard 45820 13500) }
    let t := ran (.accountPeriodReset atSite (.item 17)) s
    ((t.account 17).consumed, (t.account 17).pending) = (0, 13500) := by decide
theorem test_period_reset_of_no_account :
    lastReply (ran (.accountPeriodReset atSite (.item 256)) yard) = some (.result .site .badArgument) := by decide
theorem test_stock_crosses_downward :
    let s := (yard.modSettings greenWaste).modTraffic fun t => { t with streams := t.streams.set 2 ⟨199000, 0⟩ }
    let t := ran (.stock atSite (.item ⟨3, 187400⟩)) s
    (t.streamTotals 2, details t) = (⟨187400, 0⟩, [.level 199000 false, .level 198000 false]) := by decide
theorem test_slot_plan_waits_for_the_frame :
    let v : Vector Byte 16 := Vector.replicate 16 0
    let t := ran (.setupSlotPlan atSite (.item v)) yard
    (t.ret.settings.slotPlan.get 0, t.acq.active.get 0) = (none, some .one) := by decide
theorem test_deck_cells_uncalibrate :
    let s := (yard.modLane .one fun l => { l with state := .closed })
    let t := ran (.setupDeckCells (atLane .one) (.item 6)) s
    ((t.cal .one).zeroDone, (t.deckSettings .one).cells, details t)
      = (false, 6, [.reasons ⟨true, false, false, false⟩]) := by decide
theorem test_deck_filter_of_three :
    lastReply (ran (.setupDeckFilter (atLane .one) (.item 3)) yard) = some (.result (.lane .one) .badArgument) := by decide
theorem test_deck_settling :
    (ran (.setupDeckSettling (atLane .one) (.item ⟨5000, 1, 2, 3, 4⟩)) yard).deckSettings .one = ⟨4, 4, 5000, 1, 2, 3, 4⟩ := by
  decide
theorem test_occupancy_level_is_adjusted :
    (((ran (.setupOccupancyLevel (atLane .one) (.item 99)) yard).laneSettings .one).occupancy,
      ((ran (.setupOccupancyLevel (atLane .one) (.item 5001)) yard).laneSettings .one).occupancy) = (100, 5000) := by decide
theorem test_part_age :
    (((ran (.setupPartAge (atLane .one) (.item 600)) yard).laneSettings .one).partAge,
      lastReply (ran (.setupPartAge (atLane .one) (.item 601)) yard))
      = (600, some (.result (.lane .one) .badArgument)) := by decide
theorem test_loop_is_learned_again :
    let t := ran (.setupLoop (atLane .one) (.item ⟨1, 500, 250, 0, 1⟩)) yard
    ((t.loop .one .entry).condition, (t.laneSettings .one).entryLoop) = (.start, ⟨500, 250, 0⟩) := by decide
theorem test_loop_thresholds_out_of_order :
    lastReply (ran (.setupLoop (atLane .one) (.item ⟨1, 250, 250, 0, 1⟩)) yard)
      = some (.result (.lane .one) .badArgument) := by decide
theorem test_barrier_settings :
    ((ran (.setupBarrier (atLane .one) (.item ⟨90, 210, 5, 30⟩)) yard).laneSettings .one).barrier = ⟨90, 210, 5, 30⟩ := by
  decide
theorem test_lane_policy :
    ((ran (.setupLanePolicy (atLane .one) (.item ⟨1, 1, 40, 2, 5, 300⟩)) yard).laneSettings .one).policy
      = ⟨.inward, true, 40, 2, some 4, 300⟩ := by decide
theorem test_waiting_list_pool :
    (lastReply (ran (.setupWaitingList atSite (.item ⟨⟨32, 1, 0, 0⟩, 30⟩)) yard),
      ((ran (.setupWaitingList atSite (.item ⟨⟨32, 0, 0, 0⟩, 1⟩)) yard).laneSettings .one).depth)
      = (some (.result .site .limit), 32) := by decide
theorem test_learn_limit_below_the_count :
    lastReply (ran (.setupVehicleTable atSite (.item ⟨64, 0, 0⟩)) (stranger 65)) = some (.result .site .inUse) := by decide
theorem test_class :
    (ran (.setupClass atSite (.item ⟨15, 4, 150000, 44000, 200, 0⟩)) yard).cls 15 = ⟨4, 150000, 44000, 200, false⟩ := by
  decide
theorem test_stream :
    (ran (.setupStream atSite (.item ⟨3, 200000, 1, 198000, 199000, 0xFFFFFFFF, 0xFFFFFFFF⟩)) yard).streamSettings 2
      = ⟨200000, .opened, ⟨some 198000, some 199000, none, none⟩⟩ := by decide
theorem test_admission_timeout_is_adjusted :
    let t := ran (.setupAdmission atSite (.item ⟨9, 1200000⟩)) yard
    (t.ret.settings.approvalTimeout, t.ret.settings.permitCap) = (10, some 1200000) := by decide
theorem test_printer :
    let c := (ran (.setupPrinter (atLane .one) (.item ⟨255, 0⟩)) yard).laneSettings .one
    (c.printer, c.printFirst) = (none, false) := by decide
theorem test_link_settings :
    let c := (ran (.setupLink atSite (.item ⟨1024, 0⟩)) yard).ret.settings
    (c.replyLimit, c.linkTimeout) = (1024, 0) := by decide
theorem test_supply_level_is_judged_at_once :
    let t := ran (.setupSupply atSite (.item 22) 21999) yard
    (t.power.supply, details t) = (.warning, [.warning true]) := by decide

/-! ### Reads -/

set_option maxRecDepth 20000 in
theorem test_item_sizes :
    ((weighingBytes (weighed .one 11200)).length, (ticketBytes (ticketOf 4207 .none)).length,
      (eventBytes ⟨.outOfHours, some .two, 20000, .token 10, .none⟩).length) = (55, 140, 28) := by decide
/-- The detail of a WEIGHING_DISCARDED of one part: a number from 0 to 4, in one byte. -/
theorem test_discarded_parts_in_one_byte :
    (eventBytes ⟨.weighingDiscarded, some .one, 0, .none, .parts 1⟩).drop 15 = 1 :: List.replicate 12 0 := by decide
theorem test_read_on_a_wrong_channel :
    lastReply (ran (.readSupply (atLane .one) (.item ())) yard) = some (.result (.lane .one) .wrongChannel) := by decide

/-- A loop's reported value is coded in the order in which R68 lists the values. -/
theorem test_reported_value_codes :
    (yard.devicesPayload .one).take 3 = [5, 3, 1]
      ∧ ((yard.modLoop .one .entry fun l => { l with condition := .faulted }).devicesPayload .one).take 3 = [5, 5, 2] := by
  decide
/-! ### Supply and start-up (a supply that fails and returns; a barrier at start-up) -/

theorem test_warning_ends_the_span_capture :
    let s := (yard.modLane .two fun l => { l with state := .weighing }).modDeck .four fun d =>
      { d with op := some (.span 31000 36 (some 985300) 35471880) }
    let t := ran (.supplyWarningEnter 19600) s
    (t.power.supply, details t, (t.deck .four).op)
      = (.warning, [.warning true, .calAborted .spanCapture .warning], none) := by decide
theorem test_warning_end_calls_the_decision :
    let s := (yard.modPower fun p => { p with supply := .warning }).modLane .two fun l => { l with postponed := true }
    let t := ran (.supplyWarningEnd 20501) s
    (t.power.supply, (t.lane .two).postponed, details t) = (.normal, false, [.warning false]) := by decide
theorem test_warning_holds_at_the_release :
    (ran (.supplyWarningEnd 20500) (yard.modPower fun p => { p with supply := .warning })).power.supply = .warning := by
  decide
theorem test_brown_out_below_sixteen_volts :
    ((ran (.brownOutReset 15999 .empty) yard).power.held, (ran (.brownOutReset 16000 .empty) yard).power.held)
      = (some .power, none) := by decide
theorem test_reset_line : (ran (.resetLine .incomplete) yard).copy = .incomplete := by decide

/-- What the part finds at the end of the worked brown-out: nothing failed, every barrier DOWN. -/
def returning : StartEnv := ⟨18500, false, false, false, Quad.fill true, Quad.fill false, Quad.fill false, CheckDamage.none⟩

/-- The part held in reset by its supply, with visit 77 ENTERING. -/
def browned : State :=
  (oneVisit .one .entry .passing (visitOf 77 .delivery .entering 10900 1400 3)).modPower fun p =>
    { p with held := some .power, supply := .reset }

set_option maxRecDepth 20000 in
theorem test_start_up_after_a_brown_out :
    let t := ran (.startUp returning) browned
    (t.ret.traffic.visits.map (·.state), (t.lane .one).state, details t)
      = ([.onSite], .idle, [.started .power SectionSet.none 1, .warning true]) := by
  have h : ran (.startUp returning) browned = browned.startOver .power SectionSet.none .empty returning :=
    startUp_formed (s := browned) rfl rfl
  rw [h]
  decide
set_option maxRecDepth 20000 in
/-- A start-up at which the settings section alone does not agree with its check. -/
theorem test_start_up_over_a_failed_section :
    let env : StartEnv := { returning with damage := { CheckDamage.none with settings := 4 } }
    let t := ran (.startUp env) browned
    (t.power.failed, t.ret.settings.siteMode, (t.lane .one).state) = (⟨false, true, false, false, false⟩, .opened, .closed)
    := by
  intro env t
  have h : t = browned.startOver .power ⟨false, true, false, false, false⟩ .empty env :=
    startUp_formed (s := browned) rfl rfl
  rw [h]
  decide
theorem test_start_up_waits_for_the_release :
    (ran (.startUp { returning with supplyMv := 17000 }) browned).power.held = some .power := by decide
theorem test_straps :
    (strapRate false false, strapRate true false, strapRate false true, strapRate true true)
      = (19200, 115200, 57600, 19200) := by decide
theorem test_heads :
    let s := (yard.modLane .two fun l => { l with state := .refused, flashLit := false }).modLane .three fun l =>
      { l with state := .weighing, capture := ⟨some 2, [⟨18440, .three, 10100, 7, false⟩], false, some 0⟩ }
    (s.entryHead .one, s.deckHead .one, s.deckHead .two, s.deckLamps .two, s.deckHead .three)
      = (.green, .red, .flashing, ⟨false, false, false⟩, .amber) := by decide

/-! ### Witnesses: for each statement with hypotheses, a state and operands that meet them together -/

/-- A step answers a next state. -/
def answers : Host.Outcome State Fault Refusal → Bool
  | .next _ => true
  | .fault _ => false
  | .refused _ => false

theorem next_of_answers {o : Host.Outcome State Fault Refusal} (h : answers o = true) : ∃ t, o = .next t := by
  cases o with
  | next t => exact ⟨t, rfl⟩
  | fault f => cases h
  | refused r => cases h

theorem each_of_empty {s : State} {good : Retained → Prop} (h : good s.ret) (e : s.copy = .empty) :
    s.eachRetained good := ⟨h, fun c k f => by rw [e] at f; cases f⟩

/-- A command waits in front of nothing. -/
def State.waiting (s : State) (c : Instr) : State := { s with pending := [c] }

/-- The yard takes its records. -/
theorem yard_takes (h : RecHead) (t : ChanType) (ok : admits t h.chan = true) : yard.takes h t :=
  ⟨rfl, .inl rfl, by decide, ok⟩

theorem witness_command_answers : ∃ t, exec (.deckSample 1 [250100, 245000, 2097151, 242000] 1599000) yard = .next t :=
  next_of_answers (by decide)
theorem witness_other_lanes :
    yard.laneOf (.deckSample 1 [250100, 245000, 2097151, 242000] 1599000) = some .two
      ∧ (∃ t, exec (.deckSample 1 [250100, 245000, 2097151, 242000] 1599000) yard = .next t) ∧ Lane.one ≠ .two :=
  ⟨by decide, next_of_answers (by decide), by decide⟩
theorem witness_other_lanes_of_a_record :
    cashier.laneOf (.approve (atLane .one) 77) = some .one ∧ (∃ t, exec (.approve (atLane .one) 77) cashier = .next t)
      ∧ Lane.four ≠ .one :=
  ⟨by decide, next_of_answers (by decide), by decide⟩
theorem witness_held_part :
    browned.power.held ≠ none ∧ (∀ env, Instr.siteTimeAdvance ≠ .startUp env)
      ∧ (∀ mv k, Instr.siteTimeAdvance ≠ .brownOutReset mv k) ∧ (∀ k, Instr.siteTimeAdvance ≠ .resetLine k)
      ∧ Instr.siteTimeAdvance ≠ .calEnableRise ∧ Instr.siteTimeAdvance ≠ .calEnableFall
      ∧ (∀ n side a, Instr.siteTimeAdvance ≠ .limitSwitchChange n side a)
      ∧ (∀ n, Instr.siteTimeAdvance ≠ .comparatorTrip n) ∧ ∀ n, Instr.siteTimeAdvance ≠ .comparatorClear n :=
  ⟨by decide, by simp⟩

/-! #### Invariants -/

theorem witness_events_bounded :
    let e : Event := ⟨.outOfHours, some .two, 20000, .token 10, .none⟩
    let s : State := { yard with
      events := ⟨List.replicate 64 e, true, 65535⟩, link := { yard.link with live := false }, pending := [.turn atSite] }
    s.EventsBounded ∧ ∃ t, step s = .next t :=
  ⟨by unfold State.EventsBounded; decide, next_of_answers (by decide)⟩
theorem witness_zero_within :
    let s := State.waiting (drifting 70 11960 (-2) false) .siteTimeAdvance
    s.eachRetained Retained.ZeroWithin ∧ ∃ t, step s = .next t :=
  ⟨each_of_empty (fun n => by cases n <;> decide) (by decide), next_of_answers (by decide)⟩
theorem witness_zero_within_at_the_limit :
    let s := State.waiting (drifting 50 12000 (-42) true) .siteTimeAdvance
    s.eachRetained Retained.ZeroWithin ∧ ∃ t, step s = .next t :=
  ⟨each_of_empty (fun n => by cases n <;> decide) (by decide), next_of_answers (by decide)⟩
theorem witness_journal_ordered :
    let s := State.waiting (wrapYard []) (.ticketsRelease atSite (.item 999999))
    s.eachRetained Retained.JournalOrdered ∧ ∃ t, step s = .next t :=
  ⟨each_of_empty ⟨by decide,
      by simp [numbersRunTo, wrapYard, ticketOf, State.waiting, State.modPrinting, State.modTickets, State.retain,
        State.writeCopy, State.writeSections, State.emptyCopy], by decide, by decide⟩
    (by decide), next_of_answers (by decide)⟩
set_option maxRecDepth 20000 in
/-- The cashier's yard has its sums right. -/
theorem cashier_accounted : cashier.ret.VisitsAccounted := by unfold Retained.VisitsAccounted; decide
theorem witness_visits_accounted :
    let s := State.waiting cashier (.decline (atLane .one) 77)
    s.eachRetained Retained.VisitsAccounted ∧ ∃ t, step s = .next t :=
  ⟨each_of_empty cashier_accounted (by decide), next_of_answers (by decide)⟩
theorem witness_provisional_counted :
    let s := State.waiting (ageing 10187401 { regular .provisional with tare := none } 1) .minuteSweep
    s.eachRetained Retained.ProvisionalCounted ∧ ∃ t, step s = .next t :=
  ⟨each_of_empty (by unfold Retained.ProvisionalCounted; decide) (by decide), next_of_answers (by decide)⟩
theorem witness_waiting_lists :
    let s := State.waiting (queueYard.modList .two fun _ => [listed 10 none, listed 11 (some .accountStopped)])
      (.tokenFrame .three .approach (frameOf 10))
    (∃ t, step s = .next t) ∧ s.eachRetained Retained.DepthsShared ∧ s.ListsWithinDepth :=
  ⟨next_of_answers (by decide), each_of_empty (by unfold Retained.DepthsShared; decide) (by decide), fun n => by cases n <;> decide, by decide⟩
theorem witness_print_queue :
    let s := State.waiting (printYard [job 4206 .two 1 false (.sending 18), job 4207 .four 3 false .queued] .queued)
      (.printLineTransfer true)
    s.PrintQueueBounded ∧ ∃ t, step s = .next t :=
  ⟨⟨by decide, fun n => by cases n <;> decide, by decide, by decide, by decide,
    
    by simp [printYard, State.waiting, job, State.modPrinting, State.modTickets, State.modLane, State.modClock]⟩, next_of_answers (by decide)⟩
theorem witness_barrier_safe :
    let s := State.waiting (lowering 1) (.loopMeasurement .two .clear 81480)
    s.BarrierSafe ∧ ∃ t, step s = .next t :=
  ⟨fun n => by cases n <;> decide, next_of_answers (by decide)⟩

/-- Checks formed, with the copy empty, and with a complete copy as a reset left it. -/
theorem witness_checks_formed :
    let s := State.waiting yard .siteTimeAdvance
    let held := State.waiting (yard.holdReset .line .complete) .siteTimeAdvance
    (s.ChecksFormed ∧ ∃ t, step s = .next t) ∧ held.ChecksFormed ∧ held.copy ≠ .empty ∧ ∃ t, step held = .next t := by
  refine ⟨⟨⟨rfl, ?_, fun _ => rfl⟩, next_of_answers (by decide)⟩, ⟨rfl, ?_, ?_⟩, ?_, next_of_answers (by decide)⟩
  · intro c k h; exact nomatch h
  · intro c k h; cases h; rfl
  · intro h; exact nomatch h
  · intro h; exact nomatch h

/-! #### Samples -/

theorem witness_sample_checks :
    (∀ x ∈ ([-2097152, 2097151] : List Int), -2097152 ≤ x ∧ x ≤ 2097151) ∧ ((0 : Int) ≤ 0 ∨ 2097151 ≤ (0 : Int))
      ∧ ((2097151 : Int) ≤ 0 ∨ 2097151 ≤ (2097151 : Int)) ∧ (1 : Int) ≤ 2097150 ∧ factoryCal.zeroDone = false
      ∧ workedCal.zeroDone = true := by decide
theorem witness_frame_start :
    let s := yard.modSettings fun c => { c with slotPlan := Vector.replicate 16 (some .one) }
    s.power.held = none ∧ s.deckValid .four = true
      ∧ answers (exec .frameStart s) = true ∧ (ran .frameStart s).deckValid .four = false := by decide
theorem witness_frame_start_same_plan :
    yard.power.held = none
      ∧ ∀ n, (yard.deck n).noSlots = decide (some n ∉ yard.ret.settings.slotPlan.toList) :=
  ⟨rfl, fun n => by cases n <;> decide⟩
/-- A sample with a saturated cell on a VALID deck whose lane has a part captured. -/
theorem witness_bad_sample :
    let s := trailer 9
    s.power.held = none ∧ s.acq.active.get 1 = some .two
      ∧ ([0, 0, 0, 2097151] : List Int).length = (s.deckSettings .two).cells
      ∧ goodSample (s.cal .two) [0, 0, 0, 2097151] 1600000 = false ∧ s.deckValid .two = true
      ∧ (s.lane .two).state = .weighing ∧ (s.lane .two).capture.parts ≠ [] := by decide
/-- A reference just out of tolerance, on an INVALID deck with a capture in flight. -/
theorem witness_bad_sample_ends_a_capture :
    let s := (lastSpanSample 0)
    s.power.held = none ∧ s.acq.active.get 2 = some .three
      ∧ ([0, 0, 0, 0] : List Int).length = (s.deckSettings .three).cells
      ∧ goodSample (s.cal .three) [0, 0, 0, 0] 1499999 = false ∧ s.deckValid .three = false
      ∧ (s.deck .three).op ≠ none := by decide
theorem witness_weight_stages :
    (0 : Nat) < 1 ∧ ([2097151, 0, 0, 0, 0, 0, 0, -2097152] : List Int).length ≤ 8 := by decide
/-- The fourth good sample, which recovers the deck. -/
theorem witness_good_sample_recovers :
    let s := yard.modDeck .two fun d => { d with saturated := true, excitation := true, good := 3 }
    s.power.held = none ∧ s.acq.active.get 1 = some .two
      ∧ ([250000, 245000, 238000, 242000] : List Int).length = (s.deckSettings .two).cells
      ∧ goodSample (s.cal .two) [250000, 245000, 238000, 242000] 1598000 = true ∧ (s.deck .two).op = none := by decide
/-- The third good sample, which does not. -/
theorem witness_good_sample_on_an_invalid_deck :
    let s := yard.modDeck .two fun d => { d with saturated := true, good := 2 }
    s.power.held = none ∧ s.acq.active.get 1 = some .two
      ∧ goodSample (s.cal .two) [250000, 245000, 238000, 242000] 1500000 = true ∧ (s.deck .two).op = none
      ∧ s.deckValid .two = false := by decide

/-- A sample on a VALID deck with a capture in flight that it does not complete. -/
theorem witness_good_sample_with_a_capture :
    let s := yard.modDeck .two fun d => { d with op := some (.span 31000 62 (some 985300) 5) }
    s.power.held = none ∧ s.acq.active.get 1 = some .two
      ∧ ([250000, 245000, 238000, 242000] : List Int).length = (s.deckSettings .two).cells
      ∧ goodSample (s.cal .two) [250000, 245000, 238000, 242000] 1598000 = true ∧ s.deckValid .two = true
      ∧ (∀ first sums refSum, (s.deck .two).op ≠ some (.zero 63 first sums refSum))
      ∧ ∀ load first sum, (s.deck .two).op ≠ some (.span load 63 first sum) := by
  refine ⟨by decide, by decide, by decide, by decide, by decide, ?_, ?_⟩
  · intro first sums refSum h; exact nomatch h
  · intro load first sum h
    have k : 62 = 63 := congrArg (fun o => match o with | some (CalOp.span _ m _ _) => m | _ => 0) h
    exact absurd k (by decide)
/-- The reading that a sample makes on a deck. -/
def readingMade (s : State) (n : Lane) (cells : List Int) (e : Int) : Reading :=
  let w := spanWeight (s.cal n) cells e
  makeReading (s.cal n) (s.deckSettings n).depth (pushHistory (s.deck n).history w) w s.now

/-- The load of the worked sample, whose reading is 31,000 kg. -/
def worked : List Int := [260000, 255000, 248000, 252000]

/-- Lane 3 WEIGHING for so many parts, with these captured, its deck LOCKED on the worked load. -/
def capturing (k : Nat) (c : Capture) (age : Nat) : State :=
  ((yard.modDeck .three fun d =>
      { d with history := [310038, 310038, 310038], settling := ⟨.locked, some 309918, 24, 0⟩, occupancy := .occupied
               reading := some (readingOf 309918 31000) }).modLane .three fun l =>
    { l with state := .weighing, capture := { c with required := some k, age := if c.parts = [] then none else some age } })

/-- One part captured, and the vehicle moved since. -/
def onePart : Capture := ⟨none, [⟨18440, .three, 10100, 7, false⟩], true, none⟩

theorem witness_part_captured :
    ([(1, emptyCapture, 0), (2, emptyCapture, 0), (2, onePart, 120), (2, onePart, 121)] : List (Nat × Capture × Nat)).all
      (fun (k, c, age) =>
        let s := capturing k c age
        let l := s.lane .three
        let r := readingMade s .three worked 1580000
        decide (s.power.held = none ∧ s.acq.active.get 2 = some .three ∧ worked.length = (s.deckSettings .three).cells
          ∧ goodSample (s.cal .three) worked 1580000 = true ∧ (s.deck .three).op = none ∧ s.deckValid .three = true
          ∧ l.state = .weighing ∧ l.heldWeighing = none ∧ l.capture.required = some k
          ∧ (judgeReading (s.deckSettings .three) (s.deck .three).settling r).state = .locked ∧ r.range = .normal
          ∧ 20 * ((s.cal .three).d : Int) ≤ r.d ∧ ((s.laneSettings .three).occupancy : Int) * 10 ≤ r.f
          ∧ (l.capture.parts = [] ∨ l.capture.moved = true)
          ∧ (k = l.capture.parts.length + 1 → (s.loop .three .entry).report = .free)
          ∧ s.partsAged .three = decide (age = 121))) = true := by decide

/-- The entry loop becomes FREE under a lane that awaits its last part, fresh and aged; and a lane entering WEIGHING. -/
theorem witness_part_captured_otherwise :
    (∀ age ∈ [9, 140],
        let s := trailer age
        let l := s.lane .two
        s.power.held = none ∧ s.deckValid .two = true ∧ l.state = .weighing ∧ l.heldWeighing = none
          ∧ l.capture.required = some 2 ∧ l.capture.moved = true ∧ (s.deck .two).settling.state = .locked
          ∧ (s.deck .two).reading = some (readingOf 213600 21360) ∧ (s.loop .two .entry).report ≠ .free
          ∧ ((ran (.loopMeasurement .two .entry 81920) s).loop .two .entry).report = .free
          ∧ (s.partsAged .two = decide (age = 140)))
      ∧ (yard.lane .three).heldWeighing = none
      ∧ (yard.deck .three).reading = none ∧ ((trailer 9).deck .two).reading ≠ none := by decide
/-- Lane 3 in this state, its deck seen EMPTY, or OCCUPIED with a full history of nothing. -/
def stepping (st : LaneState) (o : Occupancy) : State :=
  (yard.modDeck .three fun d => { d with occupancy := o }).modLane .three fun l => { l with state := st }

theorem witness_occupancy :
    ([(.idle, .empty, worked), (.occupied, .occupied, [10000, 10000, 10000, 10000]),
        (.refused, .occupied, [10000, 10000, 10000, 10000]),
        (.weighing, .occupied, [10000, 10000, 10000, 10000])] : List (LaneState × Occupancy × List Int)).all
      (fun (st, o, cells) =>
        let s := stepping st o
        let r := readingMade s .three cells 1580000
        decide (s.power.held = none ∧ s.acq.active.get 2 = some .three ∧ cells.length = (s.deckSettings .three).cells
          ∧ goodSample (s.cal .three) cells 1580000 = true ∧ (s.deck .three).op = none ∧ s.deckValid .three = true
          ∧ (s.lane .three).heldWeighing = none ∧ s.suspendCause .three = false
          ∧ (4000 ≤ r.f ↔ o = .empty))) = true := by decide

/-- An emptied deck whose lane's weighing is complete, its decision postponed or due. -/
theorem witness_occupancy_of_a_held_weighing :
    ∀ postponed : Bool,
      let s := (stepping .weighing .occupied).modLane .three fun l =>
        { l with heldWeighing := some (weighed .three 400), postponed := postponed }
      (s.lane .three).state = .weighing ∧ (s.lane .three).heldWeighing = some (weighed .three 400)
        ∧ (s.lane .three).postponed = postponed ∧ s.deckValid .three = true
        ∧ (readingMade s .three [10000, 10000, 10000, 10000] 1580000).f < 4000 := by decide
/-- The deck and its lane as a capture in flight finds them. -/
def inFlight (s : State) (cells : List Int) (e : Int) : Prop :=
  s.power.held = none ∧ s.acq.active.get 2 = some .three ∧ cells.length = (s.deckSettings .three).cells
    ∧ goodSample (s.cal .three) cells e = true ∧ (s.deck .three).op ≠ none ∧ (s.deck .three).noSlots = false
    ∧ (s.deck .three).saturated = false ∧ (s.deck .three).excitation = false

/-- Deck 3 with this operation in flight. -/
def withOp (op : CalOp) : State := (lastSpanSample 0).modDeck .three fun d => { d with op := some op }

theorem witness_capture_counts :
    inFlight (withOp (.zero 0 none [] 0)) worked 1580000
      ∧ inFlight (withOp (.zero 62 (some [258000, 257000, 248000, 252000]) [1, 2, 3, 4] 5)) worked 1580000
      ∧ inFlight (withOp (.zero 62 (some [257999, 255000, 248000, 252000]) [1, 2, 3, 4] 5)) worked 1580000
      ∧ inFlight (withOp (.span 100000 62 (some 985301) 5)) worked 1580000
      ∧ inFlight (withOp (.span 1 62 (some 985300) 5)) worked 1580000 := by unfold inFlight; decide
theorem witness_captures_complete_of_a_zero :
    inFlight lastZeroSample [10010, 10000, 10000, 10000] 1600000
      ∧ (lastZeroSample.deck .three).op
        = some (.zero 63 (some [10000, 10000, 10000, 10000]) [630000, 629980, 630000, 630031] 100800025)
      ∧ (∀ p ∈ ([10000, 10000, 10000, 10000] : List Int).zip [10010, 10000, 10000, 10000], (p.2 - p.1).natAbs ≤ 2000)
      ∧ (lastZeroSample.lane .three).state = .closed := by unfold inFlight; decide
/-- An average that sets K, one below 10,000, and a load that takes K out of its range. -/
theorem witness_captures_complete_of_a_span :
    inFlight (lastSpanSample 62199989) worked 1580000 ∧ inFlight (lastSpanSample (-62199989)) worked 1580000
      ∧ inFlight (withOp (.span 100000 63 none (-347301))) worked 1580000
      ∧ (correctedSum ((lastSpanSample 0).cal .three) worked 1580000 - 987310).natAbs ≤ 2000
      ∧ roundDiv (62199989 + 987301) 64 = 987301 ∧ roundDiv (-62199989 + 987301) 64 < 10000
      ∧ roundDiv (-347301 + 987301) 64 = 10000 ∧ ((lastSpanSample 0).lane .three).state = .closed := by
  unfold inFlight; decide

/-! #### Calibration and zero records -/

theorem witness_cal_records_carried_out :
    let s := factoryDeckThree.modCal .three fun _ => { workedCal with counter := 65534 }
    s.takes (atLane .three) .lane ∧ s.power.calEnable = true ∧ s.power.supply ≠ .warning ∧ (s.deck .three).op = none
      ∧ (s.lane .three).state = .closed ∧ (s.cal .three).counter < 65535 ∧ (s.deck .three).noSlots = false
      ∧ (s.deck .three).saturated = false ∧ (s.deck .three).excitation = false ∧ (s.cal .three).zeroDone = true
      ∧ (1#32).toNat = 1 ∧ (100000#32).toNat ≤ 100000
      ∧ ([⟨1, 49152⟩, ⟨4, 81920⟩] : List TrimPair).all (fun p =>
        decide (1 ≤ p.cell.toNat ∧ p.cell.toNat ≤ (s.deckSettings .three).cells ∧ 49152 ≤ p.trim.toNat
          ∧ p.trim.toNat ≤ 81920)) = true
      ∧ (100#8).toNat ∈ [5, 10, 20, 50, 100] ∧ (100000#32).toNat % 100 = 0 ∧ (s.cal .three).z.natAbs ≤ 100000 / 5 :=
  ⟨⟨rfl, .inl rfl, by decide, rfl⟩, by decide⟩
theorem witness_abort_carried_out :
    lastZeroSample.takes (atLane .three) .lane ∧ lastZeroSample.power.calEnable = true
      ∧ (lastZeroSample.deck .three).op ≠ none :=
  ⟨⟨rfl, .inl rfl, by decide, rfl⟩, by decide⟩
/-- The codes of the gate, each met by a state of its own, and the gate passed. -/
theorem witness_cal_records_refused :
    let gate (s : State) : Option ResultCode :=
      if s.power.calEnable = false then some .calLocked
      else if s.power.supply = .warning then some .busy
      else if (s.deck .three).op ≠ none then some .busy
      else if (s.lane .three).state ≠ .closed then some .wrongState
      else if 65535 ≤ (s.cal .three).counter then some .counterFull else none
    ((yard.takes (atLane .three) .lane ∧ lastZeroSample.takes (atLane .three) .lane)
        ∧ factoryDeckThree.takes (atLane .three) .lane)
      ∧ [gate yard, gate (factoryDeckThree.modPower fun p => { p with supply := .warning }), gate lastZeroSample,
          gate (yard.modPower fun p => { p with calEnable := true }),
          gate (factoryDeckThree.modCal .three fun c => { c with counter := 65535 }), gate factoryDeckThree]
        = [some .calLocked, some .busy, some .busy, some .wrongState, some .counterFull, none] :=
  ⟨⟨⟨⟨rfl, .inl rfl, by decide, rfl⟩, ⟨rfl, .inl rfl, by decide, rfl⟩⟩, ⟨rfl, .inl rfl, by decide, rfl⟩⟩, by decide⟩
/-- What fails at steps 8 and 9 of a deck that passes the gate, and what an ABORT is refused by. -/
theorem witness_cal_records_refused_late :
    let s := factoryDeckThree
    let worn := (factoryDeckThree.modDeck .three fun d => { d with saturated := true }).modCal .three fun c => { c with z := 201 }
    (100001#32).toNat > 100000 ∧ (s.cal .three).zeroDone = false ∧ ¬ (worn.deck .three).saturated = false
      ∧ ¬ ([(1 : Byte), 1].map fun b => b.toNat).Nodup ∧ (49151#32).toNat < 49152
      ∧ (1000#32).toNat / 5 < (worn.cal .three).z.natAbs ∧ (1000#32).toNat % 5 = 0 ∧ (1000#32).toNat / 5 ≤ 10000
      ∧ (factoryDeckThree.modPower fun p => { p with calEnable := true }).power.calEnable = true
      ∧ (s.deck .three).op = none ∧ yard.power.calEnable = false := by decide
theorem witness_zero_record :
    (∀ s ∈ [drifting 60 11940 58 false, drifting 50 12000 (-42) true], s.takes (atLane .three) .lane
        ∧ (s.deck .three).op = none ∧ (s.lane .three).state = .idle ∧ s.deckValid .three = true
        ∧ (s.deck .three).reading ≠ none ∧ (s.deck .three).settling.state = .locked)
      ∧ (yard.deck .three).op = none ∧ (yard.deck .three).reading = none ∧ (lastZeroSample.deck .three).op ≠ none := by
  unfold State.takes; decide

/-! #### Loops, barriers and lanes -/

/-- A measurement at each end of the range, one that leaves the report as it was, on a loop FREE and on one FAULTED. -/
theorem witness_loop_measurement :
    let faulted := yard.modLoop .one .entry fun l => { l with condition := .faulted, baseline := none, recovery := 8 }
    yard.power.held = none
      ∧ ((ran (.loopMeasurement .one .entry 81521) yard).loop .one .entry).report = (yard.loop .one .entry).report
      ∧ ((ran (.loopMeasurement .one .entry 19999) faulted).loop .one .entry).report = .faulted
      ∧ ((ran (.loopMeasurement .one .entry 400001) faulted).loop .one .entry).report = .faulted
      ∧ ((ran (.loopMeasurement .one .entry 20000) faulted).loop .one .entry).report = .occupied
      ∧ ((ran (.loopMeasurement .one .entry 400000) faulted).loop .one .entry).report = .occupied := by decide
/-- A fault entered under an IDLE lane and one that ends under a SUSPENDED lane; a FREE loop that becomes OCCUPIED. -/
theorem witness_loop_measurement_changes_the_report :
    let faulted := (yard.modLoop .one .clear fun l => { l with condition := .faulted, baseline := none, recovery := 8 }).modLane
      .one fun l => { l with state := .suspended }
    (yard.loop .one .clear).report ≠ .faulted ∧ (yard.lane .one).state = .idle
      ∧ ((ran (.loopMeasurement .one .clear 400001) yard).loop .one .clear).report = .faulted
      ∧ faulted.power.held = none ∧ (faulted.loop .one .clear).report = .faulted ∧ (faulted.lane .one).state = .suspended
      ∧ ((ran (.loopMeasurement .one .clear 81000) faulted).loop .one .clear).report ≠ .faulted
      ∧ ((ran (.loopMeasurement .one .entry 81500) yard).loop .one .entry).report = .occupied := by decide
/-- The clear loop becomes OCCUPIED under a lowering, and FREE under a barrier that waits. -/
theorem witness_clear_loop_moves_the_barrier :
    let waits := ((lowering 0).modBarrier .two fun b => { b with state := .unknown }).modLoop .two .clear fun l =>
      { l with condition := .occupied }
    (lowering 0).power.held = none ∧ ((lowering 0).barrier .two).target = .down ∧ (waits.barrier .two).target = .down
      ∧ ((ran (.loopMeasurement .two .clear 81520) (lowering 0)).loop .two .clear).report ≠ .free
      ∧ ((ran (.loopMeasurement .two .clear 81720) waits).loop .two .clear).report = .free := by decide
/-- A cycle that begins, one that a fault ends, and a marked one and an unmarked one that end FREE. -/
theorem witness_clear_loop_cycle :
    let crossing (marked : Bool) := (passing.modLoop .one .clear fun l => { l with condition := .occupied }).modLane .one
      fun l => { l with cycle := some marked }
    passing.power.held = none ∧ (passing.loop .one .clear).report = .free
      ∧ ((ran (.loopMeasurement .one .clear 81520) passing).loop .one .clear).report = .occupied
      ∧ ((ran (.loopMeasurement .one .clear 19999) passing).loop .one .clear).report = .faulted
      ∧ ∀ marked, ((crossing marked).loop .one .clear).report = .occupied
        ∧ ((ran (.loopMeasurement .one .clear 81720) (crossing marked)).loop .one .clear).report = .free
        ∧ ((crossing marked).lane .one).cycle = some marked := by decide
theorem witness_limit_switches :
    yard.power.held = none ∧ switchLevel .up (yard.barrier .one) ≠ true ∧ switchLevel .down (yard.barrier .one) ≠ false
      ∧ switchLevel .down ((lowering 2).barrier .two) ≠ true := by decide
theorem witness_comparator_and_motion :
    (lowering 2).power.held = none ∧ ((lowering 2).barrier .two).state = .lowering := by decide
theorem witness_lane_entries : HoldReason.approval ≠ .barrier := by decide

/-! #### Readers, waiting lists and identification -/

theorem witness_token_frames :
    ([0, 0, 0, 0, 0, 0, 0, 10] : List Byte).length = 8 ∧ yard.power.held = none
      ∧ (yard.readerPort .two .approach).gathered.length + ([1, 2, 3, 4, 5, 6, 7, 8] : List Byte).length < 9
      ∧ (yard.readerPort .two .approach).gathered ++ frameOf 10 = tokenBytes 10 ++ 10 :: []
      ∧ (10#8).toNat = ((tokenBytes 10).map (·.toNat)).sum % 256
      ∧ (11#8).toNat ≠ ((tokenBytes 10).map (·.toNat)).sum % 256
      ∧ ¬ ((yard.readerPort .two .approach).last = some 10 ∧ (yard.readerPort .two .approach).lockout < 10) := by decide
theorem witness_token_frames_repeat :
    let s := queueYard.modReaders .two fun p => { p with approach := ⟨[0, 0], some 10, 9⟩ }
    s.power.held = none ∧ (s.readerPort .two .approach).gathered ++ [0, 0, 0, 0, 0, 10, 10] = tokenBytes 10 ++ 10 :: []
      ∧ (s.readerPort .two .approach).last = some 10 ∧ (s.readerPort .two .approach).lockout < 10 := by decide
theorem witness_ident :
    (stranger 37).takes (atLane .three) .lane ∧ identFields ⟨99, 0, 0⟩ = none
      ∧ identFields ⟨99, 8, 2⟩ = some (some 7, some .collection) ∧ identFields ⟨99, 255, 0⟩ = some (none, none) :=
  ⟨⟨rfl, .inl rfl, by decide, rfl⟩, by decide⟩

/-! #### Site time and its expiries -/

theorem witness_site_time : yard.power.held = none ∧ (drifting 60 11900 58 false).power.held = none := by decide
theorem witness_timers :
    cashier.power.held = none ∧ cashier.visitNumbered 77 = some visit77 ∧ cashier.visitNumbered 78 = none
      ∧ (cashier.lane .one).visit.bind cashier.visitNumbered = some visit77 := by decide
theorem witness_link_loss :
    let s := cashier.modLink fun p => { p with silence := 31, lostDue := true }
    s.power.held = none ∧ s.ret.VisitsAccounted ∧ s.link.lostDue = true ∧ s.link.live = true
      ∧ ∃ v ∈ s.ret.traffic.visits, v.state = .heldIn ∧ v.entryLane = .one :=
  ⟨by decide, cashier_accounted, by decide, by decide, by decide⟩
theorem witness_minute_sweep :
    let s := ageing 10187401 { regular .provisional with tare := none } 1
    s.power.held = none ∧ s.ret.ProvisionalCounted ∧ s.clock.sweepDue = true :=
  ⟨by decide, by unfold Retained.ProvisionalCounted; decide, by decide⟩

/-! #### Admission, exit and close -/

/-- What the admission procedure finds on lane 1 in the yard of account 17. -/
def atDecision (s : State) : Prop :=
  s.power.held = none ∧ (s.lane .one).state = .weighing ∧ ((s.lane .one).heldWeighing.map (·.value)).isSome
    ∧ (s.lane .one).postponed = false ∧ (s.lane .one).identity = some ⟨10, .entry, none, none, .deckReader⟩
    ∧ s.ret.traffic.counter ≤ 65535

/-- The lorry that arrives. -/
def arrived17 (tare : Nat) : Vehicle := { lorry 10 17 with stream := some 2, tare := some ⟨tare, .loaded, 0⟩ }

/-- A vehicle found; an unknown one refused by its lane, and one that a lane's policy enters. -/
theorem witness_admission_resolves :
    let s := arriving 11000 9500 account17 0 20 id
    let unknown := s.modIdent fun i => { i with vehicles := [] }
    let admits := unknown.modLaneSettings .one fun c => { c with policy := ⟨.inward, true, 17, 2, some 2, 60⟩ }
    (atDecision s ∧ atDecision unknown ∧ atDecision admits)
      ∧ s.resolve .one 10 = .found (arrived17 9500) ∧ unknown.resolve .one 10 = .fails .unknownVehicle
      ∧ admits.resolve .one 10
        = .creates ⟨10, 17, 2, .delivery, some 2, none, none, none, false, .provisional, 0⟩ := by
  unfold atDecision; decide
/-- Early refusals, late ones, an admission and a hold for approval: each found in the table, at the limit where one
stands; and a decision called in WARNING. -/
theorem witness_admission_outcomes :
    let found (s : State) : Bool := decide (s.resolve .one 10 = .found (arrived17 9500))
    let ends (s : State) : List Detail := details (ran (.admissionProcedure .one) s)
    let s := arriving 11000 9500 account17 0 20 id
    let stopped := arriving 11000 9500 { account17 with state := .onStop } 0 20 id
    let full := arriving 11000 9500 account17 187400 23 greenWaste
    let room := arriving 11000 9500 account17 187500 22 greenWaste
    let cash := arriving 11000 9500 { account17 with approval := true } 0 20 id
    let lost := cash.modLink fun p => { p with live := false }
    let low := s.modPower fun p => { p with supply := .warning }
    (atDecision low ∧ kinds (ran (.admissionProcedure .one) low) = []
      ∧ ((ran (.admissionProcedure .one) low).lane .one).postponed = true) ∧ (atDecision s ∧ atDecision stopped ∧ atDecision full ∧ atDecision room ∧ atDecision cash ∧ atDecision lost)
      ∧ [s, stopped, full, room, cash, lost].all found = true
      ∧ [s, stopped, full, room, cash, lost].map ends
        = [[.blocks 3], [.reason .accountStopped], [.reason .streamCapacity], [.level 199000 true, .blocks 3],
          [.hold .approval], [.reason .linkLost]] := by unfold atDecision; decide
/-- What the exit procedure finds on lane 4. -/
def atExit (s : State) (v : Option Visit) : Prop :=
  s.power.held = none ∧ (s.lane .four).state = .weighing ∧ (s.lane .four).heldWeighing.isSome
    ∧ (s.lane .four).postponed = false ∧ (s.lane .four).identity = some ⟨10, .exit, none, none, .deckReader⟩
    ∧ (s.lane .four).visit.bind s.visitNumbered = v
set_option maxRecDepth 20000 in
/-- No visit, another's token, a visit not on site, and a collection past its plate and at it, which closes at once, finds
the journal full, or is postponed in WARNING. -/
theorem witness_exit :
    let v := visitOf 140 .collection .onSite 11200 0 0
    let other : Visit := { v with token := 11 }
    let held : Visit := { v with state := .heldOut }
    let full := (leaving 26000).modTickets fun _ => ⟨List.replicate 128 (ticketOf 1 .none), 2⟩
    let low := (leaving 26000).modPower fun p => { p with supply := .warning }
    (atExit ((leaving 26000).modTraffic fun t => { t with visits := [] }) none
      ∧ atExit ((leaving 26000).modTraffic fun t => { t with visits := [other] }) (some other) ∧ other.token ≠ 10
      ∧ atExit ((leaving 26000).modTraffic fun t => { t with visits := [held] }) (some held) ∧ held.state ≠ .onSite
      ∧ atExit (leaving 26000) (some v) ∧ atExit (leaving 26001) (some v) ∧ v.token = 10 ∧ v.state = .onSite
      ∧ atExit full (some v) ∧ atExit low (some v))
      ∧ [leaving 26001, leaving 26000, full, low].map (fun s => kinds (ran (.exitProcedure .four) s))
        = [[.overweightOut, .held], [.tareLearned, .visitClosed, .held], [.journalFull, .held], []]
      ∧ ((ran (.exitProcedure .four) low).lane .four).postponed = true := by unfold atExit; decide
set_option maxRecDepth 20000 in
/-- CLOSE at a lane with no visit; where the exit procedure comes to its close, past the plate and in WARNING; and at a
lane held for the journal, one short of full and full. -/
theorem witness_close :
    let journal (k : Nat) (s : State) : State := s.modTickets fun _ => ⟨List.replicate k (ticketOf 1 .none), 2⟩
    let low := (leaving 26000).modPower fun p => { p with supply := .warning }
    let waits := { leftAt .journal .heldOut with journalOrder := [.four] }
    (yard.power.held = none ∧ yard.laneVisit .four = none ∧ waits.power.held = none ∧ (waits.laneVisit .four).isSome
      ∧ (leaving 26000).power.held = none ∧ ((leaving 26000).laneVisit .four).isSome)
      ∧ [journal 127 (leaving 26000), journal 128 (leaving 26000), leaving 26001, low, journal 127 waits,
          journal 128 waits].map (fun s => kinds (ran (.close .four) s))
        = [[.tareLearned, .visitClosed, .held], [], [], [], [.tareLearned, .visitClosed, .held], []] := by decide

/-! #### Records -/

theorem resultsSize (k : Nat) : repliesSize (List.replicate k (Reply.result .site .ok)) = 4 * k := by
  simp [repliesSize, Reply.size, Nat.mul_comm]
/-- The five clauses of the gate. -/
theorem witness_gate :
    let c : Instr := .setupSupply atSite (.item 19) 30000
    let bad : Instr := .setupSupply atSite (.item 18) 30000
    let sending := yard.modLink fun p => { p with port := .sending }
    let replies (k : Nat) : List Reply := List.replicate k (.result .site .ok)
    let full := yard.modLink fun p => { p with replies := replies 1022 }
    recordType c = some (atSite, .site) ∧ recordType bad = some (atSite, .site)
      ∧ recordType (.day (atLane .one)) = some (atLane .one, .site)
      ∧ sending.link.port ≠ .waiting ∧ sending.link.port ≠ .receiving
      ∧ full.power.held = none ∧ full.link.port = .waiting ∧ full.link.replies = replies 1022
      ∧ 4096 < repliesSize (replies 1022) + 12 ∧ repliesSize (replies 1021) + 12 = 4096
      ∧ admits .site (atLane .one).chan = false ∧ readable bad = some false ∧ readable c = some true
      ∧ (yard.modPower fun p => { p with supply := .warning }).power.supply = .warning := by
  refine ⟨rfl, rfl, rfl, by decide, by decide, by decide, by decide, rfl, ?_, ?_, by decide, by decide, by decide,
    by decide⟩
  · exact (resultsSize 1022).symm ▸ by decide
  · exact (resultsSize 1021).symm ▸ by decide
/-- Table and SETUP records with a value at an end of its range, each beside the same record with it just past (R3, R5,
R25, R35, R50, R75, R86, R94, R97, R123, R135, R164, R171, R195, R207). -/
theorem witness_ranges :
    let lane := atLane .one
    let pairs : List (Instr × Instr) :=
      [(.setupSlotPlan atSite (.item (Vector.replicate 16 4)), .setupSlotPlan atSite (.item (Vector.replicate 16 5))),
        (.setupDeckCells lane (.item 8), .setupDeckCells lane (.item 9)),
        (.setupDeckCells lane (.item 1), .setupDeckCells lane (.item 0)),
        (.setupDeckFilter lane (.item 16), .setupDeckFilter lane (.item 17)),
        (.setupDeckSettling lane (.item ⟨5000, 255, 1, 1, 1⟩), .setupDeckSettling lane (.item ⟨5001, 255, 1, 1, 1⟩)),
        (.setupDeckSettling lane (.item ⟨1, 1, 1, 1, 1⟩), .setupDeckSettling lane (.item ⟨1, 1, 1, 1, 0⟩)),
        (.setupPartAge lane (.item 600), .setupPartAge lane (.item 601)),
        (.setupLoop lane (.item ⟨2, 10, 9, 3600, 1⟩), .setupLoop lane (.item ⟨2, 10, 10, 3600, 1⟩)),
        (.setupBarrier lane (.item ⟨200, 200, 1, 30⟩), .setupBarrier lane (.item ⟨200, 199, 1, 30⟩)),
        (.setupLanePolicy lane (.item ⟨3, 1, 0, 15, 8, 5⟩), .setupLanePolicy lane (.item ⟨3, 1, 0, 15, 8, 4⟩))]
    let sitePairs : List (Instr × Instr) :=
      [(.setupWaitingList atSite (.item ⟨⟨32, 0, 0, 0⟩, 1⟩), .setupWaitingList atSite (.item ⟨⟨33, 0, 0, 0⟩, 1⟩)),
        (.setupWaitingList atSite (.item ⟨⟨0, 0, 0, 0⟩, 1⟩), .setupWaitingList atSite (.item ⟨⟨0, 0, 0, 0⟩, 0⟩)),
        (.setupVehicleTable atSite (.item ⟨512, 365, 8760⟩), .setupVehicleTable atSite (.item ⟨480, 365, 8760⟩)),
        (.setupVehicleTable atSite (.item ⟨0, 0, 8760⟩), .setupVehicleTable atSite (.item ⟨0, 0, 8761⟩)),
        (.setupAdmission atSite (.item ⟨0, 4000000000⟩), .setupAdmission atSite (.item ⟨0, 4000000001⟩)),
        (.setupAdmission atSite (.item ⟨0, 0xFFFFFFFF⟩), .setupAdmission atSite (.item ⟨0, 0xFFFFFFFE⟩)),
        (.setupLink atSite (.item ⟨64, 255⟩), .setupLink atSite (.item ⟨63, 255⟩)),
        (.setupSupply atSite (.item 22) 0, .setupSupply atSite (.item 23) 0),
        (.ticketsRelease atSite (.item 999999), .ticketsRelease atSite (.item 1000000)),
        (.ticketsRelease atSite (.item 1), .ticketsRelease atSite (.item 0)),
        (.accountPeriodReset atSite (.item 65535), .accountPeriodReset atSite (.item 65534)),
        (.accountPeriodReset atSite (.item 255), .accountPeriodReset atSite (.item 256))]
    (pairs ++ sitePairs).map (fun x => (readable x.1, readable x.2)) = List.replicate 22 (some true, some false)
      ∧ identFields ⟨0, 255, 0⟩ = some (none, none) ∧ identFields ⟨0, 9, 0⟩ = none ∧ identFields ⟨0, 8, 3⟩ = none := by
  decide
theorem witness_takes :
    yard.takes (atLane .one) .lane ∧ yard.takes atSite .site ∧ yard.takes atSite .any ∧ yard.takes (atLane .four) .any
      ∧ yard.power.supply ≠ .warning :=
  ⟨yard_takes _ _ rfl, yard_takes _ _ rfl, yard_takes _ _ rfl, yard_takes _ _ rfl, by decide⟩
theorem witness_approval_numbers : (0#16).toNat = 0 ∧ (1#16).toNat ≠ 0 ∧ (65535#16).toNat ≠ 0 := by decide
theorem witness_reset_lanes : cashier.takes atSite .site ∧ cashier.ret.VisitsAccounted :=
  ⟨⟨rfl, .inl rfl, by decide, rfl⟩, cashier_accounted⟩
/-- Each table record's fields, at the ends of their ranges. -/
theorem witness_table_records :
    vehicleFields ⟨99, 255, 15, 2, 8, 150000, 15, 1, 1, 150000⟩
        = some ⟨99, 255, 15, .collection, some 7, some 150000, some ⟨true, true, true, true⟩, true, .value 150000⟩
      ∧ accountFields ⟨255, 3, 4000000000, 1, 1, 1⟩ = some ⟨255, .closed, some 4000000000, .hard, true, some 0⟩
      ∧ (255#16).toNat = (255 : Fin 256).val ∧ (65535#16).toNat = 65535
      ∧ (1#32).toNat = 1 ∧ (999999#32).toNat ≤ 999999 ∧ (∀ x ∈ (wrapYard []).ret.tickets.journal, x.number ≠ 2)
      ∧ (wrapYard []).ret.tickets.journal
        = [ticketOf 999997 .none, ticketOf 999998 .none] ++ ticketOf 999999 .none :: [ticketOf 1 .none]
      ∧ reprintFields ⟨999999, 4⟩ = some (999999, .four) ∧ stockFields ⟨8, 4000000000⟩ = some (7, 4000000000) := by decide
/-- A release that is refused, and one that makes a close. -/
theorem witness_release :
    ((wrapYard [job 999998 .two 1 true (.sending 0)]).takes atSite .site
        ∧ ∃ j ∈ (wrapYard [job 999998 .two 1 true (.sending 0)]).printing.queue, j.ticket = 999998)
      ∧ (wrapYard []).takes atSite .site ∧ (wrapYard []).power.supply ≠ .warning ∧ (wrapYard []).printing.queue = []
      ∧ ∀ n ∈ Lane.all, ((wrapYard []).lane n).state ≠ .held .print := by unfold State.takes; decide
/-- Each SETUP item of the site at the ends of its ranges. -/
theorem witness_site_settings :
    (∀ i : Fin 16, ((Vector.replicate 16 (4 : Byte)).get i).toNat ≤ 4)
      ∧ (∀ n ∈ Lane.all, ((⟨32, 0, 0, 0⟩ : Quad Byte).get n).toNat ≤ 32) ∧ 1 ≤ (1#8).toNat
      ∧ (512#16).toNat % 64 = 0 ∧ (365#16).toNat ≤ 365 ∧ (8760#16).toNat ≤ 8760
      ∧ classFields ⟨0, 1, 150000, 150000, 10000, 1⟩ = some (0, ⟨1, 150000, 150000, 10000, true⟩)
      ∧ streamFields ⟨1, 5000000, 2, 1, 5000000, 0xFFFFFFFF, 0xFFFFFFFF⟩
        = some (0, ⟨5000000, .closed, ⟨some 1, some 5000000, none, none⟩⟩)
      ∧ (0xFFFFFFFF#32).toNat = 4294967295 ∧ (4000000000#32).toNat ≤ 4000000000 ∧ 64 ≤ (64#16).toNat
      ∧ (1024#16).toNat ≤ 1024 ∧ 19 ≤ (19#8).toNat ∧ (22#8).toNat ≤ 22 := by decide
/-- Each SETUP item of a lane at the ends of its ranges; a clear loop that is OCCUPIED, learned again. -/
theorem witness_lane_settings :
    (1 : Nat) ≤ (8#8).toNat ∧ (16#8).toNat ∈ [1, 2, 4, 8, 16] ∧ (5000#16).toNat ≤ 5000 ∧ 1 ≤ (255#8).toNat
      ∧ (600#16).toNat ≤ 600 ∧ (255#8).toNat ≤ (255#8).toNat ∧ (30#8).toNat ≤ 30
      ∧ policyFields ⟨3, 0, 255, 15, 255, 5⟩ = some ⟨.both, false, 255, 15, none, 5⟩
      ∧ printerFields ⟨8, 1⟩ = some (some 7, true)
      ∧ loopFields ⟨2, 20000, 19999, 3600, 0⟩ = some (.clear, ⟨20000, 19999, 3600⟩, false)
      ∧ loopFields ⟨2, 10, 1, 0, 1⟩ = some (.clear, ⟨10, 1, 0⟩, true)
      ∧ ((yard.modLoop .one .clear fun l => { l with condition := .occupied }).loop .one .clear).report = .occupied := by
  decide

/-- A FREE and a FAULTED loop learned again, under lanes that are IDLE and SUSPENDED, over a barrier that lowers. -/
theorem witness_lane_settings_learned_again :
    let faulted := (yard.modLoop .one .entry fun l => { l with condition := .faulted, baseline := none }).modLane .one
      fun l => { l with state := .suspended }
    (lowering 0).takes (atLane .two) .lane ∧ ((lowering 0).loop .two .clear).report = .free
      ∧ ((lowering 0).barrier .two).state = .lowering ∧ ((lowering 0).lane .two).state ≠ .suspended
      ∧ faulted.takes (atLane .one) .lane ∧ (faulted.loop .one .entry).report = .faulted
      ∧ faulted.power.supply ≠ .warning := by unfold State.takes; decide
/-! #### Printers, the port, the supply and start-up -/

theorem witness_print_jobs :
    yard.power.held = none ∧ yard.busJob = none
      ∧ (printYard [job 4207 .four 3 false (.sending 0)] .queued).busJob = some (job 4207 .four 3 false (.sending 0))
      ∧ (printYard [job 4207 .four 3 false (.sending 18)] .queued).busJob = some (job 4207 .four 3 false (.sending 18))
      ∧ (printYard [job 4207 .three 2 true (.printing 0)] .failed).busJob = some (job 4207 .three 2 true (.printing 0)) := by
  decide
/-- A line's transfer and the last one, each of its length. -/
theorem witness_ticket_lines :
    (transferOf true 7 (ticketOf 4207 .none) 17).data.length = 33 ∧ (18 : Nat) ≤ 18
      ∧ (transferOf true 7 (ticketOf 4207 .none) 18).data = [0] := by decide
/-- A part held in reset in the middle of a reply sends no more of it. -/
theorem test_held_part_sends_nothing :
    let s := yard.modLink fun p => { p with port := .sending, replies := [.finish 0] }
    s.sent = [15, 0, 0, 0] ∧ (ran (.resetLine .empty) s).sent = [] := by decide
theorem witness_link_port : yard.power.held = none ∧ yard.takes ⟨.lane .two, true⟩ .any :=
  ⟨rfl, yard_takes _ _ rfl⟩
theorem witness_supply : yard.power.held = none ∧ lastZeroSample.power.held = none := by decide
/-- A part not held, and parts held below each release level. -/
theorem witness_start_up_waits :
    yard.power.held = none ∧ (browned.power.supply = .reset ∧ (17000 : Nat) ≤ 17000) ∧ (15999 : Nat) < 16000 := by decide
/-- Parts held by each cause, at their release levels. -/
theorem witness_start_up :
    let s (c : StartCause) (st : SupplyState) := cashier.modPower fun p => { p with held := some c, supply := st }
    ((s .power .reset).power.held = some .power ∧ (s .power .reset).power.supply = .reset ∧ (17000 : Nat) < 17001
        ∧ (s .power .reset).eachRetained Retained.VisitsAccounted)
      ∧ (s .record .normal).power.held = some .record ∧ (s .record .normal).power.supply ≠ .reset
        ∧ (16000 : Nat) ≤ 16000 ∧ (s .record .normal).eachRetained Retained.VisitsAccounted :=
  ⟨⟨by decide, by decide, by decide, each_of_empty cashier_accounted (by decide)⟩, by decide, by decide, by decide,
    each_of_empty cashier_accounted (by decide)⟩
theorem witness_records_read_back :
    let i : Instr := .trim (atLane .four) (.item [⟨1, 49152⟩])
    let j : Instr := .turn ⟨.site, true⟩
    (∃ r, hostRecord i = some (atLane .four, r)) ∧ i.wf = true ∧ (atLane .four).corrected = false
      ∧ hostRecord j = some (⟨.site, true⟩, .short 0 0) ∧ j.wf = true
      ∧ (WireRecord.short 0 0).bytes (chanNumber .site) = 0 :: 0 :: 0 :: 0 :: [] ∧ (0 : Nat) < 32 ∧ (31 : Nat) < 32 :=
  ⟨⟨_, rfl⟩, by decide, by decide, by decide, by decide, by decide, by decide, by decide⟩

end Sys2Proof.Tests
end

section
/-! O15: the checks of a sample. What a saturated cell count, a valid reference count and a reference in tolerance are
(R6, R7), each said once as an equivalence. -/

namespace Sys2Proof.Proofs
open Sys2Proof Sys2Proof.Machine

/-- On the counts that R6 admits, only the two ends of the range are saturated. -/
theorem saturatedCount_iff {x : Int} (hlo : -2097152 ≤ x) (hhi : x ≤ 2097151) :
    saturatedCount x = true ↔ x = -2097152 ∨ x = 2097151 := by
  rw [saturatedCount, Bool.or_eq_true, decide_eq_true_eq, decide_eq_true_eq, Config.rawMin, Config.rawMax]
  omega

/-- One saturated count is enough, whatever the other counts. -/
theorem saturatedSample_iff {cells : List Int} (hrange : ∀ x ∈ cells, -2097152 ≤ x ∧ x ≤ 2097151) :
    saturatedSample cells = true ↔ ∃ x ∈ cells, x = -2097152 ∨ x = 2097151 := by
  rw [saturatedSample, List.any_eq_true]
  refine exists_congr fun x => and_congr_right fun hx => ?_
  obtain ⟨hlo, hhi⟩ := hrange x hx
  exact saturatedCount_iff hlo hhi

theorem validRef_iff (e : Int) : validRef e = true ↔ 1 ≤ e ∧ e ≤ 2097150 := by
  rw [validRef, Bool.and_eq_true, decide_eq_true_eq, decide_eq_true_eq, Config.rawMax]
  omega

/-- R6 and R7 together: a valid reference is compared with E_cal, by its difference without sign, only where the
zero-done mark is set. -/
theorem refInTolerance_iff (c : DeckCal) (e : Int) :
    refInTolerance c e = true ↔
      (1 ≤ e ∧ e ≤ 2097150) ∧ (c.zeroDone = true → (e - c.eCal).natAbs ≤ c.eCal / 16) := by
  rw [refInTolerance, Bool.and_eq_true, validRef_iff]
  cases c.zeroDone <;> simp

theorem refInTolerance_eq_false_of_end (c : DeckCal) {e : Int} (hend : e ≤ 0 ∨ 2097151 ≤ e) :
    refInTolerance c e = false := by
  refine Bool.eq_false_iff.mpr fun htol => ?_
  obtain ⟨⟨hlo, hhi⟩, -⟩ := (refInTolerance_iff c e).mp htol
  omega

theorem refInTolerance_of_zeroDone_eq_false (c : DeckCal) {e : Int} (hlo : 1 ≤ e) (hhi : e ≤ 2097150)
    (hmark : c.zeroDone = false) : refInTolerance c e = true :=
  (refInTolerance_iff c e).mpr ⟨⟨hlo, hhi⟩, by simp [hmark]⟩

/-- The difference without sign, as the two differences with sign. -/
theorem refInTolerance_iff_of_zeroDone (c : DeckCal) {e : Int} (hlo : 1 ≤ e) (hhi : e ≤ 2097150)
    (hmark : c.zeroDone = true) :
    refInTolerance c e = true ↔ e - c.eCal ≤ (c.eCal / 16 : Nat) ∧ c.eCal - e ≤ (c.eCal / 16 : Nat) := by
  have hcompare : refInTolerance c e = true ↔ (e - c.eCal).natAbs ≤ c.eCal / 16 := by
    simp [refInTolerance_iff, hlo, hhi, hmark]
  rw [hcompare]
  omega

/-- Settles O15: the saturated sample by R6, and the reference by R6 and R7 at the ends of its range, on a deck whose
zero-done mark is clear, and on one whose mark is set. -/
theorem sampleChecks : Obligations.SampleChecks :=
  ⟨fun _ hrange => saturatedSample_iff hrange,
    fun c _ hend => refInTolerance_eq_false_of_end c hend,
    fun c _ hlo hhi hmark => refInTolerance_of_zeroDone_eq_false c hlo hhi hmark,
    fun c _ hlo hhi hmark => refInTolerance_iff_of_zeroDone c hlo hhi hmark⟩

end Sys2Proof.Proofs
end

section
/-! O18: stages 1 to 4 of the weight arithmetic (R19 to R22) with its two roundings (R18, R145), and the range status
(R28). -/

namespace Sys2Proof.Proofs
open Sys2Proof Sys2Proof.Machine

/-! ### The roundings -/

/-- A half goes away from zero on either side, so a rounding follows the sign of what it rounds. -/
theorem roundDiv_neg (a : Int) (b : Nat) : roundDiv (-a) b = -roundDiv a b := by
  have hzero : (b : Int) / (2 * b) = 0 := by
    rcases b.eq_zero_or_pos with rfl | hb
    · rfl
    · exact Int.ediv_eq_zero_of_lt (by omega) (by omega)
  rcases lt_trichotomy a 0 with h | rfl | h
  · simp [roundDiv, h.not_ge, h.le]
  · simp [roundDiv, hzero]
  · simp [roundDiv, h.not_ge, h.le]

/-- Where the dividend is not negative, divisor times rounded quotient lies above `a - b / 2` and not above `a + b / 2`. -/
theorem mul_roundDiv_bounds {a : Int} {b : Nat} (ha : 0 ≤ a) (hb : 0 < b) :
    2 * a - b < 2 * (b * roundDiv a b) ∧ 2 * (b * roundDiv a b) ≤ 2 * a + b := by
  have hsplit := Int.emod_add_mul_ediv (2 * a + b) (2 * b)
  have hnonneg := Int.emod_nonneg (2 * a + b) (b := 2 * b) (by omega)
  have hlt := Int.emod_lt_of_pos (2 * a + b) (b := 2 * b) (by omega)
  rw [roundDiv, if_pos ha, ← mul_assoc]
  omega

/-- The rounding law of R18: within half of the exact quotient, and the half itself only away from zero. -/
theorem roundDiv_nearest (a : Int) {b : Nat} (hb : 0 < b) :
    2 * (a - b * roundDiv a b).natAbs ≤ b
      ∧ (2 * (a - b * roundDiv a b).natAbs = b → a.natAbs < (b * roundDiv a b).natAbs) := by
  rcases le_total 0 a with ha | ha
  · obtain ⟨hlo, hhi⟩ := mul_roundDiv_bounds ha hb
    omega
  · obtain ⟨hlo, hhi⟩ := mul_roundDiv_bounds (Int.neg_nonneg_of_nonpos ha) hb
    rw [roundDiv_neg, Int.mul_neg (b : Int)] at hlo hhi
    omega

/-- The rounding up of R145 covers what it divides by less than one divisor. -/
theorem ceilDiv_least (a : Nat) {b : Nat} (hb : 0 < b) : a ≤ b * ceilDiv a b ∧ b * ceilDiv a b < a + b := by
  have hsplit := Nat.mod_add_div (a + (b - 1)) b
  have hlt := Nat.mod_lt (a + (b - 1)) hb
  rw [ceilDiv]
  omega

/-- Between limits in order, holding a value is taking the least and the greatest. -/
theorem clampInt_eq_max_min {lo hi : Int} (h : lo ≤ hi) (a : Int) : clampInt lo hi a = max lo (min hi a) := by
  rw [clampInt]
  split_ifs with hlow hhigh
  · omega
  · omega
  · omega

/-! ### The range status (R28) -/

/-- OVER comes first in the model; no weight is over and under at once, so the order does not show. -/
theorem rangeStatus_iff (c : DeckCal) (f : Int) :
    (rangeStatus c f = .over ↔ ((c.max : Int) + 9 * c.d) * 10 < f)
      ∧ (rangeStatus c f = .under ↔ f < -(200 * (c.d : Int)))
      ∧ (rangeStatus c f = .normal ↔ -(200 * (c.d : Int)) ≤ f ∧ f ≤ ((c.max : Int) + 9 * c.d) * 10) := by
  rw [rangeStatus]
  split_ifs with hover hunder
  · simp only [true_iff, false_iff]
    omega
  · simp only [true_iff, false_iff]
    omega
  · simp only [true_iff, false_iff]
    omega

/-! ### The stages (R19 to R22) -/

/-- A list of at most `n` numbers summed place by place, a place past its end as 0. -/
theorem sum_eq_sum_getElem?_getD (l : List Int) {n : Nat} (h : l.length ≤ n) :
    l.sum = ∑ i : Fin n, l[i.val]?.getD 0 := by
  induction n generalizing l with
  | zero => simp [List.length_eq_zero_iff.mp (Nat.le_zero.mp h)]
  | succ n ih =>
    cases l with
    | nil => simp
    | cons x xs => simp [Fin.sum_univ_succ, ih xs (Nat.le_of_succ_le_succ h)]

/-- What cell `i` brings to the trimmed sum: its count less its zero (R19), times its trim (R20); 0 where no cell is. -/
def trimmedCount (c : DeckCal) (cells : List Int) (i : Fin 8) : Int :=
  match cells[i.val]? with
  | some raw => (raw - c.zeros.get i) * (c.trims.get i : Int)
  | none => 0

/-- The model's trimmed products, place by place. -/
theorem trimmed_getElem?_getD (c : DeckCal) (cells : List Int) (i : Fin 8) :
    (List.zipWith (fun ci (g : Nat) => ci * (g : Int)) (cellCounts c cells) c.trims.toList)[i.val]?.getD 0
      = trimmedCount c cells i := by
  have hzero : c.zeros.toList[i.val]? = some (c.zeros.get i) := by simp [Vector.get]
  have htrim : c.trims.toList[i.val]? = some (c.trims.get i) := by simp [Vector.get]
  rw [cellCounts, List.getElem?_zipWith, List.getElem?_zipWith, hzero, htrim, trimmedCount]
  cases cells[i.val]? <;> rfl

/-- Stages 1 and 2 (R19, R20). -/
theorem trimmedSum_eq (c : DeckCal) (cells : List Int) :
    trimmedSum c cells = roundDiv (∑ i : Fin 8, trimmedCount c cells i) 65536 := by
  rw [trimmedSum, sum_eq_sum_getElem?_getD (n := 8) _ (by simp)]
  simp only [trimmed_getElem?_getD]

/-- Stage 4 (R22). -/
theorem spanWeight_eq (c : DeckCal) (cells : List Int) (e : Int) :
    spanWeight c cells e
      = max (-2000000000) (min 2000000000 (roundDiv (correctedSum c cells e * c.k) 65536)) :=
  clampInt_eq_max_min (by decide) _

/-- Settles O18: the laws of the two roundings, the range status by each of its values, and the stages; stage 3 is the
model's own figure over stage 2 (R21). -/
theorem weightStages : Obligations.WeightStages :=
  ⟨fun a _ hb => roundDiv_nearest a hb,
    fun a _ hb => ceilDiv_least a hb,
    rangeStatus_iff,
    fun c cells e _ =>
      ⟨trimmedSum_eq c cells,
        congrArg (fun stage2 => roundDiv (stage2 * c.eCal) e.toNat) (trimmedSum_eq c cells),
        spanWeight_eq c cells e⟩⟩

end Sys2Proof.Proofs
end

section
/-! O1, O2, O3, O5 and O14: what holds of every command alike. One case for each command names the operation whose frame
it takes over. -/

namespace Sys2Proof.Proofs
open Sys2Proof Sys2Proof.Machine

/-! ### Every command completes, within its frame -/

/-- Outside the sections of a read lies nothing that it touches: the payloads leave the state as it is. -/
theorem keeps_noStart {p : Parts} {b : Body Unit} {act : State → Except ResultCode ReadOut} {s1 : State} {out : ReadOut}
    (h : noStart b act s1 = .ok out) (ha : act s1 = .ok out → Keeps p s1 out.state) : Keeps p s1 out.state := by
  cases b with
  | misfit => cases h
  | item a => exact ha h

theorem keeps_readSite {p : Parts} {s : State} {h : RecHead} {t : ChanType} {b : Body Unit} {payload : State → List Byte}
    (hk : p.link = true) (he : p.events = true) : Keeps p s (s.takeRead h t (noStart b (readOnly payload))) :=
  keeps_takeRead hk he fun s1 _ ho => keeps_noStart ho fun hr => by cases hr; exact Keeps.refl p s1

theorem keeps_readLane {p : Parts} {s : State} {h : RecHead} {b : Body Unit} {payload : State → Lane → List Byte}
    (hk : p.link = true) (he : p.events = true) : Keeps p s (s.readLane h b payload) :=
  keeps_takeRead hk he fun s1 _ ho => keeps_noStart ho fun hr => by
    split at hr
    · cases hr
    · cases hr; exact Keeps.refl p s1

/-- A read from a place given answers the state as it is, whatever the payload. -/
theorem keeps_readFrom {p : Parts} {s : State} {h : RecHead} {t : ChanType} {act : State → Except ResultCode ReadOut}
    (hk : p.link = true) (he : p.events = true) (ha : ∀ s1 out, act s1 = .ok out → out.state = s1) :
    Keeps p s (s.takeRead h t act) :=
  keeps_takeRead hk he fun s1 out ho => by rw [ha s1 out ho]; exact Keeps.refl p s1

theorem keeps_eventsTaken {p : Parts} {s : State} {k : Nat} (he : p.events = true) : Keeps p s (s.eventsTaken k) :=
  keeps_setEvents he

/-- A record that passes its gate and its values does what its action does. -/
theorem keeps_guardedSite {α β : Type} {p : Parts} {s : State} {h : RecHead} {b : Body α} {read : α → Option β}
    {act : β → State → State × ResultCode} (hk : p.link = true) (he : p.events = true)
    (ha : ∀ f s1, Keeps p s1 (act f s1).1) : Keeps p s (s.takeSite h (State.guarded b read act)) :=
  keeps_takeSite hk he fun _ => keeps_guarded ha

theorem keeps_guardedLane {α β : Type} {p : Parts} {s : State} {h : RecHead} {b : Body α} {read : α → Option β}
    {act : Lane → β → State → State × ResultCode} (hk : p.link = true) (he : p.events = true)
    (ha : ∀ n f s1, Keeps p s1 (act n f s1).1) :
    Keeps p s (s.takeLane h fun n => State.guarded b read (act n)) :=
  keeps_takeLane hk he fun n _ => keeps_guarded (ha n)

theorem keeps_calLane {α β : Type} {p : Parts} {s : State} {h : RecHead} {b : Body α} {read : State → Lane → α → Option β}
    {act : State → Lane → β → State × ResultCode} (hk : p.link = true) (he : p.events = true)
    (ha : ∀ t n f, Keeps p t (act t n f).1) :
    Keeps p s (s.takeLane h fun n t => t.calTakes b (read t n) (act t n) n) :=
  keeps_takeLane hk he fun n t => keeps_calTakes (ha t n)

/-- What the job that holds the bus meets; without one in the state concerned nothing happens. -/
theorem keeps_busJob {p : Parts} {s : State} {act : PrintJob → State} (ha : ∀ j, Keeps p s (act j)) :
    Keeps p s (match s.busJob with
      | some j => act j
      | none => s) := by
  split
  · exact ha _
  · exact Keeps.refl p s

/-- Every command answers a next state, within the parts that `touched` marks for it. -/
theorem exec_keeps (c : Instr) (s : State) : ∃ t, exec c s = .next t ∧ Keeps (touched c) s t := by
  cases c with
  | frameStart => exact ⟨_, rfl, (keeps_frameStarts rfl rfl rfl rfl rfl rfl).whileRunning⟩
  | deckSample => exact ⟨_, rfl, (keeps_slotEnds rfl rfl rfl rfl rfl rfl rfl).whileRunning⟩
  | zeroCaptureComplete =>
    exact ⟨_, rfl, (Keeps.ite (fun _ => keeps_slotEnds rfl rfl rfl rfl rfl rfl rfl) fun _ => .refl _ _).whileRunning⟩
  | spanCaptureComplete =>
    exact ⟨_, rfl, (Keeps.ite (fun _ => keeps_slotEnds rfl rfl rfl rfl rfl rfl rfl) fun _ => .refl _ _).whileRunning⟩
  | siteTimeAdvance => exact ⟨_, rfl, (keeps_advance rfl rfl rfl rfl rfl rfl rfl rfl rfl rfl).whileRunning⟩
  | loopStuck => exact ⟨_, rfl, (keeps_stuck rfl rfl).whileRunning⟩
  | approvalTimeout => exact ⟨_, rfl, (keeps_approvalExpires rfl rfl rfl rfl rfl rfl).whileRunning⟩
  | passTimeout => exact ⟨_, rfl, (keeps_passExpires rfl rfl rfl rfl rfl rfl).whileRunning⟩
  | minuteSweep => exact ⟨_, rfl, (keeps_minute rfl rfl rfl rfl).whileRunning⟩
  | linkLost => exact ⟨_, rfl, (keeps_linkExpires rfl rfl rfl rfl rfl rfl rfl).whileRunning⟩
  | loopMeasurement => exact ⟨_, rfl, (keeps_measure rfl rfl rfl rfl rfl rfl).whileRunning⟩
  | learningEnd =>
    exact ⟨_, rfl, (Keeps.ite (fun _ => keeps_modLoop rfl) fun _ => .refl _ _).whileRunning⟩
  | limitSwitchChange => exact ⟨_, rfl, Keeps.ite (fun _ => keeps_switch rfl rfl rfl rfl) fun _ => keeps_modBarrier rfl⟩
  | comparatorTrip => exact ⟨_, rfl, Keeps.ite (fun _ => keeps_trips rfl rfl rfl rfl) fun _ => keeps_modBarrier rfl⟩
  | comparatorBlankingEnd => exact ⟨_, rfl, (keeps_blank rfl rfl rfl rfl).whileRunning⟩
  | barrierRampStep => exact ⟨_, rfl, (keeps_modBarrier rfl).whileRunning⟩
  | travelTimeout =>
    exact ⟨_, rfl, (Keeps.ite (fun _ => keeps_enterFault rfl rfl rfl rfl) fun _ => .refl _ _).whileRunning⟩
  | reversingPauseEnd =>
    exact ⟨_, rfl, (Keeps.ite (fun _ => keeps_startMotion rfl) fun _ => .refl _ _).whileRunning⟩
  | tokenFrame => exact ⟨_, rfl, (keeps_gather rfl rfl rfl rfl rfl rfl rfl).whileRunning⟩
  | tokenFrameGap => exact ⟨_, rfl, (keeps_modPort rfl).whileRunning⟩
  | admissionProcedure =>
    exact ⟨_, rfl, (keeps_decides rfl fun _ _ => keeps_admission rfl rfl rfl rfl rfl rfl).whileRunning⟩
  | exitProcedure =>
    exact ⟨_, rfl, (keeps_decides rfl fun _ _ => keeps_exitDecision rfl rfl rfl rfl rfl rfl rfl rfl rfl).whileRunning⟩
  | close => exact ⟨_, rfl, (keeps_takeClose rfl rfl rfl rfl rfl rfl rfl rfl).whileRunning⟩
  | printLineTransfer acked =>
    refine ⟨_, rfl, (keeps_busJob fun j => ?_).whileRunning⟩
    split
    · exact keeps_transferEnds rfl rfl rfl
    · exact .refl _ _
  | printerStatusRead r =>
    refine ⟨_, rfl, (keeps_busJob fun j => ?_).whileRunning⟩
    split
    · exact keeps_statusReads rfl rfl rfl rfl rfl
    · exact .refl _ _
  | printTimeout =>
    refine ⟨_, rfl, (keeps_busJob fun j => ?_).whileRunning⟩
    split
    · exact keeps_endJob_failed rfl rfl rfl
    · exact .refl _ _
  | transmissionEnd => exact ⟨_, rfl, (keeps_gapEnds rfl).whileRunning⟩
  | replyComplete => exact ⟨_, rfl, (keeps_replyEnds rfl rfl).whileRunning⟩
  | headerBad => exact ⟨_, rfl, keeps_takeHeaderBad rfl⟩
  | recordNotExecuted r =>
    refine ⟨_, rfl, ?_⟩
    cases r with
    | damaged => exact keeps_takeDamaged rfl
    | unlisted => exact keeps_takeRecord rfl rfl fun _ => .refl _ _
  | turn => exact ⟨_, rfl, keeps_takeTurn rfl rfl⟩
  | siteOpen => exact ⟨_, rfl, keeps_takeSite rfl rfl fun _ => keeps_siteOpens rfl rfl⟩
  | siteClose => exact ⟨_, rfl, keeps_takeSite rfl rfl fun _ => keeps_siteCloses rfl rfl rfl⟩
  | laneOpen => exact ⟨_, rfl, keeps_takeLane rfl rfl fun _ _ => keeps_laneOpens rfl rfl rfl⟩
  | laneClose => exact ⟨_, rfl, keeps_takeLane rfl rfl fun _ _ => keeps_laneCloses rfl rfl rfl⟩
  | laneClear => exact ⟨_, rfl, keeps_takeLane rfl rfl fun _ _ => keeps_laneClears rfl rfl rfl⟩
  | barrierRaise => exact ⟨_, rfl, keeps_takeLane rfl rfl fun _ _ => keeps_barrierRaises rfl rfl rfl rfl rfl rfl⟩
  | barrierLower => exact ⟨_, rfl, keeps_takeLane rfl rfl fun _ _ => keeps_barrierLowers rfl rfl⟩
  | barrierReset => exact ⟨_, rfl, keeps_takeLane rfl rfl fun _ _ => keeps_barrierResets rfl rfl rfl rfl⟩
  | approve => exact ⟨_, rfl, keeps_takeLane rfl rfl fun _ _ => keeps_approves rfl rfl rfl rfl rfl rfl rfl rfl⟩
  | decline => exact ⟨_, rfl, keeps_takeLane rfl rfl fun _ _ => keeps_declines rfl rfl rfl rfl rfl rfl⟩
  | returnVisit => exact ⟨_, rfl, keeps_takeLane rfl rfl fun _ _ => keeps_returns rfl rfl rfl rfl rfl⟩
  | zero => exact ⟨_, rfl, keeps_takeLane rfl rfl fun _ _ => keeps_zeroes rfl rfl⟩
  | day => exact ⟨_, rfl, keeps_takeSite rfl rfl fun _ => keeps_newDay rfl⟩
  | resetLink => exact ⟨_, rfl, keeps_takeSite rfl rfl fun _ => keeps_linkResets rfl rfl⟩
  | resetLanes => exact ⟨_, rfl, keeps_takeSite rfl rfl fun _ => keeps_resetLanes rfl rfl rfl rfl rfl rfl rfl rfl rfl⟩
  | resetAll => exact ⟨_, rfl, keeps_takeSite rfl rfl fun _ => keeps_allResets rfl⟩
  | time => exact ⟨_, rfl, keeps_takeSite rfl rfl fun _ => keeps_timeSet rfl⟩
  | vehicleWrite => exact ⟨_, rfl, keeps_guardedSite rfl rfl fun _ _ => keeps_vehicleWrites rfl⟩
  | vehicleDelete => exact ⟨_, rfl, keeps_guardedSite rfl rfl fun _ _ => keeps_vehicleDeletes rfl rfl⟩
  | accountWrite => exact ⟨_, rfl, keeps_guardedSite rfl rfl fun _ _ => keeps_accountWrites rfl⟩
  | accountPeriodReset => exact ⟨_, rfl, keeps_guardedSite rfl rfl fun _ _ => keeps_periodResets rfl⟩
  | ident => exact ⟨_, rfl, keeps_takeLane rfl rfl fun _ _ => keeps_idents rfl rfl rfl rfl rfl rfl⟩
  | zeroCapture => exact ⟨_, rfl, keeps_calLane rfl rfl fun _ _ _ => keeps_zeroStarts rfl⟩
  | spanCapture => exact ⟨_, rfl, keeps_calLane rfl rfl fun _ _ _ => keeps_spanStarts rfl⟩
  | trim => exact ⟨_, rfl, keeps_calLane rfl rfl fun _ _ _ => keeps_trims rfl rfl rfl rfl⟩
  | range => exact ⟨_, rfl, keeps_calLane rfl rfl fun _ _ _ => keeps_ranges rfl rfl rfl⟩
  | abort => exact ⟨_, rfl, keeps_takeLane rfl rfl fun _ _ => keeps_calAborts rfl rfl⟩
  | ticketsRelease =>
    exact ⟨_, rfl, keeps_guardedSite rfl rfl fun _ _ => keeps_ticketsReleased rfl rfl rfl rfl rfl rfl rfl rfl⟩
  | ticketsReprint => exact ⟨_, rfl, keeps_guardedSite rfl rfl fun _ _ => keeps_ticketReprints rfl⟩
  | stock => exact ⟨_, rfl, keeps_guardedSite rfl rfl fun _ _ => keeps_stockSet rfl rfl⟩
  | setupSlotPlan => exact ⟨_, rfl, keeps_guardedSite rfl rfl fun _ _ => keeps_settingsSet rfl⟩
  | setupDeckCells => exact ⟨_, rfl, keeps_guardedLane rfl rfl fun _ _ _ => keeps_cellsSet rfl rfl rfl rfl rfl rfl⟩
  | setupDeckFilter => exact ⟨_, rfl, keeps_guardedLane rfl rfl fun _ _ _ => keeps_deckSettingsSet rfl⟩
  | setupDeckSettling => exact ⟨_, rfl, keeps_guardedLane rfl rfl fun _ _ _ => keeps_deckSettingsSet rfl⟩
  | setupOccupancyLevel => exact ⟨_, rfl, keeps_guardedLane rfl rfl fun _ _ _ => keeps_laneSettingsSet rfl⟩
  | setupPartAge => exact ⟨_, rfl, keeps_guardedLane rfl rfl fun _ _ _ => keeps_laneSettingsSet rfl⟩
  | setupLoop => exact ⟨_, rfl, keeps_guardedLane rfl rfl fun _ _ _ => keeps_loopSet rfl rfl rfl rfl rfl⟩
  | setupBarrier => exact ⟨_, rfl, keeps_guardedLane rfl rfl fun _ _ _ => keeps_laneSettingsSet rfl⟩
  | setupLanePolicy => exact ⟨_, rfl, keeps_guardedLane rfl rfl fun _ _ _ => keeps_laneSettingsSet rfl⟩
  | setupWaitingList => exact ⟨_, rfl, keeps_guardedSite rfl rfl fun _ _ => keeps_listsSet rfl⟩
  | setupVehicleTable => exact ⟨_, rfl, keeps_guardedSite rfl rfl fun _ _ => keeps_vehicleTableSet rfl⟩
  | setupClass => exact ⟨_, rfl, keeps_guardedSite rfl rfl fun _ _ => keeps_settingsSet rfl⟩
  | setupStream => exact ⟨_, rfl, keeps_guardedSite rfl rfl fun _ _ => keeps_settingsSet rfl⟩
  | setupAdmission => exact ⟨_, rfl, keeps_guardedSite rfl rfl fun _ _ => keeps_settingsSet rfl⟩
  | setupPrinter => exact ⟨_, rfl, keeps_guardedLane rfl rfl fun _ _ _ => keeps_laneSettingsSet rfl⟩
  | setupLink => exact ⟨_, rfl, keeps_guardedSite rfl rfl fun _ _ => keeps_settingsSet rfl⟩
  | setupSupply => exact ⟨_, rfl, keeps_guardedSite rfl rfl fun _ _ => keeps_warnLevelSet rfl rfl rfl rfl⟩
  | readAcquisitionState => exact ⟨_, rfl, keeps_readSite rfl rfl⟩
  | readDeckReadings => exact ⟨_, rfl, keeps_readSite rfl rfl⟩
  | readCaptureState => exact ⟨_, rfl, keeps_readLane rfl rfl⟩
  | readCalibrationState => exact ⟨_, rfl, keeps_readLane rfl rfl⟩
  | readLaneDevices => exact ⟨_, rfl, keeps_readLane rfl rfl⟩
  | readLaneState => exact ⟨_, rfl, keeps_readLane rfl rfl⟩
  | readWaitingLists =>
    refine ⟨_, rfl, keeps_readFrom rfl rfl fun s1 out ho => ?_⟩
    split at ho
    · cases ho
    · cases ho; rfl
  | readVehicleTable =>
    refine ⟨_, rfl, keeps_readFrom rfl rfl fun s1 out ho => ?_⟩
    split at ho
    · cases ho
    · split at ho
      · cases ho
      · cases ho; rfl
      · cases ho; rfl
  | readClassTable => exact ⟨_, rfl, keeps_readSite rfl rfl⟩
  | readAccountTable =>
    refine ⟨_, rfl, keeps_readFrom rfl rfl fun s1 out ho => ?_⟩
    split at ho
    · cases ho
    · cases ho; rfl
  | readVisitTable =>
    refine ⟨_, rfl, keeps_readFrom rfl rfl fun s1 out ho => ?_⟩
    split at ho
    · cases ho
    · split at ho
      · cases ho
      · cases ho; rfl
      · cases ho; rfl
  | readStreams => exact ⟨_, rfl, keeps_readSite rfl rfl⟩
  | readJournal =>
    refine ⟨_, rfl, keeps_readFrom rfl rfl fun s1 out ho => ?_⟩
    split at ho
    · cases ho
    · split at ho
      · cases ho
      · cases ho; rfl
  | readPrinters => exact ⟨_, rfl, keeps_readSite rfl rfl⟩
  | readEvents =>
    exact ⟨_, rfl, keeps_takeRead rfl rfl fun s1 out ho => keeps_noStart ho fun hr => by
      cases hr; exact keeps_eventsTaken rfl⟩
  | readLink => exact ⟨_, rfl, keeps_readSite rfl rfl⟩
  | readSupply => exact ⟨_, rfl, keeps_readSite rfl rfl⟩
  | calEnableRise => exact ⟨_, rfl, keeps_modPower rfl⟩
  | calEnableFall => exact ⟨_, rfl, keeps_calEnableFalls rfl rfl rfl⟩
  | supplyWarningEnter => exact ⟨_, rfl, (keeps_judgeSupply rfl rfl rfl).whileRunning⟩
  | supplyWarningEnd => exact ⟨_, rfl, (keeps_warningEnds rfl rfl rfl).whileRunning⟩
  | brownOutReset => exact ⟨_, rfl, keeps_brownsOut rfl rfl⟩
  | resetLine => exact ⟨_, rfl, keeps_lineResets rfl rfl⟩
  | startUp => exact ⟨_, rfl, keeps_leavesReset⟩
  | comparatorClear => exact ⟨_, rfl, keeps_modBarrier rfl⟩
  | idleGapAtRelease => exact ⟨_, rfl, (keeps_modLink rfl).whileRunning⟩

/-- Settles O1: the definition of a step at a queue that is not empty. -/
theorem stepTakesTheFrontCommand : Obligations.StepTakesTheFrontCommand := fun _ _ _ => rfl

/-- Settles O2, by the frame of every command, in which the waiting commands always stand. -/
theorem everyCommandCompletes : Obligations.EveryCommandCompletes := by
  intro c s
  obtain ⟨t, ht, hkeeps⟩ := exec_keeps c s
  exact ⟨t, ht, hkeeps.pending⟩

/-- Settles O3, by the frame of every command. -/
theorem commandsKeepWhatTheyDoNotTouch : Obligations.CommandsKeepWhatTheyDoNotTouch := by
  intro c s t h
  obtain ⟨u, hu, hkeeps⟩ := exec_keeps c s
  cases hu.symm.trans h
  exact hkeeps


/-! ### A part held in reset -/

variable {s : State}

theorem running_eq_false_of_held (h : s.power.held ≠ none) : s.running = false := by
  cases hheld : s.power.held with
  | none => exact absurd hheld h
  | some c => rw [State.running, hheld]; rfl

theorem whileRunning_of_held (h : s.power.held ≠ none) (t : State) : s.whileRunning t = s := by
  rw [State.whileRunning, running_eq_false_of_held h]; rfl

theorem listening_eq_false_of_held (h : s.power.held ≠ none) : s.listening = false := by
  rw [State.listening, running_eq_false_of_held h]; rfl

theorem takeRecord_of_held (h : s.power.held ≠ none) {r : RecHead} {t : ChanType} {act : State → State × ResultCode} :
    s.takeRecord r t act = s := by
  rw [State.takeRecord, listening_eq_false_of_held h]; rfl

theorem takeRead_of_held (h : s.power.held ≠ none) {r : RecHead} {t : ChanType}
    {act : State → Except ResultCode ReadOut} : s.takeRead r t act = s := by
  rw [State.takeRead, listening_eq_false_of_held h]; rfl

theorem takeTurn_of_held (h : s.power.held ≠ none) {r : RecHead} : s.takeTurn r = s := by
  rw [State.takeTurn, listening_eq_false_of_held h]; rfl

theorem takeDamaged_of_held (h : s.power.held ≠ none) {e : LinkErrors} {turn : Bool} : s.takeDamaged e turn = s := by
  rw [State.takeDamaged, listening_eq_false_of_held h]; rfl

theorem takeHeaderBad_of_held (h : s.power.held ≠ none) {e : LinkErrors} : s.takeHeaderBad e = s := by
  rw [State.takeHeaderBad, listening_eq_false_of_held h]; rfl

/-- Settles O5: a command of the yard asks whether the part runs, and a record whether the port listens; neither holds
of a held part. -/
theorem heldPartKeepsStill : Obligations.HeldPartKeepsStill := by
  intro c s h hstart hbrown hline hrise hfall hswitch htrip hclear
  cases c with
  | startUp env => exact absurd rfl (hstart env)
  | brownOutReset mv k => exact absurd rfl (hbrown mv k)
  | resetLine k => exact absurd rfl (hline k)
  | calEnableRise => exact absurd rfl hrise
  | calEnableFall => exact absurd rfl hfall
  | limitSwitchChange n side a => exact absurd rfl (hswitch n side a)
  | comparatorTrip n => exact absurd rfl (htrip n)
  | comparatorClear n => exact absurd rfl (hclear n)
  | headerBad => exact congrArg Host.Outcome.next (takeHeaderBad_of_held h)
  | turn => exact congrArg Host.Outcome.next (takeTurn_of_held h)
  | recordNotExecuted r =>
    cases r with
    | damaged => exact congrArg Host.Outcome.next (takeDamaged_of_held h)
    | unlisted => exact congrArg Host.Outcome.next (takeRecord_of_held h)
  | frameStart | deckSample | zeroCaptureComplete | spanCaptureComplete | siteTimeAdvance | loopStuck | approvalTimeout
  | passTimeout | minuteSweep | linkLost | loopMeasurement | learningEnd | comparatorBlankingEnd | barrierRampStep
  | travelTimeout | reversingPauseEnd | tokenFrame | tokenFrameGap | admissionProcedure | exitProcedure | close
  | printLineTransfer | printerStatusRead | printTimeout | transmissionEnd | replyComplete | supplyWarningEnter
  | supplyWarningEnd | idleGapAtRelease =>
    exact congrArg Host.Outcome.next (whileRunning_of_held h _)
  | siteOpen | siteClose | laneOpen | laneClose | laneClear | barrierRaise | barrierLower | barrierReset | approve
  | decline | returnVisit | zero | day | resetLink | resetLanes | resetAll | time | vehicleWrite | vehicleDelete
  | accountWrite | accountPeriodReset | ident | zeroCapture | spanCapture | trim | range | abort | ticketsRelease
  | ticketsReprint | stock | setupSlotPlan | setupDeckCells | setupDeckFilter | setupDeckSettling | setupOccupancyLevel
  | setupPartAge | setupLoop | setupBarrier | setupLanePolicy | setupWaitingList | setupVehicleTable | setupClass
  | setupStream | setupAdmission | setupPrinter | setupLink | setupSupply =>
    exact congrArg Host.Outcome.next (takeRecord_of_held h)
  | readAcquisitionState | readDeckReadings | readCaptureState | readCalibrationState | readLaneDevices | readLaneState
  | readWaitingLists | readVehicleTable | readClassTable | readAccountTable | readVisitTable | readStreams | readJournal
  | readPrinters | readEvents | readLink | readSupply =>
    exact congrArg Host.Outcome.next (takeRead_of_held h)

/-! ### The machine after reset -/

/-- With an empty copy, what holds of both kinds of contents is what holds of the sections. -/
theorem eachRetained_of_empty {good : Retained → Prop} (hc : s.copy = .empty) (h : good s.ret) :
    s.eachRetained good :=
  ⟨h, fun c k hk => by rw [hc] at hk; cases hk⟩

theorem factoryRetained_zeroWithin : factoryRetained.ZeroWithin := fun n => by cases n <;> decide

theorem factoryAccounts_pending (a : Fin 256) : (factoryIdentities.accounts.get a).pending = 0 := by
  change (((Vector.replicate 256 (factoryAccount false)).set 0 (factoryAccount true))[a.val]).pending = 0
  rw [Vector.getElem_set]
  split
  · rfl
  · rw [Vector.getElem_replicate]; rfl

theorem factoryTraffic_reserved (k : Fin 8) : (factoryTraffic.streams.get k).reserved = 0 := by
  change ((Vector.replicate 8 (⟨0, 0⟩ : StreamTotals))[k.val]).reserved = 0
  rw [Vector.getElem_replicate]

theorem factoryRetained_visitsAccounted : factoryRetained.VisitsAccounted :=
  ⟨by decide, List.Pairwise.nil, List.nodup_nil, List.forall_mem_nil _, List.forall_mem_nil _, factoryTraffic_reserved, factoryAccounts_pending,
    by decide⟩

theorem factoryRetained_journalOrdered : factoryRetained.JournalOrdered := ⟨by decide, trivial, by decide, List.forall_mem_nil _⟩

theorem factoryRetained_provisionalCounted : factoryRetained.ProvisionalCounted :=
  ⟨by decide, List.Pairwise.nil, rfl, by decide⟩

theorem factoryRetained_depthsShared : factoryRetained.DepthsShared := by unfold Retained.DepthsShared; decide

/-- Settles O14: the sections hold factory contents, the lists, the print queue and the barriers their start. -/
theorem resetMeetsInvariants : Obligations.ResetMeetsInvariants := by
  refine ⟨⟨by decide, by decide, fun _ => rfl⟩, eachRetained_of_empty rfl factoryRetained_zeroWithin,
    eachRetained_of_empty rfl factoryRetained_journalOrdered, eachRetained_of_empty rfl factoryRetained_visitsAccounted,
    eachRetained_of_empty rfl factoryRetained_provisionalCounted, eachRetained_of_empty rfl factoryRetained_depthsShared,
    ⟨fun n => ?_, List.nodup_nil⟩, ⟨by decide, fun n => ?_, by decide, by decide, fun h => absurd rfl h,
    List.forall_mem_nil _⟩,
    fun n => ?_, rfl, fun c k hk => ?_, fun _ => rfl⟩
  · cases n <;> decide
  · cases n <;> decide
  · cases n <;> exact ⟨nofun, fun _ _ => ⟨rfl, rfl, rfl⟩⟩
  · cases hk

end Sys2Proof.Proofs
end

section
/-! The invariants that every step keeps, taken together: `Upholds` says of two states that each invariant of the first
holds of the second, and that the lanes outside a scope are as they were. It is shown once for each operation. -/

namespace Sys2Proof.Proofs
open Sys2Proof Sys2Proof.Machine

/-! ### The relation -/

/-- What an operation may reach: the lanes whose own parts it may change, the lanes whose clear loop it may hear anew,
and whether the visits and the vehicle table were in order when it began. -/
structure Scope where
  lanes : Lane → Prop
  heard : Lane → Prop
  visits : Prop
  table : Prop

/-- One barrier as R76 and R79 have it, over a clear loop that is FREE or not. -/
def BarrierOk (free : Prop) (b : Barrier) : Prop :=
  (b.state = .lowering → free)
    ∧ (b.state ≠ .raising → b.state ≠ .lowering → b.duty = 0 ∧ b.direction = none ∧ b.motionMs = none)

/-- The barriers are safe, but for a lowering over a clear loop that has just been heard. -/
def SafeBut (heard : Lane → Prop) (s : State) : Prop :=
  ∀ n, BarrierOk (s.clearReport n = .free ∨ heard n) (s.barrier n)

/-- The sections, their checks and the copy stand as they did, or as the last retained update left them (R209). -/
def Stored (s t : State) : Prop :=
  (t.ret = s.ret ∧ t.checks = s.checks ∧ t.copy = s.copy) ∨ (t.checks = t.ret.checks ∧ t.copy = .empty)

/-- Every invariant of one state holds of the other, and the lanes outside the scope are as they were. -/
structure Upholds (c : Scope) (s t : State) : Prop where
  events : s.EventsBounded → t.EventsBounded
  printing : s.PrintQueueBounded → t.PrintQueueBounded
  zero : s.ret.ZeroWithin → t.ret.ZeroWithin
  journal : s.ret.JournalOrdered → t.ret.JournalOrdered
  visits : c.visits → s.ret.VisitsAccounted → t.ret.VisitsAccounted
  table : c.table → s.ret.ProvisionalCounted → t.ret.ProvisionalCounted
  depths : s.ret.DepthsShared → t.ret.DepthsShared
  lists : s.ListsWithinDepth → t.ListsWithinDepth
  barriers : SafeBut c.heard s → SafeBut c.heard t
  stored : Stored s t
  held : t.power.held = none → s.power.held = none
  others : ∀ m, ¬c.lanes m → SameLane m s t

variable {c : Scope} {s t u : State} {n : Lane}

theorem sameLane_refl (m : Lane) (s : State) : SameLane m s s := ⟨rfl, rfl, rfl, rfl, rfl, rfl, rfl, rfl⟩

theorem sameLane_trans {m : Lane} (h : SameLane m s t) (g : SameLane m t u) : SameLane m s u := by
  obtain ⟨h1, h2, h3, h4, h5, h6, h7, h8⟩ := h
  obtain ⟨g1, g2, g3, g4, g5, g6, g7, g8⟩ := g
  exact ⟨g1.trans h1, g2.trans h2, g3.trans h3, g4.trans h4, g5.trans h5, g6.trans h6, g7.trans h7, g8.trans h8⟩

theorem Stored.refl (s : State) : Stored s s := .inl ⟨rfl, rfl, rfl⟩

theorem Stored.trans (h : Stored s t) (g : Stored t u) : Stored s u := by
  rcases g with ⟨hr, hk, hc⟩ | g
  · rcases h with ⟨hr', hk', hc'⟩ | ⟨hk', hc'⟩
    · exact .inl ⟨hr.trans hr', hk.trans hk', hc.trans hc'⟩
    · exact .inr ⟨by rw [hk, hr, hk'], hc.trans hc'⟩
  · exact .inr g

theorem Upholds.refl (c : Scope) (s : State) : Upholds c s s :=
  ⟨id, id, id, id, fun _ => id, fun _ => id, id, id, id, .refl s, id, fun m _ => sameLane_refl m s⟩

theorem Upholds.trans (h : Upholds c s t) (g : Upholds c t u) : Upholds c s u where
  events := g.events ∘ h.events
  printing := g.printing ∘ h.printing
  zero := g.zero ∘ h.zero
  journal := g.journal ∘ h.journal
  visits hv := g.visits hv ∘ h.visits hv
  table ht := g.table ht ∘ h.table ht
  depths := g.depths ∘ h.depths
  lists := g.lists ∘ h.lists
  barriers := g.barriers ∘ h.barriers
  stored := h.stored.trans g.stored
  held := h.held ∘ g.held
  others m hm := sameLane_trans (h.others m hm) (g.others m hm)

/-- `trans` with the later step first, from which the state between is known. -/
theorem Upholds.after (g : Upholds c t u) (h : Upholds c s t) : Upholds c s u := h.trans g

theorem Upholds.ite {p : Prop} [Decidable p] (h : p → Upholds c s t) (g : ¬p → Upholds c s u) :
    Upholds c s (if p then t else u) := by
  split
  · exact h ‹_›
  · exact g ‹_›

/-- A branch that leaves the state as it is upholds everything. -/
theorem Upholds.iteSelf {p : Prop} [Decidable p] (h : p → Upholds c s t) : Upholds c s (if p then t else s) :=
  .ite h fun _ => .refl c s

theorem Upholds.foldl {α : Type} {f : State → α → State} (h : ∀ t a, Upholds c t (f t a)) :
    ∀ (as : List α) (s : State), Upholds c s (as.foldl f s)
  | [], s => .refl c s
  | a :: as, s => (h s a).trans (Upholds.foldl h as (f s a))

theorem Upholds.eachLane {f : State → Lane → State} (h : ∀ t n, Upholds c t (f t n)) (s : State) :
    Upholds c s (s.eachLane f) :=
  (((h _ _).trans (h _ _)).trans (h _ _)).trans (h _ _)

theorem Upholds.whileRunning (h : Upholds c s t) : Upholds c s (s.whileRunning t) := .iteSelf fun _ => h

theorem retained_ext {q r : Retained} (hc : q.cal = r.cal) (hs : q.settings = r.settings) (hi : q.ident = r.ident)
    (ht : q.traffic = r.traffic) (hk : q.tickets = r.tickets) : q = r := by
  cases q; cases r
  simp_all

/-! ### From a frame: what an operation does not touch it upholds -/

/-- Whether any of the parts belongs to one lane each. -/
def Parts.perLane (p : Parts) : Bool :=
  p.cal || p.decks || p.loops || p.barriers || p.readers || p.lanes || p.settings

theorem clearReport_congr (hl : t.loops = s.loops) (n : Lane) : t.clearReport n = s.clearReport n := by
  simp only [State.clearReport, State.loop, hl]

/-- An operation upholds the invariants of the parts outside its frame; those of the parts it touches are its own. -/
theorem Upholds.of_keeps {p : Parts} (k : Keeps p s t)
    (events : p.events = true → s.EventsBounded → t.EventsBounded)
    (printing : p.printing = true → s.PrintQueueBounded → t.PrintQueueBounded)
    (zero : p.cal = true → s.ret.ZeroWithin → t.ret.ZeroWithin)
    (journal : p.tickets = true → s.ret.JournalOrdered → t.ret.JournalOrdered)
    (visits : (p.traffic || p.ident) = true → c.visits → s.ret.VisitsAccounted → t.ret.VisitsAccounted)
    (table : (p.ident || p.settings) = true → c.table → s.ret.ProvisionalCounted → t.ret.ProvisionalCounted)
    (depths : p.settings = true → s.ret.DepthsShared → t.ret.DepthsShared)
    (lists : (p.lists || p.settings) = true → s.ListsWithinDepth → t.ListsWithinDepth)
    (barriers : (p.barriers || p.loops) = true → SafeBut c.heard s → SafeBut c.heard t)
    (stored : (p.retained || p.copy) = true → Stored s t)
    (held : p.power = true → t.power.held = none → s.power.held = none)
    (others : Parts.perLane p = true → ∀ m, ¬c.lanes m → SameLane m s t) :
    Upholds c s t where
  events := by
    cases hp : p.events with
    | true => exact events hp
    | false => simp only [State.EventsBounded, k.events hp]; exact id
  printing := by
    cases hp : p.printing with
    | true => exact printing hp
    | false => simp only [State.PrintQueueBounded, k.printing hp]; exact id
  zero := by
    cases hp : p.cal with
    | true => exact zero hp
    | false => simp only [Retained.ZeroWithin, k.cal hp]; exact id
  journal := by
    cases hp : p.tickets with
    | true => exact journal hp
    | false => simp only [Retained.JournalOrdered, k.tickets hp]; exact id
  visits := by
    cases hp : p.traffic || p.ident with
    | true => exact visits hp
    | false =>
      obtain ⟨ht, hi⟩ := Bool.or_eq_false_iff.mp hp
      simp only [Retained.VisitsAccounted, k.traffic ht, k.ident hi]
      exact fun _ => id
  table := by
    cases hp : p.ident || p.settings with
    | true => exact table hp
    | false =>
      obtain ⟨hi, hs⟩ := Bool.or_eq_false_iff.mp hp
      simp only [Retained.ProvisionalCounted, k.ident hi, k.settings hs]
      exact fun _ => id
  depths := by
    cases hp : p.settings with
    | true => exact depths hp
    | false => simp only [Retained.DepthsShared, k.settings hp]; exact id
  lists := by
    cases hp : p.lists || p.settings with
    | true => exact lists hp
    | false =>
      obtain ⟨hl, hs⟩ := Bool.or_eq_false_iff.mp hp
      have hlist : t.list = s.list := funext fun n => congrArg (Quad.get · n) (k.lists hl)
      simp only [State.ListsWithinDepth, hlist, State.laneSettings, k.settings hs]
      exact id
  barriers := by
    cases hp : p.barriers || p.loops with
    | true => exact barriers hp
    | false =>
      obtain ⟨hb, hl⟩ := Bool.or_eq_false_iff.mp hp
      simp only [SafeBut, State.barrier, k.barriers hb, clearReport_congr (k.loops hl)]
      exact id
  stored := by
    cases hp : p.retained || p.copy with
    | true => exact stored hp
    | false =>
      obtain ⟨hr, hc⟩ := Bool.or_eq_false_iff.mp hp
      have hrs := hr
      simp only [Parts.retained, Bool.or_eq_false_iff] at hrs
      obtain ⟨⟨⟨⟨hcal, hset⟩, hid⟩, htr⟩, htk⟩ := hrs
      refine .inl ⟨?_, k.checks hr, k.copy hc hr⟩
      exact retained_ext (k.cal hcal) (k.settings hset) (k.ident hid) (k.traffic htr) (k.tickets htk)
  held := by
    cases hp : p.power with
    | true => exact held hp
    | false => rw [k.power hp]; exact id
  others := by
    cases hp : Parts.perLane p with
    | true => exact others hp
    | false =>
      simp only [Parts.perLane, Bool.or_eq_false_iff] at hp
      obtain ⟨⟨⟨⟨⟨⟨hcal, hdecks⟩, hloops⟩, hbarriers⟩, hreaders⟩, hlanes⟩, hsettings⟩ := hp
      intro m _
      simp only [SameLane, State.cal, State.deck, State.barrier, State.lane, State.laneSettings, State.deckSettings,
        k.cal hcal, k.decks hdecks, k.loops hloops, k.barriers hbarriers, k.readers hreaders, k.lanes hlanes,
        k.settings hsettings, and_self]


/-! ### The updaters -/

theorem ne_of_lanes {m : Lane} (hn : c.lanes n) (hm : ¬c.lanes m) : m ≠ n := fun h => hm (h ▸ hn)

theorem upholds_post {k : EventKind} {l : Option Lane} {x : Subject} {d : Detail} : Upholds c s (s.post k l x d) := by
  apply Upholds.of_keeps (p := { events := true }) (keeps_post rfl)
  case events =>
    exact fun _ ⟨hlen, hdrop, hflag⟩ => by
      unfold State.post State.EventsBounded
      dsimp only
      split
      · next hroom =>
        have : s.events.queue.length < 64 := hroom
        exact ⟨by simp only [List.length_append, List.length_singleton]; omega, hdrop, hflag⟩
      · exact ⟨hlen, by dsimp only; omega, fun h => by cases h⟩
  all_goals (intro h; cases h)

theorem upholds_setEvents {q : EventQueue} (hq : s.EventsBounded → { s with events := q }.EventsBounded) :
    Upholds c s { s with events := q } := by
  apply Upholds.of_keeps (p := { events := true }) (keeps_setEvents rfl)
  case events => exact fun _ => hq
  all_goals (intro h; cases h)

theorem upholds_modAcq {f : Acquisition → Acquisition} : Upholds c s (s.modAcq f) := by
  apply Upholds.of_keeps (p := { acq := true }) (keeps_modAcq rfl)
  all_goals (intro h; cases h)

theorem upholds_modDeck {f : Deck → Deck} (hn : c.lanes n) : Upholds c s (s.modDeck n f) := by
  apply Upholds.of_keeps (p := { decks := true }) (keeps_modDeck rfl)
  case others =>
    exact fun _ m hm => by
      simp [SameLane, ne_of_lanes hn hm]
  all_goals (intro h; cases h)

theorem upholds_modLane {f : LaneSeq → LaneSeq} (hn : c.lanes n) : Upholds c s (s.modLane n f) := by
  apply Upholds.of_keeps (p := { lanes := true }) (keeps_modLane rfl)
  case others =>
    exact fun _ m hm => by
      simp [SameLane, ne_of_lanes hn hm]
  all_goals (intro h; cases h)

theorem upholds_modReaders {f : ReaderPair → ReaderPair} (hn : c.lanes n) : Upholds c s (s.modReaders n f) := by
  apply Upholds.of_keeps (p := { readers := true }) (keeps_modReaders rfl)
  case others =>
    exact fun _ m hm => by
      refine ⟨rfl, rfl, rfl, rfl, ?_, rfl, rfl, rfl⟩
      rw [State.modReaders_readers, Quad.get_upd, if_neg (ne_of_lanes hn hm)]
  all_goals (intro h; cases h)

/-- A change of the loops that may make a clear loop's report another only where it is heard. -/
theorem upholds_modLoops {f : LoopPair → LoopPair} (hn : c.lanes n)
    (hf : c.heard n ∨ (f (s.loops.get n)).clear.report = (s.loops.get n).clear.report) :
    Upholds c s (s.modLoops n f) := by
  apply Upholds.of_keeps (p := { loops := true }) (keeps_modLoops rfl)
  case barriers =>
    exact fun _ hs m => by
      have hm := hs m
      have hreport : (s.modLoops n f).clearReport m = .free ∨ c.heard m ↔ s.clearReport m = .free ∨ c.heard m := by
        by_cases hmn : m = n
        · subst hmn
          rcases hf with hf | hf
          · simp [hf]
          · simp [State.clearReport, State.loop, hf]
        · simp [State.clearReport, State.loop, Quad.get_upd, hmn]
      rw [hreport]
      exact hm
  case others =>
    exact fun _ m hm => by
      refine ⟨rfl, rfl, ?_, rfl, rfl, rfl, rfl, rfl⟩
      rw [State.modLoops_loops, Quad.get_upd, if_neg (ne_of_lanes hn hm)]
  all_goals (intro h; cases h)

/-- A change of a barrier that leaves it safe over the clear loop as it stands. -/
theorem upholds_modBarrier {f : Barrier → Barrier} (hn : c.lanes n)
    (hf : BarrierOk (s.clearReport n = .free ∨ c.heard n) (s.barrier n) →
      BarrierOk (s.clearReport n = .free ∨ c.heard n) (f (s.barrier n))) :
    Upholds c s (s.modBarrier n f) := by
  apply Upholds.of_keeps (p := { barriers := true }) (keeps_modBarrier rfl)
  case barriers =>
    exact fun _ hs m => by
      rw [State.modBarrier_barrier]
      split
      · next hmn => subst hmn; exact hf (hs m)
      · exact hs m
  case others => exact fun _ m hm => by simp [SameLane, ne_of_lanes hn hm]
  all_goals (intro h; cases h)

theorem upholds_setLists {q : Quad (List WaitEntry)}
    (hq : s.ListsWithinDepth → { s with lists := q }.ListsWithinDepth) : Upholds c s { s with lists := q } := by
  apply Upholds.of_keeps (p := { lists := true }) (keeps_setLists rfl)
  case lists => exact fun _ => hq
  all_goals (intro h; cases h)

theorem upholds_setJournalOrder {q : List Lane} : Upholds c s { s with journalOrder := q } := by
  apply Upholds.of_keeps (p := { journalOrder := true }) (keeps_setJournalOrder rfl)
  all_goals (intro h; cases h)

theorem upholds_modClock {f : Clock → Clock} : Upholds c s (s.modClock f) := by
  apply Upholds.of_keeps (p := { clock := true }) (keeps_modClock rfl)
  all_goals (intro h; cases h)

theorem upholds_modLink {f : LinkPort → LinkPort} : Upholds c s (s.modLink f) := by
  apply Upholds.of_keeps (p := { link := true }) (keeps_modLink rfl)
  all_goals (intro h; cases h)

theorem upholds_modPower {f : Power → Power} (hf : (f s.power).held = none → s.power.held = none) :
    Upholds c s (s.modPower f) := by
  apply Upholds.of_keeps (p := { power := true }) (keeps_modPower rfl)
  case held => exact fun _ => hf
  all_goals (intro h; cases h)

theorem upholds_modPrinting {f : Printing → Printing} (hf : s.PrintQueueBounded → (s.modPrinting f).PrintQueueBounded) :
    Upholds c s (s.modPrinting f) := by
  apply Upholds.of_keeps (p := { printing := true }) (keeps_modPrinting rfl)
  case printing => exact fun _ => hf
  all_goals (intro h; cases h)

theorem stored_retain (s : State) (r : Retained) : Stored s (s.retain r) := .inr ⟨rfl, rfl⟩

theorem upholds_modCal {f : DeckCal → DeckCal} (hn : c.lanes n)
    (hf : (s.cal n).z.natAbs ≤ (s.cal n).max / 5 → (f (s.cal n)).z.natAbs ≤ (f (s.cal n)).max / 5) :
    Upholds c s (s.modCal n f) := by
  apply Upholds.of_keeps (p := { cal := true }) (keeps_modCal rfl)
  case zero =>
    exact fun _ hz m => by
      rw [State.modCal_cal, Quad.get_upd]
      split
      · next hmn => subst hmn; exact hf (hz m)
      · exact hz m
  case stored => exact fun _ => stored_retain s _
  case others => exact fun _ m hm => ⟨by rw [State.modCal_cal', if_neg (ne_of_lanes hn hm)], rfl, rfl, rfl, rfl, rfl, rfl, rfl⟩
  all_goals (intro h; cases h)

theorem upholds_modLaneSettings {f : LaneSettings → LaneSettings} (hn : c.lanes n)
    (hf : (f (s.laneSettings n)).depth = (s.laneSettings n).depth) : Upholds c s (s.modLaneSettings n f) := by
  have hdepth : ∀ m, ((s.modLaneSettings n f).laneSettings m).depth = (s.laneSettings m).depth := by
    intro m
    rw [State.modLaneSettings_laneSettings]
    split
    · next hmn => subst hmn; exact hf
    · rfl
  apply Upholds.of_keeps (p := { settings := true }) (keeps_modLaneSettings rfl)
  case table => exact fun _ _ h => h
  case depths =>
    exact fun _ h => by
      change (Lane.all.map fun m => ((s.modLaneSettings n f).laneSettings m).depth).sum ≤ 32
      simp only [hdepth]
      exact h
  case lists => exact fun _ ⟨hlen, hnodup⟩ => ⟨fun m => by rw [hdepth m]; exact hlen m, hnodup⟩
  case stored => exact fun _ => stored_retain s _
  case others =>
    exact fun _ m hm =>
      ⟨rfl, rfl, rfl, rfl, rfl, rfl, by rw [State.modLaneSettings_laneSettings, if_neg (ne_of_lanes hn hm)], rfl⟩
  all_goals (intro h; cases h)

theorem upholds_modDeckSettings {f : DeckSettings → DeckSettings} (hn : c.lanes n) :
    Upholds c s (s.modDeckSettings n f) := by
  apply Upholds.of_keeps (p := { settings := true }) (keeps_modDeckSettings rfl)
  case table => exact fun _ _ h => h
  case depths => exact fun _ h => h
  case lists => exact fun _ h => h
  case stored => exact fun _ => stored_retain s _
  case others =>
    exact fun _ m hm => ⟨rfl, rfl, rfl, rfl, rfl, rfl, rfl, by
      simp [State.deckSettings, Quad.get_upd, ne_of_lanes hn hm]⟩
  all_goals (intro h; cases h)

/-- A change of the settings of the site alone, but for the learned-entry limit. -/
theorem upholds_modSettings {f : Settings → Settings} (hlanes : (f s.ret.settings).lanes = s.ret.settings.lanes)
    (hdecks : (f s.ret.settings).decks = s.ret.settings.decks)
    (hlimit : (f s.ret.settings).learnLimit = s.ret.settings.learnLimit) : Upholds c s (s.modSettings f) := by
  have hlane : (s.modSettings f).laneSettings = s.laneSettings := funext fun m => congrArg (Quad.get · m) hlanes
  apply Upholds.of_keeps (p := { settings := true }) (keeps_modSettings rfl)
  case table =>
    exact fun _ _ h => by
      obtain ⟨h1, h2, h3, h4⟩ := h
      exact ⟨h1, h2, h3, by rw [State.modSettings_settings, hlimit]; exact h4⟩
  case depths =>
    exact fun _ h => by
      rw [Retained.DepthsShared, State.modSettings_settings, hlanes]
      exact h
  case lists => exact fun _ ⟨hlen, hnodup⟩ => ⟨fun m => by rw [hlane]; exact hlen m, hnodup⟩
  case stored => exact fun _ => stored_retain s _
  case others => exact fun _ m _ => ⟨rfl, rfl, rfl, rfl, rfl, rfl, by rw [hlane], congrArg (Quad.get · m) hdecks⟩
  all_goals (intro h; cases h)

/-- A change of the identities that leaves every pending amount. -/
theorem upholds_modIdent {f : Identities → Identities}
    (hpending : ∀ a, ((f s.ret.ident).accounts.get a).pending = (s.ret.ident.accounts.get a).pending)
    (htable : c.table → s.ret.ProvisionalCounted → (s.modIdent f).ret.ProvisionalCounted) :
    Upholds c s (s.modIdent f) := by
  apply Upholds.of_keeps (p := { ident := true }) (keeps_modIdent rfl)
  case visits =>
    exact fun _ _ ⟨h1, h2, h3, h4, h5, h6, h7, h8⟩ =>
      ⟨h1, h2, h3, h4, h5, h6, fun a => (hpending a).trans (h7 a), h8⟩
  case table => exact fun _ => htable
  case stored => exact fun _ => stored_retain s _
  all_goals (intro h; cases h)

theorem upholds_modTraffic {f : Traffic → Traffic}
    (hf : c.visits → s.ret.VisitsAccounted → (s.modTraffic f).ret.VisitsAccounted) : Upholds c s (s.modTraffic f) := by
  apply Upholds.of_keeps (p := { traffic := true }) (keeps_modTraffic rfl)
  case visits => exact fun _ => hf
  case stored => exact fun _ => stored_retain s _
  all_goals (intro h; cases h)

theorem upholds_modTickets {f : TicketSection → TicketSection}
    (hf : s.ret.JournalOrdered → (s.modTickets f).ret.JournalOrdered) : Upholds c s (s.modTickets f) := by
  apply Upholds.of_keeps (p := { tickets := true }) (keeps_modTickets rfl)
  case journal => exact fun _ => hf
  case stored => exact fun _ => stored_retain s _
  all_goals (intro h; cases h)

end Sys2Proof.Proofs
end

section
namespace Sys2Proof.Proofs
open Sys2Proof Sys2Proof.Machine

variable {c : Scope} {s t u : State} {n : Lane}

/-! ### Barriers -/

theorem barrierOk_beginMotion {free : Prop} {cfg : BarrierSettings} {d : Toward} {b : Barrier}
    (h : d = .down → free) : BarrierOk free (beginMotion cfg d b) := by
  cases d with
  | up => exact ⟨nofun, fun h => absurd rfl h⟩
  | down => exact ⟨fun _ => h rfl, fun _ h => absurd rfl h⟩

theorem barrierOk_stopped {free : Prop} {b : Barrier} {st : BarrierState} (h : st ≠ .lowering) :
    BarrierOk free { stopMotor b with state := st } := ⟨fun hst => absurd hst h, fun _ _ => ⟨rfl, rfl, rfl⟩⟩

theorem upholds_stop {st : BarrierState} (hn : c.lanes n) (hst : st ≠ .lowering) :
    Upholds c s (s.modBarrier n fun b => { stopMotor b with state := st }) :=
  upholds_modBarrier hn fun _ => barrierOk_stopped hst

theorem upholds_startMotion {d : Toward} (hn : c.lanes n) (hd : d = .down → s.clearReport n = .free) :
    Upholds c s (s.startMotion n d) :=
  upholds_modBarrier hn fun _ => barrierOk_beginMotion fun h => .inl (hd h)

theorem upholds_reverse (hn : c.lanes n) : Upholds c s (s.reverse n) :=
  upholds_stop hn nofun

theorem upholds_seek (hn : c.lanes n) : Upholds c s (s.seek n) := by
  unfold State.seek
  split
  · exact upholds_startMotion hn nofun
  · exact upholds_startMotion hn nofun
  · exact .iteSelf fun h => upholds_startMotion hn fun _ => h
  · exact .iteSelf fun h => upholds_startMotion hn fun _ => h
  · exact .refl c s

theorem upholds_command {d : Toward} (hn : c.lanes n) : Upholds c s (s.command n d) := by
  unfold State.command
  refine .ite (fun _ => .refl c s) fun _ => ?_
  refine (upholds_modBarrier (f := fun b => { b with target := d }) hn id).trans ?_
  split
  · exact upholds_reverse hn
  · exact upholds_seek hn

/-! ### Lanes -/

theorem upholds_setLaneState {st : LaneState} (hn : c.lanes n) : Upholds c s (s.setLaneState n st) := upholds_modLane hn

theorem upholds_enterHeld {r : HoldReason} (hn : c.lanes n) : Upholds c s (s.enterHeld n r) := by
  unfold State.enterHeld
  exact ((upholds_modLane hn).trans upholds_post).trans (.iteSelf fun _ => upholds_command hn)

theorem upholds_enterClosed (hn : c.lanes n) : Upholds c s (s.enterClosed n) :=
  ((upholds_setLaneState hn).trans (upholds_modLaneSettings hn rfl)).trans (upholds_command hn)

theorem upholds_enterIdle (hn : c.lanes n) : Upholds c s (s.enterIdle n) := by
  unfold State.enterIdle
  refine (upholds_modLane (f := idleLane) hn).trans ?_
  refine .ite (fun _ => (upholds_modLane hn).trans (upholds_enterClosed hn)) fun _ => ?_
  exact .ite (fun _ => upholds_setLaneState hn) fun _ => .iteSelf fun _ => upholds_setLaneState hn

theorem upholds_laneSettle (hn : c.lanes n) : Upholds c s (s.laneSettle n) := by
  unfold State.laneSettle
  split
  · exact .ite (fun _ => upholds_setLaneState hn) fun _ => .iteSelf fun _ => upholds_setLaneState hn
  · exact .ite (fun _ => .refl c s) fun _ => upholds_enterIdle hn
  · exact .refl c s

theorem upholds_enterRefused {r : Reason} (hn : c.lanes n) : Upholds c s (s.enterRefused n r) := by
  unfold State.enterRefused
  exact ((upholds_modLane hn).trans (upholds_command hn)).trans (.iteSelf fun _ => upholds_enterIdle hn)

theorem upholds_letGo (hn : c.lanes n) : Upholds c s (s.letGo n) :=
  .ite (fun _ => upholds_enterHeld hn) fun _ => (upholds_modLane hn).trans (upholds_command hn)

theorem upholds_enterClearing (hn : c.lanes n) : Upholds c s (s.enterClearing n) :=
  (upholds_modLane hn).trans (upholds_command hn)

theorem upholds_postRefused {x : Token} {r : Reason} : Upholds c s (s.postRefused n x r) := upholds_post

theorem upholds_weighingEmptied (hn : c.lanes n) : Upholds c s (s.weighingEmptied n) := by
  unfold State.weighingEmptied
  dsimp only
  split
  · exact ((upholds_modLane hn).trans upholds_post).trans (upholds_enterIdle hn)
  · exact ((upholds_modLane hn).trans upholds_post).trans (upholds_enterIdle hn)
  · exact .refl c s

theorem upholds_occupancyChanged (hn : c.lanes n) : Upholds c s (s.occupancyChanged n) := by
  unfold State.occupancyChanged
  split
  · exact upholds_laneSettle hn
  · exact upholds_enterIdle hn
  · exact upholds_weighingEmptied hn
  · exact upholds_enterIdle hn
  · exact .refl c s

theorem upholds_setOccupancy {o : Occupancy} (hn : c.lanes n) : Upholds c s (s.setOccupancy n o) :=
  .ite (fun _ => .refl c s) fun _ => (upholds_modDeck hn).trans (upholds_occupancyChanged hn)

theorem upholds_enterFault {r : BarrierFault} (hn : c.lanes n) : Upholds c s (s.enterFault n r) := by
  have stops : Upholds c s ((s.modBarrier n fun b => { stopMotor b with state := .fault r }).post .barrierFault (some n)
      .none (.barrierFault r)) := (upholds_stop (st := .fault r) hn nofun).trans upholds_post
  unfold State.enterFault
  dsimp only
  split
  · exact stops.trans ((upholds_modLane hn).trans (upholds_enterHeld hn))
  · exact stops.trans (upholds_laneSettle hn)

theorem upholds_barrierRests {st : BarrierState} (hn : c.lanes n) (hst : st ≠ .lowering) :
    Upholds c s (s.barrierRests n st) := by
  unfold State.barrierRests
  exact ((upholds_stop hn hst).trans
    (.iteSelf fun _ => upholds_enterIdle hn)).trans (upholds_seek hn)

/-! ### Decks -/

theorem upholds_setSettling {m : Settling} (hn : c.lanes n) : Upholds c s (s.setSettling n m) := by
  unfold State.setSettling
  exact (upholds_modDeck hn).trans (.iteSelf fun _ => upholds_modLane hn)

theorem upholds_dropParts (hn : c.lanes n) : Upholds c s (s.dropParts n) := by
  unfold State.dropParts
  refine .iteSelf fun _ => ?_
  dsimp only
  exact .ite (fun _ => upholds_modLane hn) fun _ => (upholds_modLane hn).trans upholds_post

theorem upholds_becomeInvalid (hn : c.lanes n) : Upholds c s (s.becomeInvalid n) :=
  (((((upholds_modDeck hn).trans (upholds_setSettling hn)).trans (upholds_dropParts hn)).trans
    (upholds_setOccupancy hn)).trans (upholds_laneSettle hn)).trans upholds_post

theorem upholds_postInvalid : ∀ (k : Nat) (s : State), Upholds c s (s.postInvalid n k)
  | 0, s => .refl c s
  | k + 1, _ => upholds_post.trans (upholds_postInvalid k _)

theorem upholds_abortOp {a : AbortCause} (hn : c.lanes n) : Upholds c s (s.abortOp n a) := by
  unfold State.abortOp
  split
  · exact .refl c s
  · exact (upholds_modDeck hn).trans upholds_post

theorem upholds_afterReasons {before : ReasonSet} (hn : c.lanes n) : Upholds c s (s.afterReasons n before) := by
  have turns : Upholds c s
      (if before.isEmpty && !(s.reasons n).isEmpty then s.becomeInvalid n
      else if !before.isEmpty && (s.reasons n).isEmpty then (s.post .deckValid (some n) .none .none).laneSettle n
      else s.postInvalid n (before.joined (s.reasons n))) :=
    .ite (fun _ => upholds_becomeInvalid hn) fun _ =>
      .ite (fun _ => upholds_post.trans (upholds_laneSettle hn)) fun _ => upholds_postInvalid _ s
  unfold State.afterReasons
  exact turns.trans (.iteSelf fun _ => upholds_abortOp hn)

/-- A zero offset moves within the limit of the present Max. -/
theorem upholds_moveZero {z : Int} (hn : c.lanes n) (hz : z.natAbs ≤ (s.cal n).max / 5) : Upholds c s (s.moveZero n z) := by
  unfold State.moveZero
  dsimp only
  exact ((upholds_modCal hn fun _ => hz).trans (upholds_modDeck hn)).trans (.iteSelf fun _ => upholds_modDeck hn)

theorem clampInt_natAbs_le {bound : Nat} {z : Int} : (clampInt (-bound) bound z).natAbs ≤ bound := by
  unfold clampInt
  split_ifs <;> omega

theorem upholds_trackZero (hn : c.lanes n) : Upholds c s (s.trackZero n) := by
  unfold State.trackZero
  split
  · exact .refl c s
  · next r _ =>
    refine .iteSelf fun _ => ?_
    have hbound := zeroBound_le (s := s) (n := n)
    dsimp only
    split
    · have moves : Upholds c s (s.moveZero n (clampInt (-(s.zeroBound n)) (s.zeroBound n) ((s.cal n).z + r.f))) :=
        upholds_moveZero hn (clampInt_natAbs_le.trans hbound)
      exact .ite (fun _ => moves) fun _ => (moves.trans (upholds_modDeck hn)).trans upholds_post
    · next hin =>
      refine upholds_moveZero hn ?_
      omega

theorem upholds_appendPart {r : Reading} (hn : c.lanes n) : Upholds c s (s.appendPart n r) :=
  .ite (fun _ => upholds_modLane hn) fun _ => upholds_modLane hn

theorem upholds_discardAged (hn : c.lanes n) : Upholds c s (s.discardAged n) := (upholds_modLane hn).trans upholds_post

theorem upholds_examineCapture (hn : c.lanes n) : Upholds c s (s.examineCapture n) := by
  unfold State.examineCapture
  split
  · exact .refl c s
  · refine .iteSelf fun _ => .ite (fun _ => ?_) fun _ => upholds_appendPart hn
    exact (upholds_discardAged hn).trans (.iteSelf fun _ => upholds_appendPart hn)

theorem upholds_workSample {cells : List Int} {e : Int} (hn : c.lanes n) : Upholds c s (s.workSample n cells e) :=
  (((upholds_modDeck hn).trans (upholds_setSettling hn)).trans (upholds_setOccupancy hn)).trans
    (upholds_examineCapture hn)

theorem upholds_calSucceeds {sub : CalSub} {f : DeckCal → DeckCal} (hn : c.lanes n)
    (hf : (s.cal n).z.natAbs ≤ (s.cal n).max / 5 → (f (s.cal n)).z.natAbs ≤ (f (s.cal n)).max / 5) :
    Upholds c s (s.calSucceeds n sub f) := by
  unfold State.calSucceeds
  dsimp only
  exact ((upholds_modCal (f := fun c => { f c with counter := c.counter + 1 }) hn hf).trans (upholds_modDeck hn)).trans
    upholds_post

theorem upholds_emptyFilter (hn : c.lanes n) : Upholds c s (s.emptyFilter n) :=
  (upholds_modDeck hn).trans (upholds_setSettling hn)

theorem upholds_zeroSucceeds {sums : List Int} {e : Int} (hn : c.lanes n) : Upholds c s (s.zeroSucceeds n sums e) :=
  ((((upholds_modDeck hn).trans (upholds_calSucceeds hn fun _ => Nat.zero_le _)).trans (upholds_emptyFilter hn)).trans
    (upholds_modDeck hn)).trans (upholds_afterReasons hn)

theorem upholds_spanEnds {load : Nat} {sum : Int} (hn : c.lanes n) : Upholds c s (s.spanEnds n load sum) := by
  unfold State.spanEnds
  refine .ite (fun _ => upholds_abortOp hn) fun _ => .ite (fun _ => upholds_abortOp hn) fun _ => ?_
  exact (((upholds_modDeck hn).trans (upholds_calSucceeds hn id)).trans (upholds_emptyFilter hn)).trans
    (upholds_afterReasons hn)

theorem upholds_countSample {op : CalOp} {cells : List Int} {e : Int} (hn : c.lanes n) :
    Upholds c s (s.countSample n op cells e) := by
  cases op with
  | zero => exact .ite (fun _ => upholds_abortOp hn) fun _ => .ite (fun _ => upholds_zeroSucceeds hn) fun _ => upholds_modDeck hn
  | span => exact .ite (fun _ => upholds_abortOp hn) fun _ => .ite (fun _ => upholds_spanEnds hn) fun _ => upholds_modDeck hn

theorem upholds_calSample {cells : List Int} {e : Int} (hn : c.lanes n) : Upholds c s (s.calSample n cells e) := by
  unfold State.calSample
  split
  · exact .refl c s
  · exact .iteSelf fun _ => upholds_countSample hn

theorem upholds_deliverSample {cells : List Int} {e : Int} (hn : c.lanes n) : Upholds c s (s.deliverSample n cells e) := by
  unfold State.deliverSample
  dsimp only
  refine ((upholds_modDeck hn).trans (upholds_afterReasons hn)).trans (.iteSelf fun _ => ?_)
  exact Upholds.trans (.iteSelf fun _ => upholds_workSample hn) (upholds_calSample hn)

theorem upholds_slotEnds {slot : Fin 16} {cells : List Int} {e : Int}
    (hn : ∀ n, s.acq.active.get slot = some n → c.lanes n) : Upholds c s (s.slotEnds slot cells e) := by
  unfold State.slotEnds
  dsimp only
  split
  · exact upholds_modAcq
  · next n hslot => exact .ite (fun _ => upholds_modAcq.trans (upholds_deliverSample (hn n hslot))) fun _ => upholds_modAcq

theorem upholds_frameStarts (hall : ∀ n, c.lanes n) : Upholds c s s.frameStarts :=
  upholds_modAcq.trans (.eachLane (fun _ m => (upholds_modDeck (hall m)).trans (upholds_afterReasons (hall m))) _)

end Sys2Proof.Proofs
end

section
/-! The open visits and what they have reserved (R134, R140, R141, R152): what a visit that comes, one that goes, and a
change that keeps every visit's dues leave of the sums. -/

namespace Sys2Proof.Proofs
open Sys2Proof Sys2Proof.Machine

theorem vector_get_set {α : Type} {k : Nat} (xs : Vector α k) (i j : Fin k) (x : α) :
    (xs.set i x).get j = if j = i then x else xs.get j := by
  change (xs.set i x)[j.val] = _
  rw [Vector.getElem_set]
  by_cases h : j = i
  · simp [h]
  · rw [if_neg h, if_neg fun hv => h (Fin.ext hv.symm)]; rfl

/-! ### The sums over the visits -/

/-- The blocks that the visits of one stream have reserved. -/
def reservedOf (vs : List Visit) (k : Fin 8) : Nat := ((vs.filter fun v => v.stream == k).map (·.blocks)).sum

/-- The estimates that the visits of one account have pending. -/
def pendingOf (vs : List Visit) (a : Fin 256) : Nat := ((vs.filter fun v => v.account == a).map (·.estimate)).sum

theorem reservedOf_cons (v : Visit) (vs : List Visit) (k : Fin 8) :
    reservedOf (v :: vs) k = (if k = v.stream then v.blocks else 0) + reservedOf vs k := by
  by_cases h : k = v.stream
  · simp [reservedOf, h]
  · simp [reservedOf, h, Ne.symm h]

theorem pendingOf_cons (v : Visit) (vs : List Visit) (a : Fin 256) :
    pendingOf (v :: vs) a = (if a = v.account then v.estimate else 0) + pendingOf vs a := by
  by_cases h : a = v.account
  · simp [pendingOf, h]
  · simp [pendingOf, h, Ne.symm h]

theorem reservedOf_perm {vs us : List Visit} (h : vs.Perm us) (k : Fin 8) : reservedOf vs k = reservedOf us k :=
  ((h.filter _).map _).sum_nat

theorem pendingOf_perm {vs us : List Visit} (h : vs.Perm us) (a : Fin 256) : pendingOf vs a = pendingOf us a :=
  ((h.filter _).map _).sum_nat

/-- A change of a visit that leaves all that is reckoned over it. -/
def KeepsDues (f : Visit → Visit) : Prop :=
  ∀ v, (f v).number = v.number ∧ (f v).token = v.token ∧ (f v).stream = v.stream ∧ (f v).account = v.account
    ∧ (f v).kind = v.kind ∧ (f v).blocks = v.blocks ∧ (f v).estimate = v.estimate

theorem keepsDues_at {f : Visit → Visit} (hf : KeepsDues f) (k : Nat) :
    KeepsDues fun v => if v.number = k then f v else v := by
  intro v
  dsimp only
  split
  · exact hf v
  · exact ⟨rfl, rfl, rfl, rfl, rfl, rfl, rfl⟩

theorem reservedOf_map {f : Visit → Visit} (hf : KeepsDues f) (vs : List Visit) (k : Fin 8) :
    reservedOf (vs.map f) k = reservedOf vs k := by
  induction vs with
  | nil => rfl
  | cons v vs ih =>
    obtain ⟨-, -, hs, -, -, hb, -⟩ := hf v
    rw [List.map_cons, reservedOf_cons, reservedOf_cons, ih, hs, hb]

theorem pendingOf_map {f : Visit → Visit} (hf : KeepsDues f) (vs : List Visit) (a : Fin 256) :
    pendingOf (vs.map f) a = pendingOf vs a := by
  induction vs with
  | nil => rfl
  | cons v vs ih =>
    obtain ⟨-, -, -, ha, -, -, he⟩ := hf v
    rw [List.map_cons, pendingOf_cons, pendingOf_cons, ih, ha, he]

/-! ### The table of visits -/

theorem insertVisit_perm (v : Visit) (vs : List Visit) : (insertVisit v vs).Perm (v :: vs) := by
  induction vs with
  | nil => exact .refl _
  | cons u us ih =>
    rw [insertVisit]
    split
    · exact .refl _
    · exact (ih.cons u).trans (.swap v u us)

theorem insertVisit_sorted {v : Visit} {vs : List Visit} (hs : (vs.map (·.number)).Pairwise (· < ·))
    (hv : ∀ u ∈ vs, u.number ≠ v.number) : ((insertVisit v vs).map (·.number)).Pairwise (· < ·) := by
  induction vs with
  | nil => exact List.pairwise_singleton _ _
  | cons u us ih =>
    obtain ⟨hu, hus⟩ := List.pairwise_cons.mp hs
    rw [insertVisit]
    split
    · next hlt =>
      refine List.pairwise_cons.mpr ⟨fun k hk => ?_, hs⟩
      rcases List.mem_cons.mp hk with rfl | hk
      · exact hlt
      · exact hlt.trans (hu k hk)
    · next hge =>
      refine List.pairwise_cons.mpr ⟨fun k hk => ?_, ih hus fun w hw => hv w (.tail _ hw)⟩
      obtain ⟨w, hw, rfl⟩ := List.mem_map.mp hk
      rcases List.mem_cons.mp ((insertVisit_perm v us).mem_iff.mp hw) with rfl | hw
      · exact lt_of_le_of_ne (Nat.le_of_not_lt hge) (hv u (.head _))
      · exact hu _ (List.mem_map_of_mem hw)

/-- A visit and the rest, where no two have one number. -/
theorem perm_cons_dropVisit {v : Visit} {vs : List Visit} (hs : (vs.map (·.number)).Pairwise (· < ·)) (hv : v ∈ vs) :
    vs.Perm (v :: dropVisit v.number vs) := by
  induction vs with
  | nil => cases hv
  | cons u us ih =>
    obtain ⟨hu, hus⟩ := List.pairwise_cons.mp hs
    rcases List.mem_cons.mp hv with rfl | hv
    · have hrest : dropVisit v.number us = us :=
        List.filter_eq_self.mpr fun w hw => by simpa using (hu _ (List.mem_map_of_mem hw)).ne'
      rw [dropVisit, List.filter_cons_of_neg (by simp), ← dropVisit, hrest]
    · have hne : u.number ≠ v.number := (hu _ (List.mem_map_of_mem hv)).ne
      rw [dropVisit, List.filter_cons_of_pos (by simpa using hne), ← dropVisit]
      exact ((ih hus hv).cons u).trans (.swap v u _)

theorem dropVisit_sublist (k : Nat) (vs : List Visit) : (dropVisit k vs).Sublist vs := List.filter_sublist

/-! ### The accounts kept -/

variable {r q : Retained} {v : Visit}

/-- A change of the visits that keeps their dues, with the totals as they were. -/
theorem visitsAccounted_kept {f : Visit → Visit} (hf : KeepsDues f) (hr : r.VisitsAccounted)
    (hvisits : q.traffic.visits = r.traffic.visits.map f) (hcounter : q.traffic.counter = r.traffic.counter)
    (hreserved : ∀ k, (q.traffic.streams.get k).reserved = (r.traffic.streams.get k).reserved)
    (hpending : ∀ a, (q.ident.accounts.get a).pending = (r.ident.accounts.get a).pending) : q.VisitsAccounted := by
  obtain ⟨hlen, hsorted, htokens, hrange, hkind, hstreams, haccounts, hcount⟩ := hr
  have hnumbers : (q.traffic.visits.map (·.number)) = r.traffic.visits.map (·.number) := by
    rw [hvisits, List.map_map]
    exact List.map_congr_left fun v _ => (hf v).1
  have htoken : (q.traffic.visits.map (·.token)) = r.traffic.visits.map (·.token) := by
    rw [hvisits, List.map_map]
    exact List.map_congr_left fun v _ => (hf v).2.1
  refine ⟨by rw [hvisits, List.length_map]; exact hlen, by rw [hnumbers]; exact hsorted, by rw [htoken]; exact htokens,
    fun u hu => ?_, fun u hu => ?_, fun k => ?_, fun a => ?_, by rw [hcounter]; exact hcount⟩
  · rw [hvisits] at hu
    obtain ⟨v, hv, rfl⟩ := List.mem_map.mp hu
    rw [(hf v).1]
    exact hrange v hv
  · rw [hvisits] at hu
    obtain ⟨v, hv, rfl⟩ := List.mem_map.mp hu
    obtain ⟨-, -, -, -, hk, hb, he⟩ := hf v
    rw [hk, hb, he]
    exact hkind v hv
  · rw [hreserved, hstreams, hvisits]
    exact (reservedOf_map hf _ k).symm
  · rw [hpending, haccounts, hvisits]
    exact (pendingOf_map hf _ a).symm

/-- A visit that comes, under a number and a token of its own, adds what it reserves (R145, R148). -/
theorem visitsAccounted_come (hr : r.VisitsAccounted) (hroom : r.traffic.visits.length < 64)
    (hfresh : ∀ u ∈ r.traffic.visits, u.number ≠ v.number) (hnumber : 1 ≤ v.number ∧ v.number ≤ 65535)
    (htoken : ∀ u ∈ r.traffic.visits, u.token ≠ v.token) (hkind : v.kind = .collection → v.blocks = 0 ∧ v.estimate = 0)
    (hvisits : q.traffic.visits = insertVisit v r.traffic.visits) (hcounter : q.traffic.counter = v.number)
    (hreserved : ∀ k, (q.traffic.streams.get k).reserved
      = (if k = v.stream then v.blocks else 0) + (r.traffic.streams.get k).reserved)
    (hpending : ∀ a, (q.ident.accounts.get a).pending
      = (if a = v.account then v.estimate else 0) + (r.ident.accounts.get a).pending) : q.VisitsAccounted := by
  obtain ⟨hlen, hsorted, htokens, hrange, hkinds, hstreams, haccounts, -⟩ := hr
  have hperm : q.traffic.visits.Perm (v :: r.traffic.visits) := hvisits ▸ insertVisit_perm v _
  refine ⟨?_, ?_, ?_, fun u hu => ?_, fun u hu => ?_, fun k => ?_, fun a => ?_, hcounter ▸ hnumber.2⟩
  · rw [hperm.length_eq, List.length_cons]
    omega
  · rw [hvisits]
    exact insertVisit_sorted hsorted hfresh
  · refine (hperm.map _).nodup_iff.mpr (List.nodup_cons.mpr ⟨fun hmem => ?_, htokens⟩)
    obtain ⟨u, hu, heq⟩ := List.mem_map.mp hmem
    exact htoken u hu heq
  · rcases List.mem_cons.mp (hperm.mem_iff.mp hu) with rfl | hu
    · exact hnumber
    · exact hrange u hu
  · rcases List.mem_cons.mp (hperm.mem_iff.mp hu) with rfl | hu
    · exact hkind
    · exact hkinds u hu
  · rw [hreserved, hstreams]
    exact ((reservedOf_perm hperm k).trans (reservedOf_cons v _ k)).symm
  · rw [hpending, haccounts]
    exact ((pendingOf_perm hperm a).trans (pendingOf_cons v _ a)).symm

/-- A visit that goes takes away what it had reserved (R152, R159). -/
theorem visitsAccounted_gone (hr : r.VisitsAccounted) (hv : v ∈ r.traffic.visits)
    (hvisits : q.traffic.visits = dropVisit v.number r.traffic.visits) (hcounter : q.traffic.counter = r.traffic.counter)
    (hreserved : ∀ k, (q.traffic.streams.get k).reserved
      = (r.traffic.streams.get k).reserved - if k = v.stream then v.blocks else 0)
    (hpending : ∀ a, (q.ident.accounts.get a).pending
      = (r.ident.accounts.get a).pending - if a = v.account then v.estimate else 0) : q.VisitsAccounted := by
  obtain ⟨hlen, hsorted, htokens, hrange, hkinds, hstreams, haccounts, hcount⟩ := hr
  have hperm : r.traffic.visits.Perm (v :: q.traffic.visits) := hvisits ▸ perm_cons_dropVisit hsorted hv
  have hsub : q.traffic.visits.Sublist r.traffic.visits := hvisits ▸ dropVisit_sublist _ _
  refine ⟨hsub.length_le.trans hlen, hsorted.sublist (hsub.map _), htokens.sublist (hsub.map _),
    fun u hu => hrange u (hsub.mem hu), fun u hu => hkinds u (hsub.mem hu), fun k => ?_, fun a => ?_, hcounter ▸ hcount⟩
  · have hsum : (r.traffic.streams.get k).reserved
        = (if k = v.stream then v.blocks else 0) + reservedOf q.traffic.visits k :=
      (hstreams k).trans ((reservedOf_perm hperm k).trans (reservedOf_cons v _ k))
    rw [hreserved, hsum, Nat.add_sub_cancel_left]
    rfl
  · have hsum : (r.ident.accounts.get a).pending
        = (if a = v.account then v.estimate else 0) + pendingOf q.traffic.visits a :=
      (haccounts a).trans ((pendingOf_perm hperm a).trans (pendingOf_cons v _ a))
    rw [hpending, hsum, Nat.add_sub_cancel_left]
    rfl

/-! ### The number a visit takes (R141) -/

theorem nextNumber_iterate {k : Nat} (hlo : 1 ≤ k) (hhi : k ≤ 65535) (j : Nat) :
    nextNumber^[j] k = (k - 1 + j) % 65535 + 1 := by
  induction j with
  | zero => rw [Function.iterate_zero, id, Nat.add_zero, Nat.mod_eq_of_lt (by omega)]; omega
  | succ j ih =>
    rw [Function.iterate_succ_apply', ih, nextNumber, Config.visitNumberMax]
    split <;> omega

theorem nextNumber_range (k : Nat) : 1 ≤ nextNumber k ∧ nextNumber k ≤ 65535 := by
  rw [nextNumber, Config.visitNumberMax]
  split <;> omega

/-- The numbers asked in order, up to a limit, are `nextNumber` taken again and again. -/
theorem freeNumber_eq_iterate (vs : List Visit) (fuel k : Nat) :
    ∃ j ≤ fuel, freeNumber vs fuel k = nextNumber^[j] k ∧ ∀ i < j, ∃ v ∈ vs, v.number = nextNumber^[i] k := by
  induction fuel generalizing k with
  | zero => exact ⟨0, le_rfl, rfl, nofun⟩
  | succ fuel ih =>
    rw [freeNumber]
    split
    · next hused =>
      obtain ⟨j, hj, heq, hbefore⟩ := ih (nextNumber k)
      refine ⟨j + 1, by omega, heq, fun i hi => ?_⟩
      cases i with
      | zero => simpa using hused
      | succ i => exact hbefore i (by omega)
    · exact ⟨0, by omega, rfl, nofun⟩

/-- A number that is still in use after the limit has seen that many others in use before it. -/
theorem freeNumber_used {vs : List Visit} {fuel k : Nat} (h : ∃ v ∈ vs, v.number = freeNumber vs fuel k) :
    ∀ j ≤ fuel, ∃ v ∈ vs, v.number = nextNumber^[j] k := by
  induction fuel generalizing k with
  | zero =>
    intro j hj
    rw [Nat.le_zero.mp hj]
    exact h
  | succ fuel ih =>
    rw [freeNumber] at h
    split at h
    · next hused =>
      intro j hj
      cases j with
      | zero => simpa using hused
      | succ j => exact ih h j (by omega)
    · next hfree =>
      obtain ⟨v, hv, heq⟩ := h
      exact absurd (List.any_eq_true.mpr ⟨v, hv, by simpa using heq⟩) hfree

/-- Among 66 numbers in a row one is free, since 64 visits are open at most. -/
theorem freeNumber_fresh {vs : List Visit} {k : Nat} (hlen : vs.length ≤ 64) (hlo : 1 ≤ k) (hhi : k ≤ 65535) :
    ∀ v ∈ vs, v.number ≠ freeNumber vs 65 k := by
  intro v hv heq
  have hused := freeNumber_used ⟨v, hv, heq⟩
  have hsub : (Finset.range 66).image (fun j => nextNumber^[j] k) ⊆ (vs.map (·.number)).toFinset := by
    intro m hm
    obtain ⟨j, hj, rfl⟩ := Finset.mem_image.mp hm
    obtain ⟨u, hu, hnum⟩ := hused j (by have := Finset.mem_range.mp hj; omega)
    exact List.mem_toFinset.mpr (List.mem_map.mpr ⟨u, hu, hnum⟩)
  have hinj : Set.InjOn (fun j => nextNumber^[j] k) (Finset.range 66) := by
    intro i hi j hj hij
    have hi' := Finset.mem_range.mp hi
    have hj' := Finset.mem_range.mp hj
    simp only [nextNumber_iterate hlo hhi] at hij
    omega
  have hcard := Finset.card_le_card hsub
  rw [Finset.card_image_of_injOn hinj, Finset.card_range] at hcard
  have hle := List.toFinset_card_le (vs.map (·.number))
  rw [List.length_map] at hle
  omega

/-- The next visit's number: in range, and in use by no open visit (R141). -/
theorem nextVisit_fresh {s : State} (hlen : s.ret.traffic.visits.length ≤ 64) :
    (1 ≤ s.nextVisit ∧ s.nextVisit ≤ 65535) ∧ ∀ v ∈ s.ret.traffic.visits, v.number ≠ s.nextVisit := by
  obtain ⟨hlo, hhi⟩ := nextNumber_range s.ret.traffic.counter
  refine ⟨?_, freeNumber_fresh hlen hlo hhi⟩
  obtain ⟨j, -, heq, -⟩ := freeNumber_eq_iterate s.ret.traffic.visits (Config.visitMax + 1)
    (nextNumber s.ret.traffic.counter)
  rw [State.nextVisit, heq, nextNumber_iterate hlo hhi]
  omega

end Sys2Proof.Proofs
end

section
/-! The vehicle table (R120, R123), the journal (R169, R170), the print queue (R174, R176, R177) and the waiting lists
(R96): what each operation on them leaves of their invariants. -/

namespace Sys2Proof.Proofs
open Sys2Proof Sys2Proof.Machine

/-! ### The vehicle table -/

/-- Whether an entry counts as PROVISIONAL. -/
def provisionalOf (v : Vehicle) : Nat := if v.origin = .provisional then 1 else 0

theorem countP_provisional_cons (v : Vehicle) (vs : List Vehicle) :
    (v :: vs).countP (fun v => v.origin == .provisional)
      = provisionalOf v + vs.countP fun v => v.origin == .provisional := by
  rw [List.countP_cons, provisionalOf, Nat.add_comm]
  simp

theorem dropVehicle_sublist (x : Token) (vs : List Vehicle) : (dropVehicle x vs).Sublist vs := List.filter_sublist

theorem dropVehicle_of_not_mem {x : Token} {vs : List Vehicle} (h : ∀ u ∈ vs, u.token ≠ x) : dropVehicle x vs = vs :=
  List.filter_eq_self.mpr fun u hu => by simpa using h u hu

/-- Writing an entry puts it beside the entries of the other tokens. -/
theorem putVehicle_perm {v : Vehicle} {vs : List Vehicle} (hs : (vs.map (·.token.toNat)).Pairwise (· < ·)) :
    (putVehicle v vs).Perm (v :: dropVehicle v.token vs) := by
  induction vs with
  | nil => exact .refl _
  | cons u us ih =>
    obtain ⟨hu, hus⟩ := List.pairwise_cons.mp hs
    have hlater : ∀ w ∈ us, u.token.toNat < w.token.toNat := fun w hw => hu _ (List.mem_map_of_mem hw)
    rw [putVehicle]
    split
    · next heq =>
      rw [dropVehicle, List.filter_cons_of_neg (by simp [heq]), ← dropVehicle, dropVehicle_of_not_mem]
      intro w hw hwv
      have := hlater w hw
      rw [heq, hwv] at this
      omega
    · next hne =>
      split
      · next hlt =>
        rw [dropVehicle_of_not_mem]
        intro w hw hwv
        rcases List.mem_cons.mp hw with rfl | hw
        · exact hne hwv
        · have := hlater w hw
          rw [hwv] at this
          omega
      · rw [dropVehicle, List.filter_cons_of_pos (by simpa using hne), ← dropVehicle]
        exact ((ih hus).cons u).trans (.swap v u _)

theorem putVehicle_sorted {v : Vehicle} {vs : List Vehicle} (hs : (vs.map (·.token.toNat)).Pairwise (· < ·)) :
    ((putVehicle v vs).map (·.token.toNat)).Pairwise (· < ·) := by
  induction vs with
  | nil => exact List.pairwise_singleton _ _
  | cons u us ih =>
    obtain ⟨hu, hus⟩ := List.pairwise_cons.mp hs
    rw [putVehicle]
    split
    · next heq =>
      rw [List.map_cons, heq] at hs
      exact hs
    · next hne =>
      split
      · next hlt =>
        refine List.pairwise_cons.mpr ⟨fun k hk => ?_, hs⟩
        rcases List.mem_cons.mp hk with rfl | hk
        · exact hlt
        · exact hlt.trans (hu k hk)
      · next hge =>
        refine List.pairwise_cons.mpr ⟨fun k hk => ?_, ih hus⟩
        obtain ⟨w, hw, rfl⟩ := List.mem_map.mp hk
        rcases List.mem_cons.mp ((putVehicle_perm hus).mem_iff.mp hw) with rfl | hw
        · exact lt_of_le_of_ne (Nat.le_of_not_lt hge) fun h => hne (BitVec.eq_of_toNat_eq h)
        · exact hu _ (List.mem_map_of_mem ((dropVehicle_sublist _ _).mem hw))

/-- An entry and the rest, where no two have one token. -/
theorem perm_cons_dropVehicle {v : Vehicle} {vs : List Vehicle} (hs : (vs.map (·.token.toNat)).Pairwise (· < ·))
    (hv : v ∈ vs) : vs.Perm (v :: dropVehicle v.token vs) := by
  induction vs with
  | nil => cases hv
  | cons u us ih =>
    obtain ⟨hu, hus⟩ := List.pairwise_cons.mp hs
    have hlater : ∀ w ∈ us, u.token ≠ w.token := fun w hw h => by
      have := hu _ (List.mem_map_of_mem hw)
      simp only [h, lt_irrefl] at this
    rcases List.mem_cons.mp hv with rfl | hv
    · rw [dropVehicle, List.filter_cons_of_neg (by simp), ← dropVehicle,
        dropVehicle_of_not_mem fun w hw => (hlater w hw).symm]
    · rw [dropVehicle, List.filter_cons_of_pos (by simpa using hlater v hv), ← dropVehicle]
      exact ((ih hus hv).cons u).trans (.swap v u _)

variable {r q : Retained} {v : Vehicle}

/-- A change of the entries that keeps tokens and origins. -/
theorem provisionalCounted_kept {f : Vehicle → Vehicle} (hf : ∀ v, (f v).token = v.token ∧ (f v).origin = v.origin)
    (hr : r.ProvisionalCounted) (hvehicles : q.ident.vehicles = r.ident.vehicles.map f)
    (hcount : q.ident.provisional = r.ident.provisional) (hlimit : q.settings.learnLimit = r.settings.learnLimit) :
    q.ProvisionalCounted := by
  obtain ⟨hlen, hsorted, hright, hle⟩ := hr
  refine ⟨by rw [hvehicles, List.length_map]; exact hlen, ?_, ?_, by rw [hcount, hlimit]; exact hle⟩
  · have htokens : q.ident.vehicles.map (·.token.toNat) = r.ident.vehicles.map (·.token.toNat) := by
      rw [hvehicles, List.map_map]
      exact List.map_congr_left fun v _ => congrArg BitVec.toNat (hf v).1
    rw [htokens]
    exact hsorted
  · rw [hcount, hright, hvehicles, List.countP_map]
    exact List.countP_congr fun v _ => by simp [(hf v).2]

/-- An entry written for a token without one. -/
theorem provisionalCounted_added (hr : r.ProvisionalCounted) (hroom : r.ident.vehicles.length < 512)
    (hfresh : ∀ u ∈ r.ident.vehicles, u.token ≠ v.token) (hvehicles : q.ident.vehicles = putVehicle v r.ident.vehicles)
    (hcount : q.ident.provisional = provisionalOf v + r.ident.provisional)
    (hle : q.ident.provisional ≤ q.settings.learnLimit) : q.ProvisionalCounted := by
  obtain ⟨-, hsorted, hright, -⟩ := hr
  have hperm : q.ident.vehicles.Perm (v :: r.ident.vehicles) := by
    rw [hvehicles]
    exact (putVehicle_perm hsorted).trans (by rw [dropVehicle_of_not_mem hfresh])
  refine ⟨by rw [hperm.length_eq, List.length_cons]; omega, hvehicles ▸ putVehicle_sorted hsorted, ?_, hle⟩
  rw [hcount, hright, hperm.countP_eq, countP_provisional_cons]

/-- An entry taken out of the table. -/
theorem provisionalCounted_dropped (hr : r.ProvisionalCounted) (hv : v ∈ r.ident.vehicles)
    (hvehicles : q.ident.vehicles = dropVehicle v.token r.ident.vehicles)
    (hcount : q.ident.provisional = r.ident.provisional - provisionalOf v)
    (hlimit : q.settings.learnLimit = r.settings.learnLimit) : q.ProvisionalCounted := by
  obtain ⟨hlen, hsorted, hright, hle⟩ := hr
  have hperm := perm_cons_dropVehicle hsorted hv
  have hsub := dropVehicle_sublist v.token r.ident.vehicles
  rw [hperm.countP_eq, countP_provisional_cons] at hright
  refine ⟨hvehicles ▸ hsub.length_le.trans hlen, hvehicles ▸ hsorted.sublist (hsub.map _), ?_, by omega⟩
  rw [hcount, hright, Nat.add_sub_cancel_left, hvehicles]

/-- An entry written over that of its token. -/
theorem provisionalCounted_replaced {u : Vehicle} (hr : r.ProvisionalCounted) (hu : u ∈ r.ident.vehicles)
    (htoken : u.token = v.token) (horigin : v.origin = .loaded)
    (hvehicles : q.ident.vehicles = putVehicle v r.ident.vehicles)
    (hcount : q.ident.provisional = r.ident.provisional - provisionalOf u)
    (hlimit : q.settings.learnLimit = r.settings.learnLimit) : q.ProvisionalCounted := by
  obtain ⟨hlen, hsorted, hright, hle⟩ := hr
  have hold := perm_cons_dropVehicle hsorted hu
  have hnew : q.ident.vehicles.Perm (v :: dropVehicle u.token r.ident.vehicles) :=
    hvehicles ▸ htoken ▸ putVehicle_perm hsorted
  have hzero : provisionalOf v = 0 := by rw [provisionalOf, horigin]; rfl
  rw [hold.countP_eq, countP_provisional_cons] at hright
  refine ⟨?_, hvehicles ▸ putVehicle_sorted hsorted, ?_, by omega⟩
  · rw [hnew.length_eq, List.length_cons]
    rw [hold.length_eq, List.length_cons] at hlen
    exact hlen
  · rw [hcount, hright, hnew.countP_eq, countP_provisional_cons, hzero, Nat.add_sub_cancel_left, Nat.zero_add]

theorem vehicleOf_eq_some {s : State} {x : Token} (h : s.vehicleOf x = some v) :
    v ∈ s.ret.ident.vehicles ∧ v.token = x :=
  ⟨List.mem_of_find?_eq_some h, by simpa using List.find?_some h⟩

theorem vehicleOf_eq_none {s : State} {x : Token} (h : s.vehicleOf x = none) : ∀ v ∈ s.ret.ident.vehicles, v.token ≠ x :=
  fun v hv => by simpa using List.find?_eq_none.mp h v hv

/-! ### The journal -/

/-- The number after a ticket's, as R169 wraps it. -/
theorem numbersRunTo_append {ks : List Nat} {k : Nat} (h : numbersRunTo ks k) :
    numbersRunTo (ks ++ [k]) (if k = 999999 then 1 else k + 1) := by
  induction ks with
  | nil => exact rfl
  | cons a as ih =>
    cases as with
    | nil => exact ⟨h, rfl⟩
    | cons b bs => exact ⟨h.1, ih h.2⟩

theorem numbersRunTo_of_append {gone kept : List Nat} {k : Nat} (h : numbersRunTo (gone ++ kept) k) :
    numbersRunTo kept k := by
  induction gone with
  | nil => exact h
  | cons a as ih =>
    refine ih ?_
    cases hrest : as ++ kept with
    | nil => trivial
    | cons b bs =>
      rw [List.cons_append, hrest] at h
      exact h.2

theorem nextTicket_eq {k : Nat} (h : k ≤ 999999) : nextTicket k = if k = 999999 then 1 else k + 1 := by
  rw [nextTicket, Config.ticketMax]
  split_ifs <;> omega

/-- A ticket of the counter's number joins the journal (R169). -/
theorem journalOrdered_joined {x : Ticket} (hr : r.JournalOrdered) (hroom : r.tickets.journal.length < 128)
    (hnumber : x.number = r.tickets.counter) (hjournal : q.tickets.journal = r.tickets.journal ++ [x])
    (hcounter : q.tickets.counter = nextTicket r.tickets.counter) : q.JournalOrdered := by
  obtain ⟨-, hrun, ⟨hlo, hhi⟩, hnumbers⟩ := hr
  rw [Retained.JournalOrdered, hjournal, hcounter, nextTicket_eq hhi]
  refine ⟨by rw [List.length_append, List.length_singleton]; omega, ?_, ?_, fun y hy => ?_⟩
  · rw [List.map_append, List.map_singleton, hnumber]
    exact numbersRunTo_append hrun
  · split <;> omega
  · rcases List.mem_append.mp hy with hy | hy
    · exact hnumbers y hy
    · rw [List.mem_singleton.mp hy, hnumber]
      exact ⟨hlo, hhi⟩

/-- A change of the tickets that keeps their numbers. -/
theorem journalOrdered_kept {f : Ticket → Ticket} (hf : ∀ x, (f x).number = x.number) (hr : r.JournalOrdered)
    (hjournal : q.tickets.journal = r.tickets.journal.map f) (hcounter : q.tickets.counter = r.tickets.counter) :
    q.JournalOrdered := by
  obtain ⟨hlen, hrun, hrange, hnumbers⟩ := hr
  rw [Retained.JournalOrdered, hjournal, hcounter]
  refine ⟨by rw [List.length_map]; exact hlen, ?_, hrange, fun y hy => ?_⟩
  · have hnum : r.tickets.journal.map ((·.number) ∘ f) = r.tickets.journal.map (·.number) :=
      List.map_congr_left fun x _ => hf x
    rw [List.map_map, hnum]
    exact hrun
  · obtain ⟨x, hx, rfl⟩ := List.mem_map.mp hy
    rw [hf]
    exact hnumbers x hx

/-- Tickets released from the oldest on (R171). -/
theorem journalOrdered_released {gone kept : List Ticket} (hr : r.JournalOrdered)
    (hsplit : r.tickets.journal = gone ++ kept) (hjournal : q.tickets.journal = kept)
    (hcounter : q.tickets.counter = r.tickets.counter) : q.JournalOrdered := by
  obtain ⟨hlen, hrun, hrange, hnumbers⟩ := hr
  rw [Retained.JournalOrdered, hjournal, hcounter]
  rw [hsplit] at hlen hrun hnumbers
  rw [List.length_append] at hlen
  rw [List.map_append] at hrun
  exact ⟨by omega, numbersRunTo_of_append hrun, hrange, fun y hy => hnumbers y (List.mem_append_right _ hy)⟩

theorem splitJournal_append {k : Nat} {ts gone kept : List Ticket} (h : splitJournal k ts = some (gone, kept)) :
    ts = gone ++ kept := by
  induction ts generalizing gone with
  | nil => cases h
  | cons x xs ih =>
    rw [splitJournal] at h
    split at h
    · cases h
      rfl
    · obtain ⟨⟨a, b⟩, hab, heq⟩ := Option.map_eq_some_iff.mp h
      cases heq
      rw [ih hab]
      rfl

/-! ### The print queue -/

/-- A print queue as R174 to R177 bound it, but for the job that holds the bus where any waits. -/
def JobsBounded (js : List PrintJob) : Prop :=
  (∀ n, js.countP (fun j => j.lane == n && !j.copy) ≤ 1) ∧ js.countP (fun j => j.copy) ≤ 4
    ∧ js.countP (fun j => j.state != .queued) ≤ 1 ∧ ∀ j ∈ js, ∀ k, j.state = .sending k → k < 19

/-- Every job is a copy or the close job of one lane. -/
theorem length_eq_countP (js : List PrintJob) :
    js.length = js.countP (fun j => j.copy) + (Lane.all.map fun n => js.countP fun j => j.lane == n && !j.copy).sum := by
  induction js with
  | nil => rfl
  | cons j js ih =>
    rw [List.length_cons, ih]
    simp only [List.countP_cons, Lane.all, List.map_cons, List.map_nil, List.sum_cons, List.sum_nil]
    cases j.copy <;> cases j.lane <;> simp <;> omega

theorem length_le_of_jobsBounded {js : List PrintJob} (h : JobsBounded js) : js.length ≤ 8 := by
  obtain ⟨hlanes, hcopies, -⟩ := h
  have h1 := hlanes .one
  have h2 := hlanes .two
  have h3 := hlanes .three
  have h4 := hlanes .four
  rw [length_eq_countP]
  simp only [Lane.all, List.map_cons, List.map_nil, List.sum_cons, List.sum_nil]
  omega

theorem jobsBounded_of_bounded {s : State} (h : s.PrintQueueBounded) : JobsBounded s.printing.queue := by
  obtain ⟨-, hlanes, hcopies, hbus, -, hsending⟩ := h
  exact ⟨hlanes, hcopies, hbus, hsending⟩

theorem bounded_of_jobsBounded {s : State} (h : JobsBounded s.printing.queue)
    (hbus : s.printing.queue ≠ [] → ∃ j ∈ s.printing.queue, j.state ≠ .queued) : s.PrintQueueBounded :=
  ⟨length_le_of_jobsBounded h, h.1, h.2.1, h.2.2.1, hbus, h.2.2.2⟩

theorem jobsBounded_sublist {js ks : List PrintJob} (hsub : js.Sublist ks) (h : JobsBounded ks) : JobsBounded js := by
  obtain ⟨hlanes, hcopies, hbus, hsending⟩ := h
  exact ⟨fun n => (hsub.countP_le).trans (hlanes n), hsub.countP_le.trans hcopies, hsub.countP_le.trans hbus,
    fun j hj => hsending j (hsub.mem hj)⟩

theorem holdsBus_iff (j : PrintJob) : holdsBus j = true ↔ j.state ≠ .queued := by
  rw [holdsBus]
  cases j.state <;> simp

/-- The arbiter changes no more than the state of the first job. -/
theorem countP_grantFirst {p : PrintJob → Bool} (hp : ∀ j st, p { j with state := st } = p j) (js : List PrintJob) :
    (grantFirst js).countP p = js.countP p := by
  induction js with
  | nil => rfl
  | cons j js ih =>
    rw [grantFirst]
    split
    · rw [List.countP_cons, List.countP_cons, hp]
    · rw [List.countP_cons, List.countP_cons, ih]

/-- Where no job holds the bus, the arbiter gives it to the first. -/
theorem grantFirst_eq {j : PrintJob} {js : List PrintJob} (h : (j :: js).any holdsBus = false) :
    grantFirst (j :: js) = { j with state := .sending 0 } :: js := by
  have hj : j.state = .queued := by
    by_contra hne
    rw [List.any_cons, (holdsBus_iff j).mpr hne] at h
    cases h
  rw [grantFirst, if_pos hj]

/-- Once the arbiter has granted, a queue within its bounds is as R174 to R177 have it. -/
theorem granted_bounded {s : State} {js : List PrintJob} (hq : s.printing.queue = granted js) (h : JobsBounded js) :
    s.PrintQueueBounded := by
  refine bounded_of_jobsBounded ?_ ?_
  · rw [hq, granted]
    split
    · exact h
    · next hnone =>
      obtain ⟨hlanes, hcopies, -, hsending⟩ := h
      cases js with
      | nil => exact ⟨fun _ => Nat.zero_le _, Nat.zero_le _, Nat.zero_le _, List.forall_mem_nil _⟩
      | cons j js =>
        have hfalse := Bool.eq_false_iff.mpr hnone
        have hrest : js.countP (fun j => j.state != .queued) = 0 := by
          refine List.countP_eq_zero.mpr fun i hi hstate => ?_
          refine hnone (List.any_eq_true.mpr ⟨i, .tail _ hi, (holdsBus_iff i).mpr ?_⟩)
          simpa using hstate
        refine ⟨fun n => ?_, ?_, ?_, fun i hi k hk => ?_⟩
        · rw [countP_grantFirst fun _ _ => rfl]
          exact hlanes n
        · rw [countP_grantFirst fun _ _ => rfl]
          exact hcopies
        · rw [grantFirst_eq hfalse, List.countP_cons, hrest]
          split <;> omega
        · rw [grantFirst_eq hfalse] at hi
          rcases List.mem_cons.mp hi with rfl | hi
          · cases hk
            omega
          · exact hsending i (.tail _ hi) k hk
  · rw [hq, granted]
    split
    · next hany =>
      obtain ⟨j, hj, hbus⟩ := List.any_eq_true.mp hany
      exact fun _ => ⟨j, hj, (holdsBus_iff j).mp hbus⟩
    · next hnone =>
      cases js with
      | nil => exact fun hne => absurd rfl hne
      | cons j js =>
        rw [grantFirst_eq (Bool.eq_false_iff.mpr hnone)]
        exact fun _ => ⟨_, .head _, nofun⟩

/-- A change of the printing that leaves the queue. -/
theorem bounded_of_queue_eq {s t : State} (hq : t.printing.queue = s.printing.queue) (h : s.PrintQueueBounded) :
    t.PrintQueueBounded := by
  rw [State.PrintQueueBounded, hq]
  exact h

/-- A queued job that joins is a close job for a lane without one, or a copy where there is room (R174, R175). -/
theorem jobsBounded_append {js : List PrintJob} {x : PrintJob} (h : JobsBounded js) (hqueued : x.state = .queued)
    (hclose : x.copy = false → js.countP (fun j => j.lane == x.lane && !j.copy) = 0)
    (hcopy : x.copy = true → js.countP (fun j => j.copy) < 4) : JobsBounded (js ++ [x]) := by
  obtain ⟨hlanes, hcopies, hbus, hsending⟩ := h
  refine ⟨fun n => ?_, ?_, ?_, fun j hj k hk => ?_⟩
  · rw [List.countP_append, List.countP_singleton]
    split
    · next hx =>
      obtain ⟨hlane, hno⟩ : x.lane = n ∧ x.copy = false := by simpa using hx
      rw [← hlane, hclose hno]
    · exact hlanes n
  · rw [List.countP_append, List.countP_singleton]
    split
    · next hx => exact hcopy hx
    · exact hcopies
  · rw [List.countP_append, List.countP_singleton, hqueued]
    exact hbus
  · rcases List.mem_append.mp hj with hj | hj
    · exact hsending j hj k hk
    · rw [List.mem_singleton.mp hj, hqueued] at hk
      cases hk

/-- The job that holds the bus moves on to another state of holding it. -/
theorem bounded_setBusJob {s : State} {st : JobState} (hst : st ≠ .queued) (hk : ∀ k, st = .sending k → k < 19)
    (h : s.PrintQueueBounded) : (s.setBusJob st).PrintQueueBounded := by
  obtain ⟨hlanes, hcopies, hbus, hsending⟩ := jobsBounded_of_bounded h
  have hstate : ∀ j : PrintJob, (if holdsBus j then { j with state := st } else j).state ≠ .queued ↔ j.state ≠ .queued := by
    intro j
    split
    · next hj => exact ⟨fun _ => (holdsBus_iff j).mp hj, fun _ => hst⟩
    · exact Iff.rfl
  have hq : (s.setBusJob st).printing.queue
      = s.printing.queue.map fun q => if holdsBus q then { q with state := st } else q := rfl
  refine bounded_of_jobsBounded ⟨fun n => ?_, ?_, ?_, fun j hj k hjk => ?_⟩ ?_
  · rw [hq, List.countP_map]
    refine le_of_eq_of_le (List.countP_congr fun j _ => ?_) (hlanes n)
    rw [Function.comp_apply]
    split <;> rfl
  · rw [hq, List.countP_map]
    refine le_of_eq_of_le (List.countP_congr fun j _ => ?_) hcopies
    rw [Function.comp_apply]
    split <;> rfl
  · rw [hq, List.countP_map]
    refine le_of_eq_of_le (List.countP_congr fun j _ => ?_) hbus
    simpa using hstate j
  · rw [hq] at hj
    obtain ⟨i, hi, rfl⟩ := List.mem_map.mp hj
    split at hjk
    · exact hk k hjk
    · exact hsending i hi k hjk
  · intro hne
    obtain ⟨j, hj, hjs⟩ := h.2.2.2.2.1 fun hnil => hne (by rw [hq, hnil]; rfl)
    exact ⟨_, hq ▸ List.mem_map_of_mem hj, (hstate j).mpr hjs⟩

/-! ### The waiting lists -/

/-- No token stands in the lists twice: none in one list, and none in two. -/
theorem nodup_lists_iff (f : Lane → List WaitEntry) :
    ((Lane.all.flatMap f).map (·.token)).Nodup ↔
      (∀ n, ((f n).map (·.token)).Nodup) ∧ ∀ n m, n ≠ m → ((f n).map (·.token)).Disjoint ((f m).map (·.token)) := by
  rw [List.map_flatMap, List.nodup_flatMap]
  constructor
  · rintro ⟨hnodup, hdisjoint⟩
    have hmem : ∀ n : Lane, n ∈ Lane.all := fun n => by cases n <;> decide
    have hsymm : Std.Symm (Function.onFun List.Disjoint fun n => (f n).map (·.token)) :=
      ⟨fun _ _ h => List.Disjoint.symm h⟩
    exact ⟨fun n => hnodup n (hmem n), fun n m hne => hdisjoint.forall (hmem n) (hmem m) hne⟩
  · rintro ⟨hnodup, hdisjoint⟩
    refine ⟨fun n _ => hnodup n, ?_⟩
    have hlanes : Lane.all.Pairwise (· ≠ ·) := by decide
    exact hlanes.imp fun hne => hdisjoint _ _ hne

/-- Lists of which each lost entries, or had entries changed under their tokens, keep within their depths. -/
theorem listsWithinDepth_sublist {s t : State} (hsub : ∀ n, ((t.list n).map (·.token)).Sublist ((s.list n).map (·.token)))
    (hdepth : ∀ n, (t.laneSettings n).depth = (s.laneSettings n).depth) (h : s.ListsWithinDepth) : t.ListsWithinDepth := by
  obtain ⟨hlen, hnodup⟩ := h
  refine ⟨fun n => ?_, ?_⟩
  · have hle := (hsub n).length_le
    rw [List.length_map, List.length_map] at hle
    rw [hdepth]
    exact hle.trans (hlen n)
  · obtain ⟨heach, hdisjoint⟩ := (nodup_lists_iff s.list).mp hnodup
    refine (nodup_lists_iff t.list).mpr ⟨fun n => (heach n).sublist (hsub n), fun n m hne x hx hy => ?_⟩
    exact hdisjoint n m hne ((hsub n).mem hx) ((hsub m).mem hy)

/-- An entry that joins a list with room, its token standing in none. -/
theorem listsWithinDepth_joined {s t : State} {n : Lane} {e : WaitEntry}
    (hjoin : t.list n = s.list n ++ [e]) (hothers : ∀ m, m ≠ n → t.list m = s.list m)
    (hdepth : ∀ m, (t.laneSettings m).depth = (s.laneSettings m).depth)
    (hroom : (s.list n).length < (s.laneSettings n).depth) (hfresh : ∀ m, ∀ x ∈ s.list m, x.token ≠ e.token)
    (h : s.ListsWithinDepth) : t.ListsWithinDepth := by
  obtain ⟨hlen, hnodup⟩ := h
  obtain ⟨heach, hdisjoint⟩ := (nodup_lists_iff s.list).mp hnodup
  have hnot : ∀ m, e.token ∉ (s.list m).map (·.token) := fun m hmem => by
    obtain ⟨x, hx, heq⟩ := List.mem_map.mp hmem
    exact hfresh m x hx heq
  have htokens : ∀ m, ∀ x ∈ (t.list m).map (·.token), x ∈ (s.list m).map (·.token) ∨ (m = n ∧ x = e.token) := by
    intro m x hx
    by_cases hm : m = n
    · subst hm
      rw [hjoin, List.map_append] at hx
      rcases List.mem_append.mp hx with hx | hx
      · exact .inl hx
      · exact .inr ⟨rfl, List.mem_singleton.mp hx⟩
    · rw [hothers m hm] at hx
      exact .inl hx
  refine ⟨fun m => ?_, (nodup_lists_iff t.list).mpr ⟨fun m => ?_, fun m k hne x hx hy => ?_⟩⟩
  · rw [hdepth]
    by_cases hm : m = n
    · subst hm
      rw [hjoin, List.length_append, List.length_singleton]
      omega
    · rw [hothers m hm]
      exact hlen m
  · by_cases hm : m = n
    · subst hm
      rw [hjoin, List.map_append, List.map_singleton]
      exact List.nodup_append.mpr ⟨heach m, List.nodup_singleton _, fun a ha b hb hab =>
        hnot m (List.mem_singleton.mp hb ▸ hab ▸ ha)⟩
    · rw [hothers m hm]
      exact heach m
  · rcases htokens m x hx with hx | ⟨rfl, rfl⟩
    · rcases htokens k x hy with hy | ⟨rfl, rfl⟩
      · exact hdisjoint m k hne hx hy
      · exact hnot m hx
    · rcases htokens k _ hy with hy | ⟨rfl, -⟩
      · exact hnot k hy
      · exact hne rfl

end Sys2Proof.Proofs
end

section
/-! What the operations on visits, tokens, tickets and jobs uphold. -/

namespace Sys2Proof.Proofs
open Sys2Proof Sys2Proof.Machine

variable {c : Scope} {s t u : State} {n : Lane}

/-! ### Visits -/

theorem visitNumbered_eq_some {k : Nat} {v : Visit} (h : s.visitNumbered k = some v) :
    v ∈ s.ret.traffic.visits ∧ v.number = k :=
  ⟨List.mem_of_find?_eq_some h, by simpa using List.find?_some h⟩

theorem laneVisit_mem {v : Visit} (h : s.laneVisit n = some v) : v ∈ s.ret.traffic.visits := by
  obtain ⟨k, -, hk⟩ := Option.bind_eq_some_iff.mp h
  exact (visitNumbered_eq_some hk).1

theorem visitNaming_eq_none {x : Token} (h : s.visitNaming x = none) : ∀ v ∈ s.ret.traffic.visits, v.token ≠ x :=
  fun v hv => by simpa using List.find?_eq_none.mp h v hv

theorem upholds_modVisit {k : Nat} {f : Visit → Visit} (hf : KeepsDues f) : Upholds c s (s.modVisit k f) :=
  upholds_modTraffic fun _ hr =>
    visitsAccounted_kept (keepsDues_at hf k) hr rfl rfl (fun _ => rfl) fun _ => rfl

theorem upholds_modAccount {a : Fin 256} {f : Account → Account} (hf : (f (s.account a)).pending = (s.account a).pending) :
    Upholds c s (s.modAccount a f) :=
  upholds_modIdent
    (fun b => by
      dsimp only
      rw [vector_get_set]
      split
      · next hb => subst hb; exact hf
      · rfl)
    fun _ hr => hr

theorem upholds_postCrossed {k : Fin 8} : ∀ (ls : List (Nat × Bool)) (s : State), Upholds c s (s.postCrossed k ls)
  | [], s => .refl c s
  | _ :: ls, _ => upholds_post.trans (upholds_postCrossed ls _)

theorem upholds_judgeLevels {k : Fin 8} {before : Nat} : Upholds c s (s.judgeLevels k before) := upholds_postCrossed _ _

/-- A change of one stream's totals and one account, with the visits, is one retained update after another. -/
theorem upholds_modTraffic_modAccount {f : Traffic → Traffic} {a : Fin 256} {g : Account → Account}
    (hv : c.visits → s.ret.VisitsAccounted → ((s.modTraffic f).modAccount a g).ret.VisitsAccounted) :
    Upholds c s ((s.modTraffic f).modAccount a g) := by
  apply Upholds.of_keeps (p := { traffic := true, ident := true }) ((keeps_modTraffic rfl).trans (keeps_modAccount rfl))
  case visits => exact fun _ => hv
  case table => exact fun _ _ hr => hr
  case stored => exact fun _ => .inr ⟨rfl, rfl⟩
  all_goals (intro h; cases h)

theorem modAccount_pending {a b : Fin 256} {g : Account → Account} :
    ((s.modAccount a g).ret.ident.accounts.get b).pending
      = if b = a then (g (s.account b)).pending else (s.account b).pending := by
  change ((s.ret.ident.accounts.set a (g (s.ret.ident.accounts.get a))).get b).pending = _
  rw [vector_get_set]
  split
  · next hb => subst hb; rfl
  · rfl

theorem modStream_reserved {x : Traffic} {i k : Fin 8} {g : StreamTotals → StreamTotals} :
    ((x.modStream i g).streams.get k).reserved
      = if k = i then (g (x.streams.get k)).reserved else (x.streams.get k).reserved := by
  change ((x.streams.set i (g (x.streams.get i))).get k).reserved = _
  rw [vector_get_set]
  split
  · next hk => subst hk; rfl
  · rfl

theorem upholds_createVisit {v : Visit} (hnumber : v.number = s.nextVisit) (hroom : s.ret.traffic.visits.length < 64)
    (htoken : ∀ u ∈ s.ret.traffic.visits, u.token ≠ v.token) (hkind : v.kind = .collection → v.blocks = 0 ∧ v.estimate = 0) :
    Upholds c s (s.createVisit v) := by
  obtain ⟨hrange, hfresh⟩ := nextVisit_fresh (s := s) (by omega)
  rw [← hnumber] at hrange hfresh
  refine (upholds_modTraffic_modAccount fun _ hr => ?_).trans upholds_judgeLevels
  refine visitsAccounted_come hr hroom hfresh hrange htoken hkind rfl rfl (fun k => ?_) fun a => ?_
  · refine modStream_reserved.trans ?_
    split
    · exact Nat.add_comm _ _
    · exact (Nat.zero_add _).symm
  · refine modAccount_pending.trans ?_
    split
    · exact Nat.add_comm _ _
    · exact (Nat.zero_add _).symm

theorem upholds_cancelVisit {v : Visit} (hv : c.visits → v ∈ s.ret.traffic.visits) : Upholds c s (s.cancelVisit v) := by
  refine (upholds_modTraffic_modAccount fun hc hr => ?_).trans upholds_judgeLevels
  refine visitsAccounted_gone hr (hv hc) rfl rfl (fun k => ?_) fun a => ?_
  · refine modStream_reserved.trans ?_
    split <;> rfl
  · refine modAccount_pending.trans ?_
    split <;> rfl

theorem upholds_endEntryHold {v : Visit} {r : Reason} (hn : c.lanes v.entryLane)
    (hv : c.visits → v ∈ s.ret.traffic.visits) : Upholds c s (s.endEntryHold v r) :=
  (((upholds_cancelVisit hv).trans upholds_postRefused).trans (upholds_modLane hn)).trans (upholds_enterRefused hn)

theorem keepsDues_returnedVisit : KeepsDues returnedVisit := fun _ => ⟨rfl, rfl, rfl, rfl, rfl, rfl, rfl⟩

theorem keepsDues_onSite : KeepsDues fun v => { v with state := .onSite } := fun _ => ⟨rfl, rfl, rfl, rfl, rfl, rfl, rfl⟩

theorem keepsDues_approvedVisit : KeepsDues approvedVisit := fun _ => ⟨rfl, rfl, rfl, rfl, rfl, rfl, rfl⟩

theorem keepsDues_tickedVisit (timeout : Nat) : KeepsDues (tickedVisit timeout) := fun v => by
  unfold tickedVisit
  split <;> exact ⟨rfl, rfl, rfl, rfl, rfl, rfl, rfl⟩

theorem keepsDues_leavingVisit (w : Weighing) : KeepsDues (s.leavingVisit n w) :=
  fun _ => ⟨rfl, rfl, rfl, rfl, rfl, rfl, rfl⟩

theorem keepsDues_overweightVisit (w : Weighing) : KeepsDues fun u => { attachedVisit n w u with state := .overweight } :=
  fun _ => ⟨rfl, rfl, rfl, rfl, rfl, rfl, rfl⟩

theorem upholds_treatVisit {v : Visit} (hv : c.visits → v ∈ s.ret.traffic.visits) : Upholds c s (s.treatVisit v) := by
  unfold State.treatVisit
  split
  · exact upholds_cancelVisit hv
  · exact upholds_modVisit keepsDues_onSite
  · exact .refl c s
  · exact upholds_modVisit keepsDues_returnedVisit
  · exact upholds_modVisit keepsDues_returnedVisit

theorem postCrossed_ret (k : Fin 8) : ∀ (ls : List (Nat × Bool)) (s : State), (s.postCrossed k ls).ret = s.ret
  | [], _ => rfl
  | _ :: ls, _ => postCrossed_ret k ls _

theorem cancelVisit_visits (s : State) (v : Visit) :
    (s.cancelVisit v).ret.traffic.visits = dropVisit v.number s.ret.traffic.visits := by
  rw [State.cancelVisit, State.judgeLevels, postCrossed_ret]
  rfl

theorem mem_cancelVisit {v w : Visit} (hw : w ∈ s.ret.traffic.visits) (hne : v.number ≠ w.number) :
    w ∈ (s.cancelVisit v).ret.traffic.visits := by
  rw [cancelVisit_visits]
  exact List.mem_filter.mpr ⟨hw, by simpa using hne.symm⟩

theorem mem_modVisit {k : Nat} {f : Visit → Visit} {w : Visit} (hw : w ∈ s.ret.traffic.visits) (hne : k ≠ w.number) :
    w ∈ (s.modVisit k f).ret.traffic.visits :=
  List.mem_map.mpr ⟨w, hw, if_neg hne.symm⟩

/-- What befalls one visit at a restart leaves the visits of other numbers. -/
theorem mem_treatVisit {v w : Visit} (hw : w ∈ s.ret.traffic.visits) (hne : v.number ≠ w.number) :
    w ∈ (s.treatVisit v).ret.traffic.visits := by
  unfold State.treatVisit
  split
  · exact mem_cancelVisit hw hne
  · exact mem_modVisit hw hne
  · exact hw
  · exact mem_modVisit hw hne
  · exact mem_modVisit hw hne

/-- The visits still to be treated stand in the table, each under a number of its own. -/
def Untreated (c : Scope) (s : State) (vs : List Visit) : Prop :=
  c.visits → (∀ v ∈ vs, v ∈ s.ret.traffic.visits) ∧ (vs.map (·.number)).Pairwise (· ≠ ·)

theorem untreated_all (hv : c.visits → s.ret.VisitsAccounted) : Untreated c s s.ret.traffic.visits := fun hc => by
  obtain ⟨-, hsorted, -⟩ := hv hc
  exact ⟨fun _ => id, hsorted.imp Nat.ne_of_lt⟩

/-- Treating the first leaves the others to be treated. -/
theorem Untreated.tail {v : Visit} {vs : List Visit} (h : Untreated c s (v :: vs))
    (hkeep : ∀ w ∈ s.ret.traffic.visits, v.number ≠ w.number → w ∈ t.ret.traffic.visits) : Untreated c t vs := fun hc => by
  obtain ⟨hmem, hpairs⟩ := h hc
  obtain ⟨hhead, htail⟩ := List.pairwise_cons.mp hpairs
  exact ⟨fun w hw => hkeep w (hmem w (.tail _ hw)) (hhead _ (List.mem_map_of_mem hw)), htail⟩

theorem upholds_treatVisits : ∀ (vs : List Visit) (s : State), Untreated c s vs → Upholds c s (s.treatVisits vs)
  | [], s, _ => .refl c s
  | v :: vs, _, h =>
    (upholds_treatVisit fun hc => (h hc).1 v (.head _)).trans
      (upholds_treatVisits vs _ (h.tail fun _ => mem_treatVisit))

theorem endEntryHold_visits (s : State) (v : Visit) (r : Reason) :
    (s.endEntryHold v r).ret.traffic = (s.cancelVisit v).ret.traffic :=
  (((keeps_postRefused (p := { events := true, lanes := true, settings := true, barriers := true }) rfl).trans
    (keeps_modLane rfl)).trans (keeps_enterRefused rfl rfl rfl)).traffic rfl

theorem upholds_cancelHeld (hall : ∀ n, c.lanes n) :
    ∀ (vs : List Visit) (s : State), Untreated c s vs → Upholds c s (s.cancelHeld vs)
  | [], s, _ => .refl c s
  | v :: vs, s, h => by
    refine Upholds.trans (.iteSelf fun _ => upholds_endEntryHold (hall _) fun hc => (h hc).1 v (.head _))
      (upholds_cancelHeld hall vs _ (h.tail fun w hw hne => ?_))
    split
    · rw [endEntryHold_visits]
      exact mem_cancelVisit hw hne
    · exact hw

theorem upholds_linkExpires (hall : ∀ n, c.lanes n) (hv : c.visits → s.ret.VisitsAccounted) : Upholds c s s.linkExpires := by
  unfold State.linkExpires
  refine .iteSelf fun _ => (upholds_modLink.trans upholds_post).trans (upholds_cancelHeld hall _ _ ?_)
  exact untreated_all (s := s) hv

theorem upholds_approvalExpires {k : Nat} (hall : ∀ n, c.lanes n) : Upholds c s (s.approvalExpires k) := by
  unfold State.approvalExpires
  split
  · exact .refl c s
  · next v hv => exact .iteSelf fun _ => upholds_endEntryHold (hall _) fun _ => (visitNumbered_eq_some hv).1

theorem upholds_passExpires (hn : c.lanes n) : Upholds c s (s.passExpires n) := by
  unfold State.passExpires
  split
  · exact .refl c s
  · next v hv =>
    refine .iteSelf fun _ => ?_
    exact ((upholds_cancelVisit fun _ => laneVisit_mem hv).trans upholds_post).trans (upholds_enterRefused hn)

/-! ### Vehicles -/

theorem upholds_modVehicle {x : Token} {f : Vehicle → Vehicle}
    (hf : ∀ v, (f v).token = v.token ∧ (f v).origin = v.origin) : Upholds c s (s.modVehicle x f) :=
  upholds_modIdent (fun _ => rfl) fun _ hr =>
    provisionalCounted_kept (f := fun v => if v.token = x then f v else v)
      (fun v => by
        split
        · exact hf v
        · exact ⟨rfl, rfl⟩) hr rfl rfl rfl

/-- An unknown token is entered where the table and the learned-entry limit leave room (R127). -/
theorem resolve_creates {x : Token} {v : Vehicle} (h : s.resolve n x = .creates v) :
    v = s.provisionalEntry n x ∧ s.vehicleOf x = none ∧ s.ret.ident.vehicles.length < 512
      ∧ s.ret.ident.provisional < s.ret.settings.learnLimit := by
  unfold State.resolve at h
  split at h
  · cases h
  · next hnone =>
    split at h
    · cases h
    · split at h
      · cases h
      · next hroom =>
        split at h
        · cases h
        · next hlimit =>
          cases h
          exact ⟨rfl, hnone, Nat.lt_of_not_le hroom, Nat.lt_of_not_le hlimit⟩

theorem upholds_createEntry {x : Token} {v : Vehicle} (h : s.resolve n x = .creates v) : Upholds c s (s.createEntry v) := by
  obtain ⟨rfl, hnone, hroom, hlimit⟩ := resolve_creates h
  exact upholds_modIdent (fun _ => rfl) fun _ hr =>
    provisionalCounted_added (v := s.provisionalEntry n x) hr hroom (vehicleOf_eq_none hnone) rfl (Nat.add_comm _ _) hlimit

theorem upholds_sweepVehicle {v : Vehicle} (hv : c.table → v ∈ s.ret.ident.vehicles) : Upholds c s (s.sweepVehicle v) := by
  unfold State.sweepVehicle
  refine .ite (fun hexp => ?_) fun _ => ?_
  · have horigin : provisionalOf v = 1 := by
      simp only [State.entryExpired, Bool.and_eq_true, decide_eq_true_eq] at hexp
      obtain ⟨⟨⟨⟨-, horigin⟩, -⟩, -⟩, -⟩ := hexp
      rw [provisionalOf, if_pos horigin]
    exact (upholds_modIdent (fun _ => rfl) fun hc hr =>
      provisionalCounted_dropped hr (hv hc) rfl (by rw [horigin]; rfl) rfl).trans upholds_post
  · split
    · exact .refl c s
    · exact (upholds_modVehicle (f := fun e => { e with tare := none }) fun _ => ⟨rfl, rfl⟩).trans upholds_post

theorem post_ret_eq {k : EventKind} {l : Option Lane} {x : Subject} {d : Detail} : (s.post k l x d).ret = s.ret := rfl

/-- The sweep of one entry leaves the entries of the other tokens. -/
theorem mem_sweepVehicle {v w : Vehicle} (hw : w ∈ s.ret.ident.vehicles) (hne : v.token ≠ w.token) :
    w ∈ (s.sweepVehicle v).ret.ident.vehicles := by
  unfold State.sweepVehicle
  split
  · exact List.mem_filter.mpr ⟨hw, by simpa using hne.symm⟩
  · split
    · exact hw
    · exact List.mem_map.mpr ⟨w, hw, if_neg hne.symm⟩

theorem upholds_sweepVehicles : ∀ (vs : List Vehicle) (s : State),
    (c.table → (∀ v ∈ vs, v ∈ s.ret.ident.vehicles) ∧ (vs.map (·.token.toNat)).Pairwise (· < ·)) →
      Upholds c s (s.sweepVehicles vs)
  | [], s, _ => .refl c s
  | v :: vs, s, h => by
    refine (upholds_sweepVehicle fun hc => (h hc).1 v (.head _)).trans (upholds_sweepVehicles vs _ fun hc => ?_)
    obtain ⟨hmem, hpairs⟩ := h hc
    obtain ⟨hhead, htail⟩ := List.pairwise_cons.mp hpairs
    refine ⟨fun w hw => mem_sweepVehicle (hmem w (.tail _ hw)) fun heq => ?_, htail⟩
    have := hhead _ (List.mem_map_of_mem hw)
    simp only [heq, lt_irrefl] at this

/-! ### The waiting lists -/

theorem upholds_modList_sublist {f : List WaitEntry → List WaitEntry}
    (hf : ((f (s.list n)).map (·.token)).Sublist ((s.list n).map (·.token))) : Upholds c s (s.modList n f) := by
  refine upholds_setLists (q := s.lists.upd n f) fun h => ?_
  refine listsWithinDepth_sublist (s := s) (fun m => ?_) (fun _ => rfl) h
  change (((s.modList n f).list m).map _).Sublist _
  rw [State.modList_list]
  split
  · next hm => subst hm; exact hf
  · exact .refl _

theorem upholds_unlist {x : Token} : Upholds c s (s.unlist x) :=
  upholds_setLists fun h => listsWithinDepth_sublist (s := s)
    (fun m => by
      change ((Quad.get (s.lists.map (dropEntry x)) m).map _).Sublist _
      rw [Quad.get_map]
      exact List.filter_sublist.map _) (fun _ => rfl) h

theorem upholds_joinList {x : Token} (hroom : (s.list n).length < (s.laneSettings n).depth)
    (hfresh : ∀ m, ∀ e ∈ s.list m, e.token ≠ x) : Upholds c s (s.joinList n x) := by
  have joins : Upholds c s (s.modList n fun es => es ++ [⟨x, s.now, 0, s.directionOf x, s.precheck n x⟩]) :=
    upholds_setLists fun h => listsWithinDepth_joined (s := s) (n := n)
      (by change (s.modList n _).list n = _; rw [State.modList_list, if_pos rfl])
      (fun m hm => by change (s.modList n _).list m = _; rw [State.modList_list, if_neg hm])
      (fun _ => rfl) hroom hfresh h
  unfold State.joinList
  dsimp only
  split
  · exact joins
  · exact joins.trans upholds_post

theorem upholds_approachRead {x : Token} : Upholds c s (s.approachRead n x) := by
  unfold State.approachRead
  refine .ite (fun _ => .refl c s) fun _ => .ite (fun _ => upholds_post) fun hroom => ?_
  have hlist : ∀ m, (s.unlist x).list m = dropEntry x (s.list m) := fun m => Quad.get_map _ _ _
  refine upholds_unlist.trans (upholds_joinList ?_ fun m e he => ?_)
  · rw [hlist]
    exact lt_of_le_of_lt (List.length_filter_le _ _) (Nat.lt_of_not_le hroom)
  · rw [hlist] at he
    simpa using (List.mem_filter.mp he).2

theorem upholds_postSkipped : ∀ (es : List WaitEntry) (s : State), Upholds c s (s.postSkipped n es)
  | [], s => .refl c s
  | _ :: es, _ => upholds_post.trans (upholds_postSkipped es _)

theorem upholds_postExpired : ∀ (es : List WaitEntry) (s : State), Upholds c s (s.postExpired n es)
  | [], s => .refl c s
  | _ :: es, _ => upholds_post.trans (upholds_postExpired es _)

theorem upholds_settlePlace {x : Token} : Upholds c s (s.settlePlace n x) := by
  unfold State.settlePlace
  refine .ite (fun _ => ?_) fun _ => upholds_unlist
  exact (upholds_modList_sublist (((List.drop_sublist _ _).trans (List.dropWhile_sublist _)).map _)).trans
    (upholds_postSkipped _ _)

theorem upholds_sweepList : Upholds c s (s.sweepList n) :=
  (upholds_modList_sublist (List.filter_sublist.map _)).trans (upholds_postExpired _ _)

theorem upholds_minuteSweeps (ht : c.table → s.ret.ProvisionalCounted) : Upholds c s s.minuteSweeps := by
  unfold State.minuteSweeps
  refine .iteSelf fun _ => ?_
  have sweeps : Upholds c s ((s.modClock fun c => { c with sweepDue := false }).eachLane State.sweepList) :=
    upholds_modClock.trans (.eachLane (fun _ _ => upholds_sweepList) _)
  exact sweeps.trans (upholds_sweepVehicles _ _ fun hc => ⟨fun _ => id, (sweeps.table hc (ht hc)).2.1⟩)

/-! ### Identification and admission -/

theorem upholds_enterWeighing {k : Nat} (hn : c.lanes n) : Upholds c s (s.enterWeighing n k) :=
  (upholds_modLane hn).trans (upholds_examineCapture hn)

theorem upholds_refuse {x : Token} {r : Reason} (hn : c.lanes n) : Upholds c s (s.refuse n x r) :=
  upholds_postRefused.trans (upholds_enterRefused hn)

theorem upholds_freshEntry {v : Vehicle} {k : Option (Fin 8)} (hn : c.lanes n) : Upholds c s (s.freshEntry n v k) := by
  unfold State.freshEntry
  split
  · exact upholds_refuse hn
  · exact upholds_enterWeighing hn

theorem upholds_freshCheck {x : Token} {k : Option (Fin 8)} (hn : c.lanes n) : Upholds c s (s.freshCheck n x k) := by
  unfold State.freshCheck
  split
  · split
    · exact upholds_refuse hn
    · exact (upholds_modLane hn).trans (upholds_enterWeighing hn)
  · split
    · exact upholds_refuse hn
    · split
      · exact upholds_refuse hn
      · exact upholds_freshEntry hn
      · next hcreates => exact (upholds_createEntry hcreates).trans (upholds_freshEntry hn)

theorem upholds_identify {x : Token} {src : Source} {k : Option (Fin 8)} {kd : Option Kind} (hn : c.lanes n) :
    Upholds c s (s.identify n x src k kd) := by
  have stamps : Upholds c s ((s.settlePlace n x).modVehicle x fun v => { v with lastUse := s.now }) :=
    upholds_settlePlace.trans (upholds_modVehicle fun _ => ⟨rfl, rfl⟩)
  exact (stamps.trans (upholds_modLane hn)).trans (upholds_freshCheck hn)

/-- What an admitted vehicle has passed: its token names no visit, a visit has room, and a collection reserves nothing. -/
theorem decideEntry_ok {v : Vehicle} {w : Weighing} {i : Identity} {a : Admitted} (h : s.decideEntry n v w i = .ok a) :
    s.visitNaming v.token = none ∧ s.ret.traffic.visits.length < 64
      ∧ (a.kind = .collection → a.blocks = 0 ∧ a.estimate = 0) := by
  unfold State.decideEntry at h
  split at h
  · cases h
  · cases h
  · next hitems _ =>
    dsimp only at h
    split at h
    · cases h
    · cases h
      simp only [State.itemsTwoToSeven, firstFailure] at hitems
      split_ifs at hitems with h1 h2 h3 h4 h5 h6 h7
      have hroom : ¬Config.visitMax ≤ s.ret.traffic.visits.length := by simpa using h7
      refine ⟨by simpa using h3, Nat.lt_of_not_le hroom, fun hkind => ?_⟩
      dsimp only at hkind ⊢
      simp [hkind, ceilDiv]

theorem upholds_letIn {v : Vehicle} {w : Weighing} {i : Identity} {a : Admitted} (hn : c.lanes n)
    (h : s.decideEntry n v w i = .ok a) : Upholds c s (s.letIn n v w a) := by
  obtain ⟨hnaming, hroom, hkind⟩ := decideEntry_ok h
  have opens : Upholds c s (s.createVisit (admittedVisit s.nextVisit n v w a)) :=
    upholds_createVisit rfl hroom (visitNaming_eq_none hnaming) hkind
  exact (opens.trans (upholds_modLane hn)).trans
    (.ite (fun _ => upholds_enterHeld hn) fun _ => upholds_post.trans (upholds_letGo hn))

theorem upholds_concludeEntry {v : Vehicle} {w : Weighing} {i : Identity} (hn : c.lanes n) :
    Upholds c s (s.concludeEntry n v w i) := by
  unfold State.concludeEntry
  split
  · exact upholds_refuse hn
  · next hok => exact upholds_letIn hn hok

theorem upholds_admission {w : Weighing} {i : Identity} (hn : c.lanes n) : Upholds c s (s.admission n w i) := by
  unfold State.admission
  split
  · exact upholds_refuse hn
  · exact upholds_concludeEntry hn
  · next hcreates => exact (upholds_createEntry hcreates).trans (upholds_concludeEntry hn)

theorem upholds_decides {d : Direction} {g : Weighing → Identity → State} (hn : c.lanes n)
    (hg : ∀ w i, Upholds c s (g w i)) : Upholds c s (s.decides n d g) := by
  unfold State.decides
  split
  · exact .refl c s
  · exact .ite (fun _ => upholds_modLane hn) fun _ => hg _ _

end Sys2Proof.Proofs
end

section
/-! What the operations on jobs, closes, loops, barriers and records uphold, and so every command but a reset and the
start-up. -/

namespace Sys2Proof.Proofs
open Sys2Proof Sys2Proof.Machine

variable {c : Scope} {s t u : State} {n : Lane}

/-! ### Tickets and jobs -/

theorem upholds_modTicket {k : Nat} {f : Ticket → Ticket} (hf : ∀ x, (f x).number = x.number) :
    Upholds c s (s.modTicket k f) :=
  upholds_modTickets fun hr =>
    journalOrdered_kept (f := fun x => if x.number = k then f x else x)
      (fun x => by
        split
        · exact hf x
        · rfl) hr rfl rfl

theorem upholds_queueJob {k : Nat} {m : Lane} {a : Fin 8} {copy : Bool} (hclose : copy = false → s.closeJobFor m = false)
    (hcopy : copy = true → s.noCopyRoom = false) : Upholds c s (s.queueJob k m a copy) := by
  refine upholds_modPrinting fun h => granted_bounded (js := s.printing.queue ++ [⟨k, m, a, copy, .queued⟩]) rfl ?_
  refine jobsBounded_append (jobsBounded_of_bounded h) rfl (fun hc => ?_) fun hc => ?_
  · refine List.countP_eq_zero.mpr fun j hj hjob => ?_
    exact Bool.eq_false_iff.mp (hclose hc) (List.any_eq_true.mpr ⟨j, hj, hjob⟩)
  · have hroom := hcopy hc
    rw [State.noCopyRoom, Bool.or_eq_false_iff] at hroom
    exact Nat.lt_of_not_le (of_decide_eq_false hroom.2)

theorem upholds_releaseHold {k : Nat} (hn : c.lanes n) : Upholds c s (s.releaseHold k n) :=
  .iteSelf fun _ => (upholds_modLane hn).trans (upholds_letGo hn)

theorem endedTicket_number (copy : Bool) (e : JobEnd) (x : Ticket) : (endedTicket copy e x).number = x.number := by
  unfold endedTicket
  split
  · rfl
  · rfl
  · split <;> rfl
  · rfl

theorem upholds_endJob {j : PrintJob} {e : JobEnd} (hall : ∀ n, c.lanes n) : Upholds c s (s.endJob j e) := by
  have ends : Upholds c s
      ((s.modPrinting fun p => { p with queue := granted (p.queue.filter fun q => !holdsBus q) }).modTicket j.ticket
        (endedTicket j.copy e)) :=
    (upholds_modPrinting fun h => granted_bounded (js := s.printing.queue.filter fun q => !holdsBus q) rfl
      (jobsBounded_sublist List.filter_sublist (jobsBounded_of_bounded h))).trans
      (upholds_modTicket (endedTicket_number j.copy e))
  cases e with
  | done => exact (ends.trans upholds_post).trans (.eachLane (fun _ m => upholds_releaseHold (hall m)) _)
  | failed r => exact ends.trans upholds_post

theorem upholds_setBusJob {st : JobState} (hst : st ≠ .queued) (hk : ∀ k, st = .sending k → k < 19) :
    Upholds c s (s.setBusJob st) := upholds_modPrinting (bounded_setBusJob hst hk)

/-- What is kept of the bus beside the queue. -/
theorem upholds_modPrinting_seen {f : Printing → Printing} (hf : ∀ p, (f p).queue = p.queue) :
    Upholds c s (s.modPrinting f) := upholds_modPrinting (bounded_of_queue_eq (hf s.printing))

theorem upholds_transferEnds {j : PrintJob} {k : Nat} {acked : Bool} (hall : ∀ n, c.lanes n) :
    Upholds c s (s.transferEnds j k acked) := by
  unfold State.transferEnds
  dsimp only
  refine .ite (fun _ => .ite (fun hk => ?_) fun _ => ?_) fun _ => (upholds_endJob hall).after
    (upholds_modPrinting_seen (by intro; rfl))
  · exact (upholds_setBusJob (by nofun) (by rintro _ ⟨⟩; exact hk)).after (upholds_modPrinting_seen (by intro; rfl))
  · exact (upholds_setBusJob (by nofun) (by nofun)).after (upholds_modPrinting_seen (by intro; rfl))

theorem upholds_statusReads {j : PrintJob} {k : Nat} {r : StatusRead} (hall : ∀ n, c.lanes n) :
    Upholds c s (s.statusReads j k r) := by
  unfold State.statusReads
  dsimp only
  have seen : Upholds c s (s.modPrinting fun p => { p with lastTransfer := some (statusTransfer j.address r) }) :=
    upholds_modPrinting_seen fun _ => rfl
  cases r with
  | noAck => exact (upholds_endJob hall).after seen
  | byte b =>
    dsimp only
    split
    · exact (upholds_endJob hall).after ((upholds_modPrinting_seen (by intro; rfl)).after seen)
    · exact (upholds_setBusJob (by nofun) (by nofun)).after ((upholds_modPrinting_seen (by intro; rfl)).after seen)

/-! ### The close of a visit -/

theorem upholds_queueCloseJob {k : Nat} : Upholds c s (s.queueCloseJob n k) := by
  unfold State.queueCloseJob
  split
  · exact upholds_modTicket fun _ => rfl
  · refine .ite (fun _ => upholds_post.after (upholds_modTicket (by intro; rfl))) fun hno => ?_
    refine (upholds_queueJob ?_ (by nofun)).after (upholds_modTicket (by intro; rfl))
    exact fun _ => Bool.eq_false_iff.mpr hno

theorem upholds_storeTare {x : Token} {kg : Option Nat} : Upholds c s (s.storeTare x kg) := by
  cases kg with
  | none => exact .refl c s
  | some k => exact upholds_modVehicle fun _ => ⟨rfl, rfl⟩

theorem upholds_postLearned {x : Token} {kg : Option Nat} : Upholds c s (s.postLearned x kg) := by
  cases kg with
  | none => exact .refl c s
  | some k => exact upholds_post

/-- A close takes away what the visit had reserved; a collection had reserved nothing (R152, R159). -/
theorem closedTotals_reserved {v : Visit} {x : StreamTotals} (hkind : v.kind = .collection → v.blocks = 0) :
    (closedTotals v x).reserved = x.reserved - v.blocks := by
  unfold closedTotals
  split
  · rfl
  · next h => rw [hkind h]; rfl

theorem closedAccount_pending {v : Visit} {a : Account} (hkind : v.kind = .collection → v.estimate = 0) :
    (closedAccount v a).pending = a.pending - v.estimate := by
  unfold closedAccount
  split
  · rfl
  · next h => rw [hkind h]; rfl

theorem upholds_closeUpdate {v : Visit} (hv : v ∈ s.ret.traffic.visits) (hroom : s.journalFull = false) :
    Upholds c s (s.closeUpdate v) := by
  unfold State.closeUpdate
  dsimp only
  refine Upholds.trans ?_ upholds_storeTare
  apply Upholds.of_keeps (p := { traffic := true, ident := true, tickets := true })
    (((keeps_modTraffic rfl).trans (keeps_modAccount rfl)).trans (keeps_modTickets rfl))
  case journal =>
    exact fun _ hr =>
      journalOrdered_joined (x := s.ticketFor v) hr (Nat.lt_of_not_le (of_decide_eq_false hroom)) rfl rfl rfl
  case visits =>
    intro _ _ hr
    obtain ⟨-, -, -, -, hkinds, -⟩ := id hr
    refine visitsAccounted_gone hr hv rfl rfl (fun k => ?_) fun a => ?_
    · refine modStream_reserved.trans ?_
      split
      · exact closedTotals_reserved fun h => (hkinds v hv h).1
      · rfl
    · refine modAccount_pending.trans ?_
      split
      · exact closedAccount_pending fun h => (hkinds v hv h).2
      · rfl
  case table => exact fun _ _ hr => hr
  case stored => exact fun _ => .inr ⟨rfl, rfl⟩
  all_goals (intro h; cases h)

theorem upholds_closeVisit {v : Visit} (hn : c.lanes n) (hv : v ∈ s.ret.traffic.visits) (hroom : s.journalFull = false) :
    Upholds c s (s.closeVisit n v) := by
  unfold State.closeVisit
  dsimp only
  refine Upholds.after (.ite (fun _ => (upholds_enterHeld hn).after (upholds_modLane hn)) fun _ => upholds_letGo hn) ?_
  refine upholds_setJournalOrder.after (upholds_queueCloseJob.after (upholds_post.after ?_))
  exact upholds_postLearned.after (upholds_judgeLevels.after (upholds_closeUpdate hv hroom))

theorem upholds_journalCheck {v : Visit} (hn : c.lanes n) (hv : v ∈ s.ret.traffic.visits) :
    Upholds c s (s.journalCheck n v) := by
  unfold State.journalCheck
  refine .ite (fun _ => ?_) fun hroom => upholds_closeVisit hn hv (Bool.eq_false_iff.mpr hroom)
  exact (upholds_post.trans (upholds_enterHeld hn)).trans upholds_setJournalOrder

theorem upholds_attachExit {w : Weighing} {v : Visit} (hn : c.lanes n) (hv : v ∈ s.ret.traffic.visits) :
    Upholds c s (s.attachExit n w v) := by
  have lets : Upholds c s (s.modLane n fun l => { l with heldWeighing := none, postponed := false }) := upholds_modLane hn
  unfold State.attachExit
  dsimp only
  refine .ite (fun _ => ?_) fun _ => ?_
  · exact ((lets.trans (upholds_modVisit (keepsDues_overweightVisit w))).trans upholds_post).trans (upholds_enterHeld hn)
  · refine (lets.trans (upholds_modVisit (keepsDues_leavingVisit w))).trans (.ite (fun _ => upholds_enterHeld hn) fun _ => ?_)
    exact upholds_journalCheck hn (List.mem_map.mpr ⟨v, hv, if_pos rfl⟩)

theorem upholds_exitDecision {w : Weighing} {i : Identity} (hn : c.lanes n) : Upholds c s (s.exitDecision n w i) := by
  unfold State.exitDecision
  split
  · exact upholds_refuse hn
  · next v hv =>
    exact .ite (fun _ => upholds_refuse hn) fun _ => .ite (fun _ => upholds_refuse hn) fun _ =>
      upholds_attachExit hn (laneVisit_mem hv)

theorem upholds_heldClose (hn : c.lanes n) : Upholds c s (s.heldClose n) := by
  unfold State.heldClose
  split
  · exact .refl c s
  · next v hv => exact .iteSelf fun h => upholds_closeVisit hn (laneVisit_mem hv) h.2.2

theorem upholds_takeClose (hn : c.lanes n) : Upholds c s (s.takeClose n) := by
  unfold State.takeClose
  split
  · next hv => exact .iteSelf fun _ => upholds_attachExit hn (laneVisit_mem hv)
  · exact .refl c s
  · exact upholds_heldClose hn

/-! ### Site time -/

theorem tickedLoop_report (limit : Nat) (l : Loop) : (tickedLoop limit l).report = l.report := by
  unfold tickedLoop
  split <;> rfl

theorem upholds_tickLane (hn : c.lanes n) : Upholds c s (s.tickLane n) :=
  ((((upholds_trackZero hn).trans (upholds_modLoops hn (.inr (tickedLoop_report _ _)))).trans (upholds_modReaders hn)).trans
    (upholds_modList_sublist (by rw [List.map_map]; exact .refl _))).trans (upholds_modLane hn)

theorem upholds_advance (hall : ∀ n, c.lanes n) : Upholds c s s.advance := by
  unfold State.advance
  dsimp only
  refine ((upholds_modClock.trans (upholds_modTraffic fun _ hr => ?_)).trans
    (.eachLane (fun _ m => upholds_tickLane (hall m)) _)).trans upholds_modLink
  exact visitsAccounted_kept (keepsDues_tickedVisit _) hr rfl rfl (fun _ => rfl) fun _ => rfl

/-! ### Loops -/

/-- A change of one loop that makes a clear loop's report another only where it is heard. -/
theorem upholds_modLoop {side : LoopSide} {f : Loop → Loop} (hn : c.lanes n)
    (hf : c.heard n ∨ (f (s.loop n side)).report = (s.loop n side).report) : Upholds c s (s.modLoop n side f) := by
  refine upholds_modLoops hn ?_
  cases side with
  | entry => exact .inr rfl
  | clear => exact hf

theorem upholds_stuckExpires {side : LoopSide} (hn : c.lanes n) : Upholds c s (s.stuckExpires n side) :=
  .iteSelf fun _ => (upholds_modLoop hn (.inr rfl)).trans upholds_post

theorem upholds_learningEnds {side : LoopSide} (hn : c.lanes n) : Upholds c s (s.learningEnds n side) := by
  refine .iteSelf fun h => upholds_modLoop hn (.inr ?_)
  rw [Loop.report, Loop.report, h]

theorem upholds_setCycle {x : Option Bool} (hn : c.lanes n) : Upholds c s (s.setCycle n x) := upholds_modLane hn

theorem upholds_entryPassed : Upholds c s (s.entryPassed n) := by
  unfold State.entryPassed
  split
  · exact .iteSelf fun _ => upholds_modVisit keepsDues_onSite
  · exact .refl c s

theorem upholds_cycleEnds {marked : Bool} (hn : c.lanes n) : Upholds c s (s.cycleEnds n marked) := by
  unfold State.cycleEnds
  dsimp only
  refine (upholds_setCycle hn).trans (.ite (fun _ => upholds_entryPassed.trans (upholds_enterClearing hn)) fun _ => ?_)
  exact .ite (fun _ => .refl c _) fun _ => upholds_post

theorem upholds_followCycle {before : LoopReport} (hn : c.lanes n) : Upholds c s (s.followCycle n before) := by
  unfold State.followCycle
  split
  · exact upholds_setCycle hn
  · split
    · exact upholds_cycleEnds hn
    · exact .refl c s
  · exact upholds_setCycle hn

theorem upholds_barrierHears (hn : c.lanes n) : Upholds c s (s.barrierHears n) := by
  unfold State.barrierHears
  split
  · exact .refl c s
  · exact upholds_reverse hn
  · exact upholds_reverse hn
  · exact upholds_seek hn
  · exact .refl c s

theorem upholds_loopOutOfHours {side : LoopSide} {before : LoopReport} : Upholds c s (s.loopOutOfHours n side before) :=
  .iteSelf fun _ => upholds_post

theorem upholds_laneHears {side : LoopSide} {before : LoopReport} (hn : c.lanes n) :
    Upholds c s (s.laneHears n side before) := by
  cases side with
  | clear => exact (upholds_followCycle hn).trans (upholds_laneSettle hn)
  | entry => exact Upholds.trans (.iteSelf fun _ => upholds_examineCapture hn) (upholds_laneSettle hn)

theorem upholds_reportChanged {side : LoopSide} {before : LoopReport} (hn : c.lanes n) :
    Upholds c s (s.reportChanged n side before) := by
  have lane : Upholds c s ((s.loopOutOfHours n side before).laneHears n side before) :=
    upholds_loopOutOfHours.trans (upholds_laneHears hn)
  refine .ite (fun _ => .refl c s) fun _ => ?_
  cases side with
  | clear => exact lane.trans (upholds_barrierHears hn)
  | entry => exact lane

theorem upholds_postLoopFault {side : LoopSide} {k : Option LoopFaultKind} : Upholds c s (s.postLoopFault n side k) := by
  cases k with
  | none => exact .refl c s
  | some k => exact upholds_post

theorem upholds_measureLoop {side : LoopSide} {p : Nat} (hn : c.lanes n) (hh : c.heard n) :
    Upholds c s (s.measureLoop n side p) :=
  ((upholds_modLoop hn (.inl hh)).trans upholds_postLoopFault).trans (upholds_reportChanged hn)

theorem upholds_relearn {side : LoopSide} (hn : c.lanes n) (hh : c.heard n) : Upholds c s (s.relearn n side) := by
  have hears : Upholds c s ((s.modLoop n side relearnedLoop).reportChanged n side (s.loop n side).report) :=
    (upholds_modLoop hn (.inl hh)).trans (upholds_reportChanged hn)
  cases side with
  | clear => exact hears.trans (upholds_setCycle hn)
  | entry => exact hears

/-! ### Barriers -/

theorem barrierOk_setSwitch {free : Prop} {side : SwitchSide} {a : Bool} {b : Barrier} (h : BarrierOk free b) :
    BarrierOk free (setSwitch side a b) := by
  cases side <;> exact h

theorem upholds_setSwitch {side : SwitchSide} {a : Bool} (hn : c.lanes n) :
    Upholds c s (s.modBarrier n (setSwitch side a)) := upholds_modBarrier hn barrierOk_setSwitch

theorem upholds_switchActs {side : SwitchSide} {a : Bool} (hn : c.lanes n) : Upholds c s (s.switchActs n side a) := by
  unfold State.switchActs
  split
  · exact upholds_barrierRests hn nofun
  · exact upholds_enterFault hn
  · exact Upholds.trans (upholds_modBarrier hn id) (upholds_barrierRests hn nofun)
  · exact upholds_enterFault hn
  · exact upholds_barrierRests hn nofun
  · exact upholds_barrierRests hn nofun
  · exact .refl c s

theorem upholds_switchChanges {side : SwitchSide} {a : Bool} (hn : c.lanes n) : Upholds c s (s.switchChanges n side a) := by
  unfold State.switchChanges
  have sets : Upholds c s (s.modBarrier n (setSwitch side a)) := upholds_setSwitch hn
  refine .ite (fun _ => .refl c s) fun _ => .ite (fun _ => ?_) fun _ => (upholds_switchActs hn).after sets
  exact .ite (fun _ => sets) fun _ => (upholds_enterFault hn).after sets

theorem upholds_tripInMotion (hn : c.lanes n) : Upholds c s (s.tripInMotion n) := by
  unfold State.tripInMotion
  split
  · have counts : Upholds c s ((s.modBarrier n fun b => { b with obstructions := (s.barrier n).obstructions + 1 }).post
        .barrierObstructed (some n) .none (.obstructions ((s.barrier n).obstructions + 1))) :=
      (upholds_modBarrier hn id).trans upholds_post
    exact counts.trans (.ite (fun _ => upholds_reverse hn) fun _ => upholds_enterFault hn)
  · exact upholds_enterFault hn
  · exact .refl c s

theorem upholds_comparatorTrips (hn : c.lanes n) : Upholds c s (s.comparatorTrips n) := by
  have trips : Upholds c s (s.modBarrier n fun b => { b with comparator := true }) := upholds_modBarrier hn id
  unfold State.comparatorTrips
  dsimp only
  split
  · exact .ite (fun _ => trips) fun _ => trips.trans (upholds_enterFault hn)
  · exact .ite (fun _ => trips) fun _ => trips.trans (upholds_tripInMotion hn)

theorem upholds_blankingEnds (hn : c.lanes n) : Upholds c s (s.blankingEnds n) := by
  have ends : Upholds c s (s.modBarrier n fun b => { b with blanked := false }) := upholds_modBarrier hn id
  exact .ite (fun _ => ends.trans (upholds_tripInMotion hn)) fun _ => ends

/-- A ramp step goes on with a motion and no other barrier (R78). -/
theorem barrierOk_rampedBarrier {free : Prop} {b : Barrier} (h : BarrierOk free b) : BarrierOk free (rampedBarrier b) := by
  unfold rampedBarrier
  split
  · next hmotion =>
    refine ⟨h.1, fun hraising hlowering => ?_⟩
    cases hb : b.state
    all_goals first | exact absurd hb hraising | exact absurd hb hlowering | (rw [hb] at hmotion; cases hmotion)
  · exact h

theorem upholds_pauseEnds (hn : c.lanes n) : Upholds c s (s.pauseEnds n) :=
  .iteSelf fun _ => upholds_startMotion hn nofun

/-! ### Readers -/

theorem upholds_modPort {side : ReaderSide} {f : ReaderPort → ReaderPort} (hn : c.lanes n) :
    Upholds c s (s.modPort n side f) := upholds_modReaders hn

theorem upholds_readToken {side : ReaderSide} {x : Token} (hn : c.lanes n) : Upholds c s (s.readToken n side x) := by
  refine .ite (fun _ => .refl c s) fun _ => ?_
  unfold State.acceptRead
  dsimp only
  refine (upholds_modPort hn).trans (.ite (fun _ => upholds_post) fun _ => ?_)
  cases side with
  | approach => exact upholds_approachRead
  | deck => exact .iteSelf fun _ => upholds_identify hn

theorem upholds_gather {side : ReaderSide} {bytes : List Byte} (hn : c.lanes n) : Upholds c s (s.gather n side bytes) := by
  refine .foldl (fun t b => ?_) bytes s
  unfold State.gatherByte
  dsimp only
  refine .ite (fun _ => upholds_modPort hn) fun _ => ?_
  split
  · exact upholds_modPort hn
  · exact (upholds_modPort hn).trans (upholds_readToken hn)

end Sys2Proof.Proofs
end

section
/-! What the records uphold, and so every command but a reset and the start-up. -/

namespace Sys2Proof.Proofs
open Sys2Proof Sys2Proof.Machine

variable {c : Scope} {s t u : State} {n : Lane}

/-! ### Records of a lane -/

theorem upholds_laneOpens (hn : c.lanes n) : Upholds c s (State.laneOpens n s).1 := by
  unfold State.laneOpens
  split
  · exact .refl c s
  · split
    · exact .refl c s
    · exact (upholds_enterIdle hn).after (upholds_modLaneSettings hn rfl)

theorem upholds_laneCloses (hn : c.lanes n) : Upholds c s (State.laneCloses n s).1 := by
  unfold State.laneCloses
  split
  · exact upholds_enterClosed hn
  · exact .refl c s

theorem upholds_laneClears (hn : c.lanes n) : Upholds c s (State.laneClears n s).1 := by
  unfold State.laneClears
  split
  · exact upholds_enterIdle hn
  · exact .refl c s

theorem upholds_settleManual {v : Visit} (hn : c.lanes n) (hv : v ∈ s.ret.traffic.visits) :
    Upholds c s (s.settleManual n v) := by
  have returns : Upholds c s (s.exitReturns v) := upholds_modVisit keepsDues_returnedVisit
  unfold State.settleManual
  split
  · exact .ite (fun _ => (upholds_modLane hn).after (upholds_cancelVisit fun _ => hv)) fun _ => returns
  · exact returns
  · exact returns
  · exact .refl c s
  · exact .iteSelf fun _ => upholds_modVisit keepsDues_onSite
  · exact .iteSelf fun _ => upholds_modVisit keepsDues_onSite
  all_goals exact .refl c s

theorem upholds_enterManual (hn : c.lanes n) : Upholds c s (s.enterManual n) := by
  unfold State.enterManual
  dsimp only
  refine (upholds_command hn).after (upholds_setJournalOrder.after (upholds_post.after ((upholds_modLane hn).after ?_)))
  split
  · next v hv => exact upholds_settleManual hn (laneVisit_mem hv)
  · exact .refl c s

theorem upholds_barrierRaises (hn : c.lanes n) : Upholds c s (State.barrierRaises n s).1 := by
  unfold State.barrierRaises
  split
  · exact .refl c s
  · exact .refl c s
  all_goals exact upholds_enterManual hn

theorem upholds_barrierLowers (hn : c.lanes n) : Upholds c s (State.barrierLowers n s).1 := by
  unfold State.barrierLowers
  split
  · exact upholds_enterClearing hn
  · exact .refl c s

theorem upholds_faultLeft (hn : c.lanes n) : Upholds c s (s.faultLeft n) := by
  unfold State.faultLeft
  split
  · exact upholds_letGo hn
  · exact .iteSelf fun _ => upholds_enterIdle hn
  · exact upholds_laneSettle hn
  · exact .refl c s

theorem switchState_ne_lowering (down up : Bool) : switchState down up ≠ .lowering := by cases down <;> cases up <;> decide

/-- Out of FAULT a barrier is not driven, and no limit switch shows a lowering (R85). -/
theorem upholds_barrierResets (hn : c.lanes n) : Upholds c s (State.barrierResets n s).1 := by
  unfold State.barrierResets
  split
  · next hfault =>
    have clears : Upholds c s (s.modBarrier n fun b => { b with obstructions := 0 }) := upholds_modBarrier hn id
    have hshown := switchState_ne_lowering (s.barrier n).downSwitch (s.barrier n).upSwitch
    dsimp only
    split
    · exact clears.trans (upholds_enterFault hn)
    · refine (upholds_seek hn).after ((upholds_faultLeft hn).after (clears.trans (upholds_modBarrier hn ?_)))
      rintro ⟨-, hstill⟩
      have hfault' : isFault ((s.modBarrier n fun b => { b with obstructions := 0 }).barrier n).state = true := by
        rw [State.modBarrier_barrier, if_pos rfl]
        exact hfault
      refine ⟨fun h => absurd h hshown, fun _ _ => hstill ?_ ?_⟩
      · intro h
        rw [h] at hfault'
        cases hfault'
      · intro h
        rw [h] at hfault'
        cases hfault'
  · exact .refl c s

theorem heldVisit_mem {r : HoldReason} {k : Nat} {v : Visit} (h : s.heldVisit n r k = some v) :
    v ∈ s.ret.traffic.visits := by
  unfold State.heldVisit at h
  split at h
  · exact (visitNumbered_eq_some h).1
  · cases h

theorem upholds_approves {k : Nat} (hn : c.lanes n) : Upholds c s (State.approves k n s).1 := by
  unfold State.approves
  split
  · exact .refl c s
  · split
    · exact .refl c s
    · next v hv =>
      split
      · exact (upholds_letGo hn).after (upholds_post.after (upholds_modVisit keepsDues_approvedVisit))
      · split
        · exact .refl c s
        · exact upholds_journalCheck hn (heldVisit_mem hv)

theorem upholds_declines {k : Nat} (hall : ∀ n, c.lanes n) : Upholds c s (State.declines k n s).1 := by
  unfold State.declines
  split
  · exact .refl c s
  · split
    · exact .refl c s
    · next v hv =>
      split
      · exact upholds_endEntryHold (hall _) fun _ => heldVisit_mem hv
      · exact .refl c s

theorem upholds_returns {k : Nat} (hn : c.lanes n) : Upholds c s (State.returns k n s).1 := by
  unfold State.returns
  split
  · exact .refl c s
  · split
    · exact .refl c s
    · exact (upholds_enterRefused hn).after (upholds_postRefused.after (upholds_modVisit keepsDues_returnedVisit))

theorem upholds_idents {b : Body IdentItem} (hn : c.lanes n) : Upholds c s (State.idents b n s).1 := by
  unfold State.idents
  split
  · exact .refl c s
  · split
    · exact .refl c s
    · split
      · exact upholds_identify hn
      · exact .refl c s

/-! ### Calibration records -/

theorem upholds_zeroes (hn : c.lanes n) : Upholds c s (State.zeroes n s).1 := by
  unfold State.zeroes
  split
  · exact .refl c s
  · split
    · exact .refl c s
    · split
      · next hz => exact upholds_moveZero hn (hz.trans zeroBound_le)
      · exact .refl c s

theorem upholds_zeroStarts (hn : c.lanes n) : Upholds c s (s.zeroStarts n).1 := by
  unfold State.zeroStarts
  split
  · exact upholds_modDeck hn
  · exact .refl c s

theorem upholds_spanStarts {load : Nat} (hn : c.lanes n) : Upholds c s (s.spanStarts n load).1 := by
  unfold State.spanStarts
  split
  · exact upholds_modDeck hn
  · exact .refl c s

theorem upholds_trims {ps : List (Nat × Nat)} (hn : c.lanes n) : Upholds c s (s.trims n ps).1 :=
  (upholds_emptyFilter hn).after (upholds_calSucceeds hn id)

/-- A RANGE that would leave Z past its limit is refused (R63). -/
theorem upholds_ranges {f : Nat × Nat} (hn : c.lanes n) : Upholds c s (s.ranges n f).1 := by
  unfold State.ranges
  split
  · exact .refl c s
  · next hz => exact (upholds_modDeck hn).after (upholds_calSucceeds hn fun _ => Nat.le_of_not_lt hz)

theorem upholds_calAborts (hn : c.lanes n) : Upholds c s (State.calAborts n s).1 := by
  unfold State.calAborts
  split
  · exact .refl c s
  · split
    · exact upholds_abortOp hn
    · exact .refl c s

/-! ### Records of the tables and the journal -/

theorem provisionalOf_eq_zero {v : Vehicle} (h : v.origin ≠ .provisional) : provisionalOf v = 0 := if_neg h

theorem upholds_vehicleWrites {f : VehicleFields} : Upholds c s (State.vehicleWrites f s).1 := by
  unfold State.vehicleWrites
  split
  · next old hold =>
    obtain ⟨hmem, htoken⟩ := vehicleOf_eq_some hold
    dsimp only
    refine upholds_modIdent (fun _ => rfl) fun _ hr =>
      provisionalCounted_replaced (v := writtenVehicle f s.now old.tare) hr hmem htoken rfl rfl ?_ rfl
    rw [State.modIdent_ident]
    dsimp only
    rw [provisionalOf]
    split <;> rfl
  · next hnone =>
    split
    · exact .refl c s
    · next hroom =>
      dsimp only
      refine upholds_modIdent (fun _ => rfl) fun _ hr => ?_
      obtain ⟨-, -, -, hle⟩ := id hr
      exact provisionalCounted_added (v := writtenVehicle f s.now none) hr (Nat.lt_of_not_le hroom)
        (vehicleOf_eq_none hnone) rfl (Nat.zero_add _).symm hle

theorem upholds_vehicleDeletes {x : Token} : Upholds c s (State.vehicleDeletes x s).1 := by
  unfold State.vehicleDeletes
  split
  · exact .refl c s
  · next v hv =>
    obtain ⟨hmem, htoken⟩ := vehicleOf_eq_some hv
    split
    · exact .refl c s
    · refine upholds_unlist.after (upholds_modIdent (fun _ => rfl) fun _ hr =>
        provisionalCounted_dropped hr hmem (by rw [htoken]; rfl) ?_ rfl)
      rw [provisionalOf]
      split <;> rfl

theorem upholds_accountWrites {f : AccountFields} : Upholds c s (State.accountWrites f s).1 := by
  unfold State.accountWrites
  dsimp only
  exact upholds_modAccount rfl

theorem upholds_periodResets {a : Option (Fin 256)} : Upholds c s (State.periodResets a s).1 := by
  cases a with
  | some a =>
    unfold State.periodResets
    dsimp only
    exact upholds_modAccount rfl
  | none =>
    unfold State.periodResets
    dsimp only
    refine upholds_modIdent (fun a => ?_) fun _ hr => hr
    change ((s.ret.ident.accounts.map fun c : Account => { c with consumed := 0 })[a.val]).pending = _
    rw [Vector.getElem_map]
    rfl

theorem upholds_heldCloses (hall : ∀ n, c.lanes n) : Upholds c s s.heldCloses :=
  .foldl (fun _ m => upholds_heldClose (hall m)) _ _

theorem upholds_ticketsReleased {k : Nat} (hall : ∀ n, c.lanes n) : Upholds c s (State.ticketsReleased k s).1 := by
  unfold State.ticketsReleased
  split
  · exact .refl c s
  · next hsplit =>
    split
    · exact .refl c s
    · exact (upholds_heldCloses hall).after
        (upholds_modTickets fun hr => journalOrdered_released hr (splitJournal_append hsplit) rfl rfl)

theorem upholds_ticketReprints {f : Nat × Lane} : Upholds c s (State.ticketReprints f s).1 := by
  unfold State.ticketReprints
  split
  · exact .refl c s
  · exact .refl c s
  · split
    · exact .refl c s
    · split
      · exact .refl c s
      · next hroom => exact upholds_queueJob nofun fun _ => Bool.eq_false_iff.mpr hroom

/-- A change of one stream's stock, which leaves what is reserved. -/
theorem upholds_stockSet {f : Fin 8 × Nat} : Upholds c s (State.stockSet f s).1 := by
  refine upholds_judgeLevels.after (upholds_modTraffic fun _ hr => ?_)
  refine visitsAccounted_kept (f := id) (fun _ => ⟨rfl, rfl, rfl, rfl, rfl, rfl, rfl⟩) hr (List.map_id _).symm rfl
    (fun k => ?_) fun _ => rfl
  refine modStream_reserved.trans ?_
  split <;> rfl

theorem upholds_newDay : Upholds c s s.newDay.1 := by
  unfold State.newDay
  dsimp only
  exact upholds_modTraffic fun _ hr => hr

/-! ### SETUP -/

theorem upholds_deckSettingsSet {f : DeckSettings → DeckSettings} (hn : c.lanes n) :
    Upholds c s (State.deckSettingsSet n f s).1 := upholds_modDeckSettings hn

theorem upholds_laneSettingsSet {f : LaneSettings → LaneSettings} (hn : c.lanes n)
    (hf : (f (s.laneSettings n)).depth = (s.laneSettings n).depth) : Upholds c s (State.laneSettingsSet n f s).1 :=
  upholds_modLaneSettings hn hf

theorem upholds_settingsSet {f : Settings → Settings} (hlanes : (f s.ret.settings).lanes = s.ret.settings.lanes)
    (hdecks : (f s.ret.settings).decks = s.ret.settings.decks)
    (hlimit : (f s.ret.settings).learnLimit = s.ret.settings.learnLimit) : Upholds c s (State.settingsSet f s).1 :=
  upholds_modSettings hlanes hdecks hlimit

theorem upholds_cellsSet {k : Nat} (hn : c.lanes n) : Upholds c s (State.cellsSet n k s).1 := by
  unfold State.cellsSet
  split
  · exact .refl c s
  · split
    · exact .refl c s
    · split
      · exact .refl c s
      · exact (upholds_afterReasons hn).after ((upholds_modCal hn (by exact id)).after (upholds_modDeckSettings hn))

theorem setLoopSettings_depth (side : LoopSide) (cfg : LoopSettings) (x : LaneSettings) :
    (setLoopSettings side cfg x).depth = x.depth := by cases side <;> rfl

theorem upholds_loopSet {f : LoopSide × LoopSettings × Bool} (hn : c.lanes n) (hh : c.heard n) :
    Upholds c s (State.loopSet n f s).1 := by
  have sets : Upholds c s (s.modLaneSettings n (setLoopSettings f.1 f.2.1)) :=
    upholds_modLaneSettings hn (setLoopSettings_depth _ _ _)
  exact .ite (fun _ => sets.trans (upholds_relearn hn hh)) fun _ => sets

/-- Depths within the pool and over the lists as they stand (R96, R97). -/
theorem upholds_listsSet {f : Quad Nat × Nat} (hall : ∀ n, c.lanes n) : Upholds c s (State.listsSet f s).1 := by
  unfold State.listsSet
  split
  · exact .refl c s
  · next hpool =>
    split
    · exact .refl c s
    · next hlists =>
      have hdepth : ∀ m, ((s.modSettings fun t => { t with
          lanes := Quad.ofFn fun n => { t.lanes.get n with depth := f.1.get n }, listAge := f.2 }).laneSettings m).depth
            = f.1.get m := fun m => congrArg LaneSettings.depth (Quad.get_ofFn _ m)
      dsimp only
      apply Upholds.of_keeps (p := { settings := true }) (keeps_modSettings rfl)
      case table => exact fun _ _ hr => hr
      case depths =>
        intro _ _
        change (Lane.all.map fun m => ((s.modSettings _).laneSettings m).depth).sum ≤ 32
        simp only [hdepth]
        exact Nat.le_of_not_lt hpool
      case lists =>
        refine fun _ ⟨_, hnodup⟩ => ⟨fun m => ?_, hnodup⟩
        rw [hdepth]
        refine Nat.le_of_not_lt fun hlt => hlists (List.any_eq_true.mpr ⟨m, ?_, decide_eq_true hlt⟩)
        cases m <;> decide
      case stored => exact fun _ => stored_retain s _
      case others => exact fun _ m hm => absurd (hall m) hm
      all_goals (intro h; cases h)

/-- A learned-entry limit under the PROVISIONAL count is refused (R123). -/
theorem upholds_vehicleTableSet {f : Nat × Nat × Nat} : Upholds c s (State.vehicleTableSet f s).1 := by
  unfold State.vehicleTableSet
  split
  · exact .refl c s
  · next hlimit =>
    unfold State.settingsSet
    dsimp only
    apply Upholds.of_keeps (p := { settings := true }) (keeps_modSettings rfl)
    case table => exact fun _ _ ⟨hlen, hsorted, hright, _⟩ => ⟨hlen, hsorted, hright, Nat.le_of_not_lt hlimit⟩
    case depths => exact fun _ hr => hr
    case lists => exact fun _ hr => hr
    case stored => exact fun _ => stored_retain s _
    case others => exact fun _ m _ => ⟨rfl, rfl, rfl, rfl, rfl, rfl, rfl, rfl⟩
    all_goals (intro h; cases h)

theorem upholds_enterWarning (hall : ∀ n, c.lanes n) : Upholds c s s.enterWarning :=
  ((upholds_modPower (by exact id)).trans upholds_post).trans (.eachLane (fun _ m => upholds_abortOp (hall m)) _)

theorem upholds_judgeSupply {mv : Nat} (hall : ∀ n, c.lanes n) : Upholds c s (s.judgeSupply mv) :=
  .iteSelf fun _ => upholds_enterWarning hall

theorem upholds_warnLevelSet {mv level : Nat} (hall : ∀ n, c.lanes n) : Upholds c s (State.warnLevelSet mv level s).1 :=
  (upholds_judgeSupply hall).after (upholds_modSettings rfl rfl rfl)

theorem upholds_warningEnds {mv : Nat} (hall : ∀ n, c.lanes n) : Upholds c s (s.warningEnds mv) :=
  .iteSelf fun _ => ((upholds_modPower (by exact id)).trans upholds_post).trans
    (.eachLane (fun _ m => upholds_modLane (hall m)) _)

theorem upholds_calEnableFalls (hall : ∀ n, c.lanes n) : Upholds c s s.calEnableFalls := by
  have falls : Upholds c s (s.modPower fun p => { p with calEnable := false }) := upholds_modPower id
  exact .ite (fun _ => falls.trans (.eachLane (fun _ m => upholds_abortOp (hall m)) _)) fun _ => falls

/-! ### Records of the site -/

theorem upholds_siteOpens (hall : ∀ n, c.lanes n) : Upholds c s s.siteOpens.1 :=
  Upholds.after (.eachLane (fun _ m => upholds_modLane (hall m)) _) (upholds_modSettings rfl rfl rfl)

theorem upholds_siteClosesLane (hn : c.lanes n) : Upholds c s (s.siteClosesLane n) := by
  unfold State.siteClosesLane
  split
  · exact upholds_enterClosed hn
  · exact .refl c s
  · exact upholds_modLane hn

theorem upholds_siteCloses (hall : ∀ n, c.lanes n) : Upholds c s s.siteCloses.1 :=
  Upholds.after (.eachLane (fun _ m => upholds_siteClosesLane (hall m)) _) (upholds_modSettings rfl rfl rfl)

theorem upholds_linkResets : Upholds c s s.linkResets.1 :=
  (upholds_setEvents fun _ => ⟨Nat.zero_le _, Nat.zero_le _, fun _ => rfl⟩).after upholds_modLink

theorem upholds_allResets : Upholds c s s.allResets.1 := by
  unfold State.allResets
  dsimp only
  exact upholds_modLink

theorem upholds_timeSet {b : Body SiteTime} : Upholds c s (State.timeSet b s).1 := by
  cases b with
  | misfit => exact .refl c s
  | item x =>
    unfold State.timeSet
    dsimp only
    exact upholds_modClock

theorem upholds_restartLane (hn : c.lanes n) : Upholds c s (s.restartLane n) := by
  have restarts : Upholds c s (s.modLane n fun _ => startLane .idle) := upholds_modLane hn
  exact .ite (fun _ => restarts.trans (upholds_enterClosed hn)) fun _ => restarts.trans (upholds_enterIdle hn)

theorem upholds_startedAndTreated {cause : StartCause} {failed : SectionSet} (hv : c.visits → s.ret.VisitsAccounted) :
    Upholds c s (s.startedAndTreated cause failed) :=
  upholds_post.trans (upholds_treatVisits _ _ (untreated_all (s := s) hv))

theorem upholds_restarted {readers : Quad ReaderPair} (hall : ∀ n, c.lanes n) :
    Upholds c s { s with readers := readers, lists := Quad.fill [], journalOrder := [] } := by
  apply Upholds.of_keeps (p := { readers := true, lists := true, journalOrder := true }) (keeps_restarted rfl rfl rfl)
  case lists => exact fun _ _ => ⟨fun m => by cases m <;> exact Nat.zero_le _, List.nodup_nil⟩
  case others => exact fun _ m hm => absurd (hall m) hm
  all_goals (intro h; cases h)

theorem upholds_resetLanes (hall : ∀ n, c.lanes n) (hv : c.visits → s.ret.VisitsAccounted) : Upholds c s s.resetLanes :=
  (((upholds_startedAndTreated hv).trans (upholds_restarted hall)).trans
    (.eachLane (fun _ m => upholds_restartLane (hall m)) _)).trans (.eachLane (fun _ m => upholds_command (hall m)) _)

theorem upholds_lanesReset (hall : ∀ n, c.lanes n) (hv : c.visits → s.ret.VisitsAccounted) :
    Upholds c s s.lanesReset.1 := by
  unfold State.lanesReset
  dsimp only
  exact upholds_resetLanes hall hv

theorem upholds_eventsTaken {k : Nat} : Upholds c s (s.eventsTaken k) := by
  refine upholds_setEvents fun ⟨hlen, hdrop, hflag⟩ => ?_
  unfold State.EventsBounded
  dsimp only
  have hle : (s.events.queue.drop k).length ≤ 64 := (List.drop_sublist _ _).length_le.trans hlen
  split
  · exact ⟨hle, Nat.zero_le _, fun _ => rfl⟩
  · exact ⟨hle, hdrop, hflag⟩

/-! ### The port -/

theorem upholds_receive {h : RecHead} : Upholds c s (s.receive h) := by
  unfold State.receive State.cleanRecord
  exact upholds_modLink.trans (.ite (fun _ => upholds_modLink) fun _ => upholds_post.after upholds_modLink)

theorem upholds_answer {h : RecHead} {code : ResultCode} : Upholds c s (s.answer h code) := upholds_modLink

/-- A record upholds what its action upholds, taken on the state with the record received. -/
theorem upholds_takeRecord {h : RecHead} {x : ChanType} {act : State → State × ResultCode}
    (ha : Upholds c (s.receive h) (act (s.receive h)).1) : Upholds c s (s.takeRecord h x act) := by
  have gate : Upholds c (s.receive h) (if (s.receive h).link.hasPlace then
      if admits x h.chan then (act (s.receive h)).1.answer h (act (s.receive h)).2
      else (s.receive h).answer h .wrongChannel
    else s.receive h) :=
    .iteSelf fun _ => .ite (fun _ => ha.trans upholds_answer) fun _ => upholds_answer
  exact .iteSelf fun _ => upholds_receive.trans gate

theorem upholds_takeLane {h : RecHead} {act : Lane → State → State × ResultCode}
    (ha : ∀ n, h.chan = .lane n → Upholds c (s.receive h) (act n (s.receive h)).1) : Upholds c s (s.takeLane h act) := by
  refine upholds_takeRecord ?_
  split
  · exact .refl c _
  · next n hn => exact ha n hn

theorem upholds_guarded {α β : Type} {b : Body α} {read : α → Option β} {act : β → State → State × ResultCode}
    (ha : ∀ f, Upholds c s (act f s).1) : Upholds c s (State.guarded b read act s).1 := by
  unfold State.guarded
  split
  · exact .refl c s
  · split
    · exact .refl c s
    · split
      · exact .refl c s
      · exact ha _

theorem upholds_calTakes {α β : Type} {b : Body α} {read : α → Option β} {act : β → State × ResultCode}
    (ha : ∀ f, Upholds c s (act f).1) : Upholds c s (s.calTakes b read act n).1 := by
  unfold State.calTakes
  split
  · exact .refl c s
  · split
    · exact .refl c s
    · split
      · exact .refl c s
      · exact ha _

theorem upholds_takeRead {h : RecHead} {x : ChanType} {act : State → Except ResultCode ReadOut}
    (ha : ∀ t out, act t = .ok out → Upholds c t out.state) : Upholds c s (s.takeRead h x act) := by
  unfold State.takeRead
  dsimp only
  refine .iteSelf fun _ => .ite (fun _ => .ite (fun _ => ?_) fun _ => ?_) fun _ => upholds_receive
  · split
    · exact upholds_answer.after upholds_receive
    · next out hout =>
      exact .ite (fun _ => upholds_modLink.after ((ha _ out hout).after upholds_receive)) fun _ =>
        upholds_answer.after upholds_receive
  · exact upholds_answer.after upholds_receive

/-- A READ that leaves the state as it is, whatever its payload. -/
theorem upholds_readFrom {h : RecHead} {x : ChanType} {act : State → Except ResultCode ReadOut}
    (ha : ∀ t out, act t = .ok out → out.state = t) : Upholds c s (s.takeRead h x act) :=
  upholds_takeRead fun t out hout => by rw [ha t out hout]; exact .refl c t

theorem noStart_state {b : Body Unit} {act : State → Except ResultCode ReadOut} {out : ReadOut}
    (ha : ∀ out, act s = .ok out → out.state = s) (h : noStart b act s = .ok out) : out.state = s := by
  cases b with
  | misfit => cases h
  | item => exact ha out h

theorem upholds_readSite {h : RecHead} {x : ChanType} {b : Body Unit} {payload : State → List Byte} :
    Upholds c s (s.takeRead h x (noStart b (readOnly payload))) :=
  upholds_readFrom fun _ _ hout => noStart_state (fun _ hr => by cases hr; rfl) hout

theorem upholds_readLane {h : RecHead} {b : Body Unit} {payload : State → Lane → List Byte} :
    Upholds c s (s.readLane h b payload) :=
  upholds_readFrom fun _ _ hout => noStart_state
    (fun _ hr => by
      split at hr
      · cases hr
      · cases hr; rfl) hout

theorem upholds_takeTurn {h : RecHead} : Upholds c s (s.takeTurn h) := by
  refine .iteSelf fun _ => ?_
  have receives : Upholds c s ((s.receive h).modLink fun p => { p with turn := true }) :=
    upholds_receive.trans upholds_modLink
  exact .ite (fun _ => receives.trans upholds_modLink) fun _ => receives

theorem upholds_endTransmission : Upholds c s s.endTransmission :=
  .ite (fun _ => upholds_modLink) fun _ => upholds_modLink

theorem upholds_gapEnds {cut : Option HeaderMarks} : Upholds c s (s.gapEnds cut) := by
  unfold State.gapEnds
  split
  · exact upholds_endTransmission.after upholds_modLink
  · exact upholds_endTransmission.after upholds_modLink
  · exact upholds_endTransmission
  · exact .refl c s
  · exact upholds_endTransmission
  all_goals exact .refl c s

/-- A RESET ALL puts the part into reset; it does not take it out (R212). -/
theorem upholds_replyEnds : Upholds c s s.replyEnds := by
  refine .iteSelf fun _ => ?_
  have ends : Upholds c s (s.modLink fun p => { p with port := .waiting, replies := [], resetAll := false }) :=
    upholds_modLink
  exact .ite (fun _ => ends.trans (upholds_modPower nofun)) fun _ => ends

/-- What the job that holds the bus meets; without one nothing happens. -/
theorem upholds_busJob {act : PrintJob → State} (ha : ∀ j, Upholds c s (act j)) :
    Upholds c s (match s.busJob with
      | some j => act j
      | none => s) := by
  split
  · exact ha _
  · exact .refl c s

end Sys2Proof.Proofs
end

section
/-! O4 and O6 to O13: every command but the resets and the start-up upholds the invariants together; a reset leaves the
sections, and a start-up begins from a state in which the invariants hold of what it restored. -/

namespace Sys2Proof.Proofs
open Sys2Proof Sys2Proof.Machine

variable {c : Scope} {s t u : State} {n : Lane}

/-! ### Every command -/

/-- The commands that replace the update copy or the whole of the state: the resets and the start-up. -/
def Restarts : Instr → Prop
  | .brownOutReset .. => True
  | .resetLine _ => True
  | .startUp _ => True
  | _ => False

/-- The lane whose loops a command may make report anew: by a measurement, or by a loop learned again. -/
def hearsLane : Instr → Lane → Prop
  | .loopMeasurement n _ _, m => m = n
  | .setupLoop h _, m => h.chan = .lane m
  | _, _ => False

/-- The scope holds the lanes that the command is for, those it hears, and what stands in order at its beginning. -/
structure Covers (c : Scope) (s : State) (i : Instr) : Prop where
  lanes : ∀ m, s.laneOf i = none ∨ s.laneOf i = some m → c.lanes m
  heard : ∀ m, hearsLane i m → c.heard m
  visits : c.visits → s.ret.VisitsAccounted
  table : c.table → s.ret.ProvisionalCounted

theorem laneOfChan_lanes {h : RecHead} (hc : ∀ m, laneOfChan h.chan = none ∨ laneOfChan h.chan = some m → c.lanes m)
    (n : Lane) (hn : h.chan = .lane n) : c.lanes n := hc n (.inr (by rw [hn]; rfl))

/-- A record of a lane that acts for its own lane alone. -/
theorem upholds_ofLane {h : RecHead} {act : Lane → State → State × ResultCode}
    (hc : ∀ m, laneOfChan h.chan = none ∨ laneOfChan h.chan = some m → c.lanes m)
    (ha : ∀ n s1, c.lanes n → Upholds c s1 (act n s1).1) : Upholds c s (s.takeLane h act) :=
  upholds_takeLane fun n hn => ha n _ (laneOfChan_lanes hc n hn)

theorem exec_upholds {i : Instr} (hi : ¬Restarts i) (hc : Covers c s i) : ∃ t, exec i s = .next t ∧ Upholds c s t := by
  obtain ⟨hlanes, hheard, hvisits, htable⟩ := hc
  cases i with
  | frameStart => exact ⟨_, rfl, (upholds_frameStarts fun m => hlanes m (.inl rfl)).whileRunning⟩
  | deckSample => exact ⟨_, rfl, (upholds_slotEnds fun n hn => hlanes n (.inr hn)).whileRunning⟩
  | zeroCaptureComplete =>
    exact ⟨_, rfl, (Upholds.iteSelf fun _ => upholds_slotEnds fun n hn => hlanes n (.inr hn)).whileRunning⟩
  | spanCaptureComplete =>
    exact ⟨_, rfl, (Upholds.iteSelf fun _ => upholds_slotEnds fun n hn => hlanes n (.inr hn)).whileRunning⟩
  | siteTimeAdvance => exact ⟨_, rfl, (upholds_advance fun m => hlanes m (.inl rfl)).whileRunning⟩
  | loopStuck n => exact ⟨_, rfl, (upholds_stuckExpires (hlanes n (.inr rfl))).whileRunning⟩
  | approvalTimeout => exact ⟨_, rfl, (upholds_approvalExpires fun m => hlanes m (.inl rfl)).whileRunning⟩
  | passTimeout n => exact ⟨_, rfl, (upholds_passExpires (hlanes n (.inr rfl))).whileRunning⟩
  | minuteSweep => exact ⟨_, rfl, (upholds_minuteSweeps htable).whileRunning⟩
  | linkLost => exact ⟨_, rfl, (upholds_linkExpires (fun m => hlanes m (.inl rfl)) hvisits).whileRunning⟩
  | loopMeasurement n => exact ⟨_, rfl, (upholds_measureLoop (hlanes n (.inr rfl)) (hheard n rfl)).whileRunning⟩
  | learningEnd n => exact ⟨_, rfl, (upholds_learningEnds (hlanes n (.inr rfl))).whileRunning⟩
  | limitSwitchChange n =>
    exact ⟨_, rfl, .ite (fun _ => upholds_switchChanges (hlanes n (.inr rfl))) fun _ =>
      upholds_setSwitch (hlanes n (.inr rfl))⟩
  | comparatorTrip n =>
    exact ⟨_, rfl, .ite (fun _ => upholds_comparatorTrips (hlanes n (.inr rfl))) fun _ =>
      upholds_modBarrier (hlanes n (.inr rfl)) id⟩
  | comparatorBlankingEnd n => exact ⟨_, rfl, (upholds_blankingEnds (hlanes n (.inr rfl))).whileRunning⟩
  | barrierRampStep n =>
    exact ⟨_, rfl, (upholds_modBarrier (hlanes n (.inr rfl)) barrierOk_rampedBarrier).whileRunning⟩
  | travelTimeout n =>
    exact ⟨_, rfl, (Upholds.iteSelf fun _ => upholds_enterFault (hlanes n (.inr rfl))).whileRunning⟩
  | reversingPauseEnd n => exact ⟨_, rfl, (upholds_pauseEnds (hlanes n (.inr rfl))).whileRunning⟩
  | tokenFrame n => exact ⟨_, rfl, (upholds_gather (hlanes n (.inr rfl))).whileRunning⟩
  | tokenFrameGap n => exact ⟨_, rfl, (upholds_modPort (hlanes n (.inr rfl))).whileRunning⟩
  | admissionProcedure n =>
    have hn := hlanes n (.inr rfl)
    exact ⟨_, rfl, (upholds_decides hn fun _ _ => upholds_admission hn).whileRunning⟩
  | exitProcedure n =>
    have hn := hlanes n (.inr rfl)
    exact ⟨_, rfl, (upholds_decides hn fun _ _ => upholds_exitDecision hn).whileRunning⟩
  | close n => exact ⟨_, rfl, (upholds_takeClose (hlanes n (.inr rfl))).whileRunning⟩
  | printLineTransfer acked =>
    refine ⟨_, rfl, (upholds_busJob fun j => ?_).whileRunning⟩
    split
    · exact upholds_transferEnds fun m => hlanes m (.inl rfl)
    · exact .refl c s
  | printerStatusRead r =>
    refine ⟨_, rfl, (upholds_busJob fun j => ?_).whileRunning⟩
    split
    · exact upholds_statusReads fun m => hlanes m (.inl rfl)
    · exact .refl c s
  | printTimeout =>
    refine ⟨_, rfl, (upholds_busJob fun j => ?_).whileRunning⟩
    split
    · exact upholds_endJob fun m => hlanes m (.inl rfl)
    · exact .refl c s
  | transmissionEnd => exact ⟨_, rfl, upholds_gapEnds.whileRunning⟩
  | replyComplete => exact ⟨_, rfl, upholds_replyEnds.whileRunning⟩
  | headerBad => exact ⟨_, rfl, .iteSelf fun _ => upholds_modLink⟩
  | recordNotExecuted r =>
    refine ⟨_, rfl, ?_⟩
    cases r with
    | damaged => exact .iteSelf fun _ => upholds_modLink
    | unlisted => exact upholds_takeRecord (.refl c _)
  | turn => exact ⟨_, rfl, upholds_takeTurn⟩
  | siteOpen => exact ⟨_, rfl, upholds_takeRecord (upholds_siteOpens fun m => hlanes m (.inl rfl))⟩
  | siteClose => exact ⟨_, rfl, upholds_takeRecord (upholds_siteCloses fun m => hlanes m (.inl rfl))⟩
  | laneOpen => exact ⟨_, rfl, upholds_ofLane hlanes fun _ _ => upholds_laneOpens⟩
  | laneClose => exact ⟨_, rfl, upholds_ofLane hlanes fun _ _ => upholds_laneCloses⟩
  | laneClear => exact ⟨_, rfl, upholds_ofLane hlanes fun _ _ => upholds_laneClears⟩
  | barrierRaise => exact ⟨_, rfl, upholds_ofLane hlanes fun _ _ => upholds_barrierRaises⟩
  | barrierLower => exact ⟨_, rfl, upholds_ofLane hlanes fun _ _ => upholds_barrierLowers⟩
  | barrierReset => exact ⟨_, rfl, upholds_ofLane hlanes fun _ _ => upholds_barrierResets⟩
  | approve => exact ⟨_, rfl, upholds_ofLane hlanes fun _ _ => upholds_approves⟩
  | decline => exact ⟨_, rfl, upholds_takeLane fun _ _ => upholds_declines fun m => hlanes m (.inl rfl)⟩
  | returnVisit => exact ⟨_, rfl, upholds_ofLane hlanes fun _ _ => upholds_returns⟩
  | zero => exact ⟨_, rfl, upholds_ofLane hlanes fun _ _ => upholds_zeroes⟩
  | day => exact ⟨_, rfl, upholds_takeRecord upholds_newDay⟩
  | resetLink => exact ⟨_, rfl, upholds_takeRecord upholds_linkResets⟩
  | resetLanes =>
    have accounted : ∀ h, c.visits → (s.receive h).ret.VisitsAccounted := fun h hv => by
      rw [receive_ret]
      exact hvisits hv
    exact ⟨_, rfl, upholds_takeRecord (upholds_lanesReset (fun m => hlanes m (.inl rfl)) (accounted _))⟩
  | resetAll => exact ⟨_, rfl, upholds_takeRecord upholds_allResets⟩
  | time => exact ⟨_, rfl, upholds_takeRecord upholds_timeSet⟩
  | vehicleWrite => exact ⟨_, rfl, upholds_takeRecord (upholds_guarded fun _ => upholds_vehicleWrites)⟩
  | vehicleDelete => exact ⟨_, rfl, upholds_takeRecord (upholds_guarded fun _ => upholds_vehicleDeletes)⟩
  | accountWrite => exact ⟨_, rfl, upholds_takeRecord (upholds_guarded fun _ => upholds_accountWrites)⟩
  | accountPeriodReset => exact ⟨_, rfl, upholds_takeRecord (upholds_guarded fun _ => upholds_periodResets)⟩
  | ident => exact ⟨_, rfl, upholds_ofLane hlanes fun _ _ => upholds_idents⟩
  | zeroCapture => exact ⟨_, rfl, upholds_ofLane hlanes fun _ _ hn => upholds_calTakes fun _ => upholds_zeroStarts hn⟩
  | spanCapture => exact ⟨_, rfl, upholds_ofLane hlanes fun _ _ hn => upholds_calTakes fun _ => upholds_spanStarts hn⟩
  | trim => exact ⟨_, rfl, upholds_ofLane hlanes fun _ _ hn => upholds_calTakes fun _ => upholds_trims hn⟩
  | range => exact ⟨_, rfl, upholds_ofLane hlanes fun _ _ hn => upholds_calTakes fun _ => upholds_ranges hn⟩
  | abort => exact ⟨_, rfl, upholds_ofLane hlanes fun _ _ => upholds_calAborts⟩
  | ticketsRelease =>
    exact ⟨_, rfl, upholds_takeRecord (upholds_guarded fun _ => upholds_ticketsReleased fun m => hlanes m (.inl rfl))⟩
  | ticketsReprint => exact ⟨_, rfl, upholds_takeRecord (upholds_guarded fun _ => upholds_ticketReprints)⟩
  | stock => exact ⟨_, rfl, upholds_takeRecord (upholds_guarded fun _ => upholds_stockSet)⟩
  | setupSlotPlan | setupClass | setupStream | setupAdmission | setupLink =>
    exact ⟨_, rfl, upholds_takeRecord (upholds_guarded fun _ => upholds_settingsSet rfl rfl rfl)⟩
  | setupDeckCells => exact ⟨_, rfl, upholds_ofLane hlanes fun _ _ hn => upholds_guarded fun _ => upholds_cellsSet hn⟩
  | setupDeckFilter | setupDeckSettling =>
    exact ⟨_, rfl, upholds_ofLane hlanes fun _ _ hn => upholds_guarded fun _ => upholds_deckSettingsSet hn⟩
  | setupOccupancyLevel | setupPartAge | setupBarrier | setupLanePolicy | setupPrinter =>
    exact ⟨_, rfl, upholds_ofLane hlanes fun _ _ hn => upholds_guarded fun _ => upholds_laneSettingsSet hn rfl⟩
  | setupLoop =>
    exact ⟨_, rfl, upholds_takeLane fun n hn => upholds_guarded fun _ =>
      upholds_loopSet (laneOfChan_lanes hlanes n hn) (hheard n hn)⟩
  | setupWaitingList =>
    exact ⟨_, rfl, upholds_takeRecord (upholds_guarded fun _ => upholds_listsSet fun m => hlanes m (.inl rfl))⟩
  | setupVehicleTable => exact ⟨_, rfl, upholds_takeRecord (upholds_guarded fun _ => upholds_vehicleTableSet)⟩
  | setupSupply =>
    exact ⟨_, rfl, upholds_takeRecord (upholds_guarded fun _ => upholds_warnLevelSet fun m => hlanes m (.inl rfl))⟩
  | readAcquisitionState | readDeckReadings | readClassTable | readStreams | readPrinters | readLink | readSupply =>
    exact ⟨_, rfl, upholds_readSite⟩
  | readCaptureState | readCalibrationState | readLaneDevices | readLaneState => exact ⟨_, rfl, upholds_readLane⟩
  | readWaitingLists | readAccountTable =>
    refine ⟨_, rfl, upholds_readFrom fun s1 out ho => ?_⟩
    split at ho
    · cases ho
    · cases ho; rfl
  | readVehicleTable | readVisitTable =>
    refine ⟨_, rfl, upholds_readFrom fun s1 out ho => ?_⟩
    split at ho
    · cases ho
    · split at ho
      · cases ho
      · cases ho; rfl
      · cases ho; rfl
  | readJournal =>
    refine ⟨_, rfl, upholds_readFrom fun s1 out ho => ?_⟩
    split at ho
    · cases ho
    · split at ho
      · cases ho
      · cases ho; rfl
  | readEvents h b =>
    refine ⟨_, rfl, upholds_takeRead fun s1 out ho => ?_⟩
    cases b with
    | misfit => cases ho
    | item => cases ho; exact upholds_eventsTaken
  | calEnableRise => exact ⟨_, rfl, upholds_modPower id⟩
  | calEnableFall => exact ⟨_, rfl, upholds_calEnableFalls fun m => hlanes m (.inl rfl)⟩
  | supplyWarningEnter => exact ⟨_, rfl, (upholds_judgeSupply fun m => hlanes m (.inl rfl)).whileRunning⟩
  | supplyWarningEnd => exact ⟨_, rfl, (upholds_warningEnds fun m => hlanes m (.inl rfl)).whileRunning⟩
  | brownOutReset => exact absurd trivial hi
  | resetLine => exact absurd trivial hi
  | startUp => exact absurd trivial hi
  | comparatorClear n => exact ⟨_, rfl, upholds_modBarrier (hlanes n (.inr rfl)) id⟩
  | idleGapAtRelease => exact ⟨_, rfl, upholds_modLink.whileRunning⟩

/-- The scope of a command: its own lanes, the lanes it hears, and the tables as they stand. -/
def scopeOf (s : State) (i : Instr) : Scope where
  lanes m := s.laneOf i = none ∨ s.laneOf i = some m
  heard := hearsLane i
  visits := s.ret.VisitsAccounted
  table := s.ret.ProvisionalCounted

theorem covers_scopeOf (s : State) (i : Instr) : Covers (scopeOf s i) s i := ⟨fun _ => id, fun _ => id, id, id⟩

theorem next_upholds {i : Instr} (hi : ¬Restarts i) (h : exec i s = .next t) : Upholds (scopeOf s i) s t := by
  obtain ⟨u, hu, hup⟩ := exec_upholds hi (covers_scopeOf s i)
  cases hu.symm.trans h
  exact hup

/-- Settles O4: what a command upholds, with the lane it is for as its scope. -/
theorem otherLanesUntouched : Obligations.OtherLanesUntouched := by
  intro i s t n m hn h hne
  have hi : ¬Restarts i := by
    intro hr
    cases i <;> first | exact hr | cases hn
  refine (next_upholds hi h).others m ?_
  rintro (hnone | hsome)
  · rw [hn] at hnone
    cases hnone
  · rw [hn] at hsome
    exact hne (Option.some.inj hsome).symm

/-! ### The start-up and the resets -/

/-- The scope of a start-up: every lane, none of them heard, and the tables as they stand. -/
def fullScope (s : State) : Scope := ⟨fun _ => True, fun _ => False, s.ret.VisitsAccounted, s.ret.ProvisionalCounted⟩

theorem restartedTicket_number (x : Ticket) : (restartedTicket x).number = x.number := by
  unfold restartedTicket
  split <;> rfl

theorem upholds_postStartFault : Upholds c s (s.postStartFault n) := by
  unfold State.postStartFault
  split
  · exact upholds_post
  · exact .refl c s

theorem upholds_startSupply {mv : Nat} : Upholds c s (s.startSupply mv) :=
  .iteSelf fun _ => upholds_post.after (upholds_modPower (by exact id))

/-- A start-up goes on from the volatile reset over what it restored (R210). -/
theorem upholds_startOver {cause : StartCause} {failed : SectionSet} {found : CopyFound} {env : StartEnv}
    (hall : ∀ n, c.lanes n) (hv : c.visits → (restored failed s.ret).VisitsAccounted) :
    Upholds c (s.volatileReset (restored failed s.ret) env) (s.startOver cause failed found env) := by
  unfold State.startOver
  dsimp only
  refine upholds_startSupply.after (Upholds.after (.eachLane (fun _ _ => upholds_postStartFault) _)
    (Upholds.after (.eachLane (fun _ m => upholds_restartLane (hall m)) _) (Upholds.after (upholds_startedAndTreated hv)
      (Upholds.after (upholds_modTickets fun hr => journalOrdered_kept restartedTicket_number hr rfl rfl) ?_))))
  exact upholds_modPower fun _ => rfl

/-- What a start-up leaves comes of a volatile reset over restored contents, which were the sections or a good copy. -/
theorem startUp_from (s : State) (cause : StartCause) (env : StartEnv) :
    ∃ (u : State) (f : SectionSet), (u.ret = s.ret ∨ ∃ k, s.copy = .complete u.ret k)
      ∧ Upholds (fullScope (u.volatileReset (restored (reckoned f) u.ret) env))
        (u.volatileReset (restored (reckoned f) u.ret) env) (s.startUp cause env) := by
  refine ⟨s.settleCopy env.damage.copy, _, ?_, upholds_startOver (fun _ => trivial) id⟩
  unfold State.settleCopy
  split
  · next contents hgood =>
    right
    unfold UpdateCopy.good at hgood
    split at hgood
    · next copy r k hcopy =>
      split at hgood
      · cases hgood
        exact ⟨k, hcopy⟩
      · cases hgood
    · cases hgood
    · cases hgood
  · exact .inl rfl

/-- What a reset leaves in the update copy: what it caught, or what was there (R209). -/
theorem reset_copy {i : Instr} (hi : Restarts i) (hstart : ∀ env, i ≠ .startUp env) (h : exec i s = .next t) :
    t.ret = s.ret ∧ t.checks = s.checks ∧ Keeps { power := true, copy := true } s t
      ∧ (t.copy = s.copy ∧ (t = s ∨ t.power.held ≠ none)
        ∨ t.power.held ≠ none ∧ ∀ r k, t.copy = .complete r k → r = s.ret ∧ k = Config.sectionCheck s.ret) := by
  have hold : ∀ (cause : StartCause) (k : Caught), (s.holdReset cause k).copy = s.copy
      ∨ ∀ r j, (s.holdReset cause k).copy = .complete r j → r = s.ret ∧ j = Config.sectionCheck s.ret := by
    intro cause k
    cases hrun : s.running with
    | false => exact .inl (if_neg (by rw [hrun]; exact Bool.false_ne_true))
    | true =>
      refine .inr fun r j hrj => ?_
      have hcopy : (s.holdReset cause k).copy = s.caughtCopy k := if_pos hrun
      rw [hcopy] at hrj
      cases k with
      | empty => cases hrj
      | incomplete => cases hrj
      | complete =>
        cases hrj
        exact ⟨rfl, rfl⟩
  cases i with
  | brownOutReset mv k =>
    obtain rfl : s.brownsOut mv k = t := Host.Outcome.next.inj h
    have hkeeps : Keeps { power := true, copy := true } s (s.brownsOut mv k) := keeps_brownsOut rfl rfl
    have hret := retained_ext (hkeeps.cal rfl) (hkeeps.settings rfl) (hkeeps.ident rfl) (hkeeps.traffic rfl) (hkeeps.tickets rfl)
    refine ⟨hret, hkeeps.checks rfl, hkeeps, ?_⟩
    unfold State.brownsOut
    split
    · exact (hold .power k).imp (fun hcopy => ⟨hcopy, .inr nofun⟩) fun hcopy => ⟨nofun, hcopy⟩
    · exact .inl ⟨rfl, .inl rfl⟩
  | resetLine k =>
    obtain rfl : s.lineResets k = t := Host.Outcome.next.inj h
    exact ⟨rfl, rfl, keeps_lineResets rfl rfl,
      (hold _ k).imp (fun hcopy => ⟨hcopy, .inr nofun⟩) fun hcopy => ⟨nofun, hcopy⟩⟩
  | startUp env => exact absurd rfl (hstart env)
  | _ => exact hi.elim

/-- A start-up either finds nothing to do or leaves what `startUp` leaves. -/
theorem leavesReset_cases (s : State) (env : StartEnv) :
    s.leavesReset env = s ∨ ∃ cause, s.leavesReset env = s.startUp cause env := by
  unfold State.leavesReset
  split
  · exact .inl rfl
  · split
    · exact .inr ⟨_, rfl⟩
    · exact .inl rfl

/-! ### Invariants of the contents of retained memory -/

/-- What a command upholds of the contents of the sections, it upholds of both kinds of contents. -/
theorem exec_eachRetained {G : Retained → Prop} {i : Instr}
    (hup : ∀ {c s t}, Upholds c s t → (s.ret.VisitsAccounted → c.visits) → (s.ret.ProvisionalCounted → c.table) →
      G s.ret → G t.ret)
    (hrestored : ∀ f r, G r → G (restored (reckoned f) r)) (hs : s.eachRetained G) (h : exec i s = .next t) :
    t.eachRetained G := by
  obtain ⟨hret, hcopy⟩ := hs
  by_cases hi : Restarts i
  · by_cases hstart : ∃ env, i = .startUp env
    · obtain ⟨env, rfl⟩ := hstart
      obtain rfl : s.leavesReset env = t := Host.Outcome.next.inj h
      rcases leavesReset_cases s env with heq | ⟨cause, heq⟩
      · rw [heq]
        exact ⟨hret, hcopy⟩
      · rw [heq]
        obtain ⟨u, f, hu, hupholds⟩ := startUp_from s cause env
        have hgood : G u.ret := hu.elim (fun hr => hr ▸ hret) fun ⟨k, hk⟩ => hcopy _ k hk
        refine eachRetained_of_empty ?_ (hup hupholds id id (hrestored f _ hgood))
        exact hupholds.stored.elim (fun hsame => hsame.2.2) fun hnew => hnew.2
    · obtain ⟨hsame, -, -, hcaught⟩ := reset_copy hi (fun env he => hstart ⟨env, he⟩) h
      refine ⟨hsame ▸ hret, fun r k hrk => ?_⟩
      rcases hcaught with ⟨hkept, -⟩ | ⟨-, hcomplete⟩
      · exact hcopy r k (hkept ▸ hrk)
      · exact (hcomplete r k hrk).1 ▸ hret
  · have hupholds := next_upholds hi h
    refine ⟨hup hupholds id id hret, fun r k hrk => ?_⟩
    rcases hupholds.stored with ⟨-, -, hkept⟩ | ⟨-, hempty⟩
    · exact hcopy r k (hkept ▸ hrk)
    · rw [hempty] at hrk
      cases hrk

/-- A step takes a command or leaves the state as it is; the commands that wait are no part of an invariant. -/
theorem step_of_exec {I : State → Prop} (hpending : ∀ s q, I s → I { s with pending := q })
    (hexec : ∀ i s t, exec i s = .next t → I s → I t) (h : step s = .next t) (hs : I s) : I t := by
  unfold step at h
  split at h
  · cases h
    exact hs
  · exact hexec _ _ t h (hpending s _ hs)

theorem step_eachRetained {G : Retained → Prop}
    (hup : ∀ {c s t}, Upholds c s t → (s.ret.VisitsAccounted → c.visits) → (s.ret.ProvisionalCounted → c.table) →
      G s.ret → G t.ret)
    (hrestored : ∀ f r, G r → G (restored (reckoned f) r)) (hs : s.eachRetained G) (h : step s = .next t) :
    t.eachRetained G :=
  step_of_exec (I := fun s => s.eachRetained G) (fun _ _ => id)
    (fun _ _ _ hexec hs => exec_eachRetained hup hrestored hs hexec) h hs

/-! ### What a start-up restores meets the invariants -/

theorem zeroWithin_restored (f : SectionSet) {r : Retained} (h : r.ZeroWithin) : (restored f r).ZeroWithin := by
  intro n
  cases hf : f.calibration with
  | true =>
    simp only [restored, hf, if_true]
    exact factoryRetained_zeroWithin n
  | false =>
    simp only [restored, hf]
    exact h n

theorem journalOrdered_restored (f : SectionSet) {r : Retained} (h : r.JournalOrdered) :
    (restored f r).JournalOrdered := by
  cases hf : f.tickets with
  | true =>
    simp only [Retained.JournalOrdered, restored, hf, if_true]
    exact factoryRetained_journalOrdered
  | false =>
    simp only [Retained.JournalOrdered, restored, hf]
    exact h

/-- Identities and traffic are restored together (R210). -/
theorem visitsAccounted_restored (f : SectionSet) {r : Retained} (h : r.VisitsAccounted) :
    (restored (reckoned f) r).VisitsAccounted := by
  cases hf : f.identities || f.traffic with
  | true =>
    simp only [Retained.VisitsAccounted, restored, reckoned, hf, if_true]
    exact factoryRetained_visitsAccounted
  | false =>
    simp only [Retained.VisitsAccounted, restored, reckoned, hf]
    exact h

/-- The learned-entry limit of factory settings is raised to cover the PROVISIONAL entries kept (R210). -/
theorem le_raisedLimit (k : Nat) : k ≤ raisedLimit k := by
  unfold raisedLimit ceilDiv
  split <;> omega

theorem provisionalCounted_restored (f : SectionSet) {r : Retained} (h : r.ProvisionalCounted) :
    (restored f r).ProvisionalCounted := by
  have hident : ∀ {i : Identities}, i = (if f.identities then factoryIdentities else r.ident) →
      i.vehicles.length ≤ 512 ∧ (i.vehicles.map (·.token.toNat)).Pairwise (· < ·)
        ∧ i.provisional = i.vehicles.countP (fun v => v.origin == .provisional) ∧ i.provisional ≤ r.settings.learnLimit := by
    obtain ⟨hlen, hsorted, hright, hle⟩ := h
    intro i hi
    split at hi
    · rw [hi]
      exact ⟨Nat.zero_le _, List.Pairwise.nil, rfl, Nat.zero_le _⟩
    · rw [hi]
      exact ⟨hlen, hsorted, hright, hle⟩
  obtain ⟨hlen, hsorted, hright, hle⟩ := hident rfl
  refine ⟨hlen, hsorted, hright, ?_⟩
  unfold restored
  dsimp only
  cases f.settings with
  | true => exact le_raisedLimit _
  | false => exact hle

theorem depthsShared_restored (f : SectionSet) {r : Retained} (h : r.DepthsShared) : (restored f r).DepthsShared := by
  cases hf : f.settings with
  | true =>
    simp only [Retained.DepthsShared, restored, hf, if_true]
    decide
  | false =>
    simp only [Retained.DepthsShared, restored, hf]
    exact h

/-- Settles O7: a zero offset moves only within its limit, and a RANGE past it is refused. -/
theorem stepKeepsZeroWithinLimit : Obligations.StepKeepsZeroWithinLimit := fun _ _ hs h =>
  step_eachRetained (fun hup _ _ => hup.zero) (fun f _ => zeroWithin_restored (reckoned f)) hs h

/-- Settles O8: a ticket joins under the counter's number and with room, and tickets leave from the oldest on. -/
theorem stepKeepsJournalNumbered : Obligations.StepKeepsJournalNumbered := fun _ _ hs h =>
  step_eachRetained (fun hup _ _ => hup.journal) (fun f _ => journalOrdered_restored (reckoned f)) hs h

/-- Settles O9: a visit comes under a free number and goes with what it reserved. -/
theorem stepKeepsVisitsAccounted : Obligations.StepKeepsVisitsAccounted := fun _ _ hs h =>
  step_eachRetained (fun hup hv _ hr => hup.visits (hv hr) hr) (fun f _ => visitsAccounted_restored f) hs h

/-- Settles O10: each entry that comes, goes or is written over is counted as its origin says. -/
theorem stepKeepsProvisionalCounted : Obligations.StepKeepsProvisionalCounted := fun _ _ hs h =>
  step_eachRetained (fun hup _ ht hr => hup.table (ht hr) hr) (fun f _ => provisionalCounted_restored (reckoned f)) hs h

/-! ### Invariants of the volatile state -/

/-- An invariant of parts that no reset touches, true at once after a volatile reset. -/
theorem exec_volatile {I : State → Prop} {i : Instr} (hexec : ¬Restarts i → I s → I t)
    (hup : ∀ {s t}, Upholds (fullScope s) s t → I s → I t)
    (hreset : ∀ {s t}, Keeps { power := true, copy := true } s t → I s → I t)
    (hbase : ∀ (s : State) r env, I (s.volatileReset r env)) (h : exec i s = .next t) (hs : I s) : I t := by
  by_cases hi : Restarts i
  · by_cases hstart : ∃ env, i = .startUp env
    · obtain ⟨env, rfl⟩ := hstart
      obtain rfl : s.leavesReset env = t := Host.Outcome.next.inj h
      rcases leavesReset_cases s env with heq | ⟨cause, heq⟩
      · rw [heq]
        exact hs
      · rw [heq]
        obtain ⟨u, f, -, hupholds⟩ := startUp_from s cause env
        exact hup hupholds (hbase u _ env)
    · obtain ⟨-, -, hkeeps, -⟩ := reset_copy hi (fun env he => hstart ⟨env, he⟩) h
      exact hreset hkeeps hs
  · exact hexec hi hs

/-- Settles O6: an event joins with room or is counted as dropped, and a job joins a queue with room for it. -/
theorem stepKeepsQueuesBounded : Obligations.StepKeepsQueuesBounded := by
  intro s t h
  refine ⟨step_of_exec (fun _ _ => id) (fun i s t hexec => ?_) h, step_of_exec (fun _ _ => id) (fun i s t hexec => ?_) h⟩
  · refine exec_volatile (fun hi => (next_upholds hi hexec).events) (fun hup => hup.events) (fun hkeeps hs => ?_)
      (fun _ _ _ => ⟨Nat.zero_le _, Nat.zero_le _, fun _ => rfl⟩) hexec
    rw [State.EventsBounded, hkeeps.events rfl]
    exact hs
  · refine exec_volatile (fun hi => (next_upholds hi hexec).printing) (fun hup => hup.printing) (fun hkeeps hs => ?_)
      (fun _ _ _ => ?_) hexec
    · rw [State.PrintQueueBounded, hkeeps.printing rfl]
      exact hs
    · exact ⟨Nat.zero_le _, fun _ => Nat.zero_le _, Nat.zero_le _, Nat.zero_le _, fun hne => absurd rfl hne,
        List.forall_mem_nil _⟩

/-- Settles O11: a token joins one list with room and leaves the others, and the depths are set over the lists. -/
theorem stepKeepsWaitingLists : Obligations.StepKeepsWaitingLists := by
  intro s t h
  refine ⟨fun hs => step_eachRetained (fun hup _ _ => hup.depths) (fun f _ => depthsShared_restored (reckoned f)) hs h,
    step_of_exec (fun _ _ => id) (fun i s t hexec => ?_) h⟩
  refine exec_volatile (fun hi => (next_upholds hi hexec).lists) (fun hup => hup.lists) (fun {s t} hkeeps hs => ?_)
    (fun _ _ _ => ⟨fun n => by cases n <;> exact Nat.zero_le _, List.nodup_nil⟩) hexec
  have hlist : ∀ m, t.list m = s.list m := fun m => congrArg (Quad.get · m) (hkeeps.lists rfl)
  have hsettings : ∀ m, t.laneSettings m = s.laneSettings m := fun m => congrArg (·.lanes.get m) (hkeeps.settings rfl)
  rw [State.ListsWithinDepth, funext hlist, funext hsettings]
  exact hs

/-! ### The checks (R209) -/

/-- Settles O13: a retained update leaves the checks formed and the copy empty, a reset catches the sections as they
stand, and a start-up forms every check. -/
theorem stepKeepsChecksFormed : Obligations.StepKeepsChecksFormed := by
  intro s t hs h
  refine step_of_exec (I := State.ChecksFormed) (fun _ _ => id) (fun i s t hexec hs => ?_) h hs
  have formed : ∀ {c : Scope} {s t : State}, Upholds c s t → s.ChecksFormed → t.ChecksFormed := by
    rintro c s t hup ⟨hchecks, hcopy, hheld⟩
    rcases hup.stored with ⟨hret, hsame, hkept⟩ | ⟨hnew, hempty⟩
    · exact ⟨by rw [hsame, hchecks, hret], fun r k hrk => hcopy r k (hkept ▸ hrk),
        fun hnone => hkept.trans (hheld (hup.held hnone))⟩
    · exact ⟨hnew, fun r k hrk => (by rw [hempty] at hrk; cases hrk), fun _ => hempty⟩
  by_cases hi : Restarts i
  · by_cases hstart : ∃ env, i = .startUp env
    · obtain ⟨env, rfl⟩ := hstart
      obtain rfl : s.leavesReset env = t := Host.Outcome.next.inj hexec
      rcases leavesReset_cases s env with heq | ⟨cause, heq⟩
      · rw [heq]
        exact hs
      · rw [heq]
        obtain ⟨u, f, -, hupholds⟩ := startUp_from s cause env
        exact formed hupholds ⟨rfl, fun _ _ hrk => (by cases hrk), fun _ => rfl⟩
    · obtain ⟨hchecks, hcopy, hheld⟩ := hs
      obtain ⟨hret, hsame, -, hcaught⟩ := reset_copy hi (fun env he => hstart ⟨env, he⟩) hexec
      refine ⟨by rw [hsame, hret, hchecks], fun r k hrk => ?_, fun hnone => ?_⟩
      · rcases hcaught with ⟨hkept, -⟩ | ⟨-, hcomplete⟩
        · exact hcopy r k (hkept ▸ hrk)
        · obtain ⟨rfl, rfl⟩ := hcomplete r k hrk
          rfl
      · rcases hcaught with ⟨hkept, rfl | hne⟩ | ⟨hne, -⟩
        · exact hheld hnone
        · exact absurd hnone hne
        · exact absurd hnone hne
  · exact formed (next_upholds hi hexec) hs

end Sys2Proof.Proofs
end

section
/-! O12: a clear loop that reports anew may leave a barrier lowering over it, and the barrier then hears it. -/

namespace Sys2Proof.Proofs
open Sys2Proof Sys2Proof.Machine

variable {s t : State} {n : Lane}

/-- Every lane may change, none has reported anew, and nothing is asked of the tables. -/
def unheard : Scope := ⟨fun _ => True, fun _ => False, False, False⟩

/-- As `unheard`, while the barrier of one lane has yet to hear its clear loop. -/
def hearing (n : Lane) : Scope := ⟨fun _ => True, (· = n), False, False⟩

theorem barrierSafe_iff : s.BarrierSafe ↔ SafeBut (fun _ => False) s := by
  simp only [SafeBut, or_false]
  rfl

theorem safeBut_weaken (h : SafeBut (fun _ => False) s) : SafeBut (· = n) s := fun m =>
  ⟨fun hl => .inl (((h m).1 hl).resolve_right id), (h m).2⟩

/-- Where the one barrier that has yet to hear is not lowering over a loop in use, no barrier is. -/
theorem safe_of_heard (h : SafeBut (· = n) s) (hn : (s.barrier n).state = .lowering → s.clearReport n = .free) :
    SafeBut (fun _ => False) s := fun m =>
  ⟨fun hl => .inl (((h m).1 hl).elim id fun hmn => by subst hmn; exact hn hl), (h m).2⟩

theorem reverse_safe (h : SafeBut (· = n) s) : SafeBut (fun _ => False) (s.reverse n) :=
  safe_of_heard ((upholds_reverse (c := hearing n) trivial).barriers h) fun hl => by
    rw [State.reverse, State.modBarrier_barrier, if_pos rfl] at hl
    cases hl

/-- A barrier that hears its clear loop does not go on lowering over it in use (R82, R84). -/
theorem barrierHears_safe (h : SafeBut (· = n) s) : SafeBut (fun _ => False) (s.barrierHears n) := by
  unfold State.barrierHears
  split
  · next hfree => exact safe_of_heard h fun _ => hfree
  · exact reverse_safe h
  · exact reverse_safe h
  · next hfree _ => exact (upholds_seek (c := unheard) trivial).barriers (safe_of_heard h fun _ => hfree)
  · next hoccupied hfaulted =>
    refine safe_of_heard h fun hl => ?_
    cases hr : s.clearReport n with
    | free => rfl
    | occupied => exact (hoccupied hl hr).elim
    | faulted => exact (hfaulted hl hr).elim

/-- A loop moved by its condition, its event, and what its change of report brings. -/
theorem loopMoves_safe {side : LoopSide} {f : Loop → Loop} {k : Option LoopFaultKind}
    (h : SafeBut (fun _ => False) s) : SafeBut (fun _ => False)
      (((s.modLoop n side f).postLoopFault n side k).reportChanged n side (s.loop n side).report) := by
  have posted : ∀ {c : Scope} {u : State}, Upholds c u (u.postLoopFault n side k) := upholds_postLoopFault
  cases side with
  | entry =>
    have moved : SafeBut (fun _ => False) (s.modLoop n .entry f) :=
      (upholds_modLoops (c := unheard) trivial (.inr rfl)).barriers h
    exact (upholds_reportChanged (c := unheard) trivial).barriers ((posted (c := unheard)).barriers moved)
  | clear =>
    have moved : SafeBut (· = n) ((s.modLoop n .clear f).postLoopFault n .clear k) :=
      (posted (c := hearing n)).barriers ((upholds_modLoop (c := hearing n) trivial (.inl rfl)).barriers (safeBut_weaken h))
    unfold State.reportChanged
    split
    · next hsame =>
      have hloops : ((s.modLoop n .clear f).postLoopFault n .clear k).loop n .clear = f (s.loop n .clear) := by
        cases k <;> simp [State.postLoopFault, State.modLoop, State.loop]
      rw [hloops] at hsame
      exact (posted (c := unheard)).barriers
        ((upholds_modLoop (c := unheard) trivial (.inr hsame)).barriers h)
    · refine barrierHears_safe ((upholds_laneHears (c := hearing n) trivial).barriers ?_)
      exact (upholds_loopOutOfHours (c := hearing n)).barriers moved

theorem measureLoop_safe {side : LoopSide} {p : Nat} (h : SafeBut (fun _ => False) s) :
    SafeBut (fun _ => False) (s.measureLoop n side p) := loopMoves_safe h

theorem relearn_safe {side : LoopSide} (h : SafeBut (fun _ => False) s) :
    SafeBut (fun _ => False) (s.relearn n side) := by
  have moved := loopMoves_safe (n := n) (side := side) (f := relearnedLoop) (k := none) h
  cases side with
  | entry => exact moved
  | clear => exact (upholds_setCycle (c := unheard) trivial).barriers moved

theorem loopSet_safe {f : LoopSide × LoopSettings × Bool} (h : SafeBut (fun _ => False) s) :
    SafeBut (fun _ => False) (State.loopSet n f s).1 := by
  have sets : SafeBut (fun _ => False) (s.modLaneSettings n (setLoopSettings f.1 f.2.1)) :=
    (upholds_modLaneSettings (c := unheard) trivial (setLoopSettings_depth _ _ _)).barriers h
  unfold State.loopSet
  dsimp only
  split
  · exact relearn_safe sets
  · exact sets

theorem guarded_safe {α β : Type} {b : Body α} {read : α → Option β} {act : β → State → State × ResultCode}
    (ha : ∀ f, SafeBut (fun _ => False) (act f s).1) (h : SafeBut (fun _ => False) s) :
    SafeBut (fun _ => False) (State.guarded b read act s).1 := by
  unfold State.guarded
  repeat' split
  · exact h
  · exact h
  · exact h
  · exact ha _

theorem setupLoop_safe {r : RecHead} {b : Body LoopItem} (h : SafeBut (fun _ => False) s)
    (he : exec (.setupLoop r b) s = .next t) : SafeBut (fun _ => False) t := by
  cases he
  have received : SafeBut (fun _ => False) (s.receive r) := (upholds_receive (c := unheard)).barriers h
  have answered : ∀ {u : State} {code}, SafeBut (fun _ => False) u → SafeBut (fun _ => False) (u.answer r code) :=
    fun hu => (upholds_answer (c := unheard)).barriers hu
  unfold State.takeLane State.takeRecord
  split
  · dsimp only
    split
    · split
      · refine answered ?_
        split
        · exact received
        · exact guarded_safe (fun f => loopSet_safe received) received
      · exact answered received
    · exact received
  · exact h

/-- A reset at start leaves every motor without duty, and no barrier lowering. -/
theorem volatileReset_safe (s : State) (r : Retained) (env : StartEnv) :
    SafeBut (fun _ => False) (s.volatileReset r env) := by
  intro m
  have hb : (s.volatileReset r env).barrier m = startBarrier
      (switchState (env.downSwitch.get m) (env.upSwitch.get m)) (r.settings.lanes.get m).barrier (env.downSwitch.get m)
      (env.upSwitch.get m) (env.comparator.get m) := Quad.get_ofFn _ _
  rw [hb]
  exact ⟨fun hl => absurd hl (switchState_ne_lowering _ _), fun _ _ => ⟨rfl, rfl, rfl⟩⟩

/-- Settles O12: a barrier hears its clear loop at once, and no other change of a loop or a motion lowers over one in
use. -/
theorem stepKeepsBarriersSafe : Obligations.StepKeepsBarriersSafe := by
  intro s t hs h
  rw [barrierSafe_iff] at hs ⊢
  refine step_of_exec (I := SafeBut fun _ => False) (fun _ _ => id) (fun i s t hexec hs => ?_) h hs
  refine exec_volatile (I := SafeBut fun _ => False) (fun hi hs => ?_) (fun hup => hup.barriers)
    (fun {s t} hkeeps hs m => ?_) volatileReset_safe hexec hs
  · by_cases hhears : ∃ m, hearsLane i m
    · obtain ⟨m, hm⟩ := hhears
      cases i with
      | loopMeasurement n side p =>
        cases hexec
        unfold State.whileRunning
        split
        · exact measureLoop_safe hs
        · exact hs
      | setupLoop r b => exact setupLoop_safe hs hexec
      | _ => exact hm.elim
    · have hnone : hearsLane i = fun _ => False := funext fun m => eq_false fun hm => hhears ⟨m, hm⟩
      have hup := (next_upholds hi hexec).barriers
      rw [scopeOf, hnone] at hup
      exact hup hs
  · have hbarrier : t.barrier m = s.barrier m := congrArg (Quad.get · m) (hkeeps.barriers rfl)
    rw [hbarrier, clearReport_congr (hkeeps.loops rfl)]
    exact hs m

end Sys2Proof.Proofs
end

section
/-! The model's byte forms as the wire forms of the statements: numbers of a width, marks of presence, codes and sets.
With these, O52 and O53: each payload is its fields in order. -/

namespace Sys2Proof.Proofs
open Sys2Proof Sys2Proof.Machine

/-! ### Numbers, marks and sets -/

theorem wireNum_one (n : Nat) : wireNum 1 n = [BitVec.ofNat 8 n] := by
  simp [wireNum, List.range_succ]

theorem wireNum_two (n : Nat) : wireNum 2 n = [BitVec.ofNat 8 (n / 256), BitVec.ofNat 8 n] := by
  simp [wireNum, List.range_succ]

theorem u8_eq (n : Nat) : u8 n = wireNum 1 n := (wireNum_one n).symm

theorem u16_eq (n : Nat) : u16 n = wireNum 2 n := (wireNum_two n).symm

theorem u32_eq (n : Nat) : u32 n = wireNum 4 n := by simp [u32, wireNum, List.range_succ]

theorem i32_eq (a : Int) : i32 a = wireInt a := by rw [i32, wireInt, u32_eq, BitVec.toNat_ofInt]; rfl

theorem tokenBytes_eq (t : Token) : tokenBytes t = wireNum 8 t.toNat := by
  simp [tokenBytes, u32, wireNum, List.range_succ, Nat.div_div_eq_div_mul]

theorem timeBytes_eq (t : SiteTime) : timeBytes t = wireNum 4 t.toNat := u32_eq _

theorem flag_eq (b : Bool) : flag b = wireFlag b := by cases b <;> rfl

theorem bitsValue_eq (bs : List Bool) :
    bitsValue bs = ((List.range bs.length).map fun k => if bs.getD k false then 2 ^ k else 0).sum := by
  induction bs with
  | nil => rfl
  | cons b bs ih =>
    have hshift : ((List.range bs.length).map fun k => if bs.getD k false then 2 ^ (k + 1) else 0).sum
        = 2 * ((List.range bs.length).map fun k => if bs.getD k false then 2 ^ k else 0).sum := by
      rw [← List.sum_map_mul_left]
      exact congrArg List.sum (List.map_congr_left fun k _ => by split <;> omega)
    rw [bitsValue, ih, List.length_cons, List.range_succ_eq_map, List.map_cons, List.sum_cons, List.map_map, ← hshift]
    rfl

theorem set8_eq (bs : List Bool) : set8 bs = wireSet bs := by rw [set8, wireSet, bitsValue_eq, u8_eq]

theorem optU8_eq (o : Option Nat) : optU8 o = wireOr 1 o := u8_eq _

theorem optU16_eq (o : Option Nat) : optU16 o = wireOr 2 o := u16_eq _

theorem optU32_eq (o : Option Nat) : optU32 o = wireOr 4 o := u32_eq _

theorem presentU16_eq (o : Option Nat) : presentU16 o = wireOpt 2 o := by
  cases o with
  | none => rfl
  | some n => exact congrArg _ (u16_eq n)

theorem presentU32_eq (o : Option Nat) : presentU32 o = wireOpt 4 o := by
  cases o with
  | none => rfl
  | some n => exact congrArg _ (u32_eq n)

theorem presentI32_eq (o : Option Int) : presentI32 o = wireOptInt o := by
  cases o with
  | none => rfl
  | some a => exact congrArg _ (i32_eq a)

theorem presentTime_eq (o : Option SiteTime) : presentTime o = wireOpt 4 (o.map fun t => t.toNat) := presentU32_eq _

theorem presentToken_eq (o : Option Token) : presentToken o = wireOpt 8 (o.map fun t => t.toNat) := by
  cases o with
  | none => rfl
  | some t => exact congrArg _ (tokenBytes_eq t)

theorem optCode_eq (o : Option Nat) : optCode o = wireCode o := u8_eq _

theorem vector_toList_eq_map {α : Type} {k : Nat} (v : Vector α k) : v.toList = (List.finRange k).map v.get := by
  refine List.ext_getElem (by simp) fun i h1 h2 => ?_
  simp [Vector.get]

theorem vector_flatMap {α β : Type} {k : Nat} (v : Vector α k) (f : α → List β) :
    v.toList.flatMap f = (List.finRange k).flatMap fun i => f (v.get i) := by
  rw [vector_toList_eq_map, List.flatMap_map]

theorem vector_zipWith_flatten {α β γ : Type} {k : Nat} (v : Vector α k) (w : Vector β k) (f : α → β → List γ) :
    (List.zipWith f v.toList w.toList).flatten = (List.finRange k).flatMap fun i => f (v.get i) (w.get i) := by
  rw [vector_toList_eq_map, vector_toList_eq_map, List.zipWith_map, List.zipWith_self, List.flatMap_def]

/-! ### Lists continued past the reply limit (R192) -/

theorem largestFit_le (fits : Nat → Bool) (n : Nat) : largestFit fits n ≤ n := by
  induction n with
  | zero => exact Nat.le_refl _
  | succ n ih =>
    rw [largestFit]
    split <;> omega

theorem largestFit_fits (fits : Nat → Bool) (n : Nat) : largestFit fits n = 0 ∨ fits (largestFit fits n) = true := by
  induction n with
  | zero => exact .inl rfl
  | succ n ih =>
    rw [largestFit]
    split
    · next h => exact .inr h
    · exact ih

/-- Nothing past the largest that fits does. -/
theorem largestFit_past (fits : Nat → Bool) {n j : Nat} (hlt : largestFit fits n < j) (hle : j ≤ n) : fits j = false := by
  induction n with
  | zero => omega
  | succ n ih =>
    rw [largestFit] at hlt
    split at hlt
    · omega
    · next h =>
      rcases Nat.lt_or_ge n j with hj | hj
      · obtain rfl : j = n + 1 := by omega
        exact Bool.eq_false_iff.mpr h
      · exact ih hlt hj

theorem listLaid_listPayload (limit code : Nat) (opening after : List Byte) (width : Nat) (items : List (List Byte))
    (index : Nat → List Byte) :
    listLaid limit code opening after width items index (listPayload limit code opening after width items index) := by
  have hbound := largestFit_le
    (fun k => decide (2 + opening.length + after.length + itemsSize items k + nextSize items width k ≤ limit))
    (min items.length 255)
  have hfits := largestFit_fits
    (fun k => decide (2 + opening.length + after.length + itemsSize items k + nextSize items width k ≤ limit))
    (min items.length 255)
  refine ⟨itemCount limit (2 + opening.length + after.length) width items, ?_, ?_, ?_, ?_, ?_, ?_⟩
  · unfold itemCount; omega
  · unfold itemCount; omega
  · intro hne
    have : 0 < items.length := List.length_pos_iff.mpr hne
    unfold itemCount; omega
  · rcases Nat.lt_or_ge 1 (itemCount limit (2 + opening.length + after.length) width items) with hlt | hle
    · right
      have hcount : itemCount limit (2 + opening.length + after.length) width items = largestFit
          (fun k => decide (2 + opening.length + after.length + itemsSize items k + nextSize items width k ≤ limit))
          (min items.length 255) := by
        unfold itemCount at hlt ⊢; omega
      rw [hcount]
      rcases hfits with hzero | hfit
      · omega
      · exact of_decide_eq_true hfit
    · exact .inl hle
  · intro j hlt hlen hmax
    have hpast := largestFit_past
      (fun k => decide (2 + opening.length + after.length + itemsSize items k + nextSize items width k ≤ limit))
      (n := min items.length 255) (j := j) (by unfold itemCount at hlt; omega) (by omega)
    exact Nat.lt_of_not_le (of_decide_eq_false hpast)
  · simp only [listPayload, u8_eq]

/-! ### The parts of the payloads -/

theorem lastSampleBytes_eq (x : Option LastSample) : lastSampleBytes x =
    wireNum 1 ((x.map fun y => y.cells).getD []).length ++ ((x.map fun y => y.cells).getD []).flatMap wireInt
      ++ wireOptInt (x.map fun y => y.ref) ++ wireOpt 4 (x.map fun y => y.time.toNat)
      ++ wireCode (x.map fun y => if y.good then 1 else 2) := by
  cases x with
  | none => rfl
  | some y => simp only [lastSampleBytes, u8_eq, presentI32_eq, presentTime_eq, funext i32_eq, wireCode, Option.map_some,
      Option.getD_some]

theorem slotCount_eq (plan : Vector (Option Lane) 16) (n : Lane) :
    slotCount plan n = ((List.finRange 16).filter fun i => plan.get i == some n).length := by
  rw [slotCount, vector_toList_eq_map, List.countP_map, List.countP_eq_length_filter]
  rfl

theorem planBytes_eq (v : Vector (Option Lane) 16) :
    planBytes v = (List.finRange 16).flatMap fun i => wireNum 1 (((v.get i).map fun m => m.number).getD 0) := by
  rw [planBytes, vector_flatMap]
  congr 1
  funext i
  cases v.get i <;> exact u8_eq _

theorem readingBytes_eq (r : Option Reading) : readingBytes r =
    wireFlag r.isSome ++ wireCode (r.map fun x => x.range.code)
      ++ wireOptInt ((r.filter fun x => x.range == .normal).map fun x => x.d)
      ++ wireOptInt ((r.filter fun x => x.range == .normal).map fun x => roundDiv x.g 10)
      ++ wireOr 1 (r.map fun x => x.entries) ++ wireOpt 4 (r.map fun x => x.time.toNat) := by
  have hshown : (r.bind fun x => if x.range = .normal then some x else none) = r.filter fun x => x.range == .normal := by
    cases r with
    | none => rfl
    | some x => simp [Option.filter]
  simp only [readingBytes, hshown, flag_eq, optCode_eq, presentI32_eq, optU8_eq, presentTime_eq, Option.map_map] <;> rfl

theorem opBytes_eq (op : Option CalOp) : opBytes op = (match op with
    | none => wireCode none ++ wireOr 1 none ++ wireOr 4 none
    | some (.zero taken _ _ _) => wireNum 1 1 ++ wireNum 1 taken ++ wireOr 4 none
    | some (.span load taken _ _) => wireNum 1 3 ++ wireNum 1 taken ++ wireNum 4 load) := by
  rcases op with _ | op
  · rfl
  · cases op <;> simp only [opBytes, u8_eq, u32_eq, optU32_eq, CalSub.code]

theorem shiftOf_eq (l : Loop) : shiftOf l = l.baseline.bind fun b => l.latest.map fun q => (b : Int) - q := by
  unfold shiftOf
  cases l.baseline <;> cases l.latest <;> rfl

theorem loopBytes_eq (x : Loop) (cfg : LoopSettings) : loopBytes x cfg =
    wireNum 1 x.condition.code ++ wireNum 1 x.report.code ++ wireOr 4 x.baseline ++ wireOr 4 x.latest
      ++ wireOptInt (x.baseline.bind fun b => x.latest.map fun q => (b : Int) - q) ++ wireNum 1 x.recovery
      ++ wireNum 2 x.presence ++ wireFlag x.stuck ++ wireNum 2 cfg.onThr ++ wireNum 2 cfg.offThr ++ wireNum 2 cfg.limit := by
  simp only [loopBytes, u8_eq, u16_eq, optU32_eq, presentI32_eq, shiftOf_eq, flag_eq]

theorem Toward_code_eq (t : Toward) : t.code = if t = .down then 1 else 2 := by cases t <;> rfl

theorem Toward_driveCode_eq (t : Toward) : t.driveCode = if t = .up then 1 else 2 := by cases t <;> rfl

theorem deckHead_flashing (s : State) (n : Lane) :
    decide (s.deckHead n = .flashing) = decide ((s.lane n).state = .refused) := by
  refine decide_eq_decide.mpr ?_
  unfold State.deckHead
  cases (s.lane n).state with
  | weighing => cases s.awaitsPart n <;> simp
  | _ => simp

theorem partSlot_eq (p : Part) : partSlot p = wirePart p := by
  simp only [partSlot, wirePart, u32_eq, u8_eq, timeBytes_eq, u16_eq]

theorem partSlots_eq (k : Nat) (ps : List Part) :
    partSlots k ps = (List.range k).flatMap fun j => ((ps[j]?).map wirePart).getD (List.replicate 11 0) := by
  induction k generalizing ps with
  | zero => rfl
  | succ k ih => cases ps <;> simp [partSlots, ih, List.range_succ_eq_map, List.flatMap_map, partSlot_eq]

theorem weighingBytes_eq (w : Weighing) : weighingBytes w = wireWeighing w := by
  simp only [weighingBytes, wireWeighing, u32_eq, u8_eq, timeBytes_eq, flag_eq, partSlots_eq]

theorem waitBytes_eq (e : WaitEntry) : waitBytes e =
    wireNum 8 e.token.toNat ++ wireNum 4 e.joined.toNat ++ wireNum 4 e.age ++ wireNum 1 e.direction.code
      ++ wireCode (e.result.map fun r => r.code) := by
  simp only [waitBytes, tokenBytes_eq, timeBytes_eq, u32_eq, u8_eq, optCode_eq]

theorem portBytes_eq (q : ReaderPort) :
    portBytes q = wireOpt 8 (q.last.map fun t => t.toNat) ++ wireNum 1 q.lockout := by
  simp only [portBytes, presentToken_eq, u8_eq]

/-! ### The payloads of a lane -/

theorem acquisitionDeck_eq (s : State) (m : Lane) : s.acquisitionDeck m =
    wireNum 1 (s.deckSettings m).cells ++ wireNum 1 (slotCount s.acq.active m) ++ wireNum 1 (if s.deckValid m then 1 else 2)
      ++ wireSet [(s.reasons m).uncalibrated, (s.reasons m).noSlots, (s.reasons m).cellSaturated,
        (s.reasons m).excitation]
      ++ wireNum 1 (s.deck m).good ++ lastSampleBytes (s.deck m).lastSample := by
  simp only [State.acquisitionDeck, u8_eq, validityByte, ReasonSet.byte, set8_eq]

theorem readingsDeck_eq (s : State) (m : Lane) : s.readingsDeck m =
    wireNum 1 (if s.deckValid m then 1 else 2) ++ readingBytes (s.deck m).reading ++ wireNum 1 (s.deckSettings m).depth
      ++ wireNum 1 (s.deck m).history.length ++ wireNum 4 (s.cal m).max ++ wireNum 1 (s.cal m).d
      ++ wireNum 4 (20 * (s.cal m).d) ++ wireNum 1 (s.deck m).settling.state.code := by
  simp only [State.readingsDeck, u8_eq, u32_eq, validityByte, minimumWeighing]

theorem capturedPart_eq (p : Part) : capturedPart p = wirePart p ++ wireFlag p.unset := by
  rw [capturedPart, partSlot_eq, flag_eq]

theorem devicesPayload_eq (s : State) (n : Lane) : s.devicesPayload n = wireNum 1 5
      ++ loopBytes (s.loop n .entry) (s.laneSettings n).entryLoop
      ++ loopBytes (s.loop n .clear) (s.laneSettings n).clearLoop
      ++ barrierBytes (s.barrier n) (s.laneSettings n).barrier ++ wireNum 1 (s.entryHead n).code ++ wireFlag false
      ++ wireNum 1 (s.deckHead n).code
      ++ wireFlag (decide ((s.lane n).state = .refused) && (s.lane n).flashLit) := by
  simp only [State.devicesPayload, u8_eq, flag_eq, deckHead_flashing]

theorem capturePayload_eq (s : State) (n : Lane) : s.capturePayload n =
    wireNum 1 3 ++ wireNum 1 (s.deck n).settling.state.code ++ wireNum 2 (s.deck n).settling.run
      ++ wireNum 1 (s.deck n).settling.out ++ wireNum 2 (s.deckSettings n).band ++ wireNum 1 (s.deckSettings n).tTent
      ++ wireNum 1 (s.deckSettings n).tSettle ++ wireNum 1 (s.deckSettings n).tLock
      ++ wireNum 1 (s.deckSettings n).tDrop ++ wireInt (fineToKg (s.cal n).z)
      ++ wireNum 4 (fineToKg (s.zeroLimitNow n)).toNat ++ wireFlag (s.deck n).zeroMarker
      ++ wireNum 1 (s.deck n).occupancy.code ++ wireNum 2 (s.laneSettings n).occupancy
      ++ wireNum 2 (s.laneSettings n).partAge ++ wireFlag (decide ((s.lane n).state = .weighing))
      ++ wireOr 1 (if decide ((s.lane n).state = .weighing) then (s.lane n).capture.required else none)
      ++ wireNum 1 (if decide ((s.lane n).state = .weighing) then (s.lane n).capture.parts else []).length
      ++ (if decide ((s.lane n).state = .weighing) then (s.lane n).capture.parts else []).flatMap capturedPart
      ++ wireFlag (decide ((s.lane n).state = .weighing) && (s.lane n).capture.moved)
      ++ wireOpt 4 (if decide ((s.lane n).state = .weighing) then (s.lane n).capture.age else none) := by
  unfold State.capturePayload
  dsimp only
  simp only [u8_eq, u16_eq, u32_eq, i32_eq, flag_eq, optU8_eq, presentU32_eq]
/-- The entries of the lists in the order of the lanes. -/
theorem coveredEntries_site (s : State) : s.coveredEntries .site = Lane.all.flatMap s.list := rfl

theorem listsPayload_laid (s : State) (c : Chan) (k : Nat) :
    listLaid s.ret.settings.replyLimit 7 [] (s.listFigures c) 1 (((s.coveredEntries c).drop k).map waitBytes)
      (fun j => wireNum 1 (k + j)) (s.listsPayload c k) := by
  simp only [State.listsPayload, u8_eq]
  exact listLaid_listPayload ..

/-- Settles O52: each payload is its fields, read off the model's parts one after another. -/
theorem lanePayloadsLaidOut : Obligations.LanePayloadsLaidOut := by
  intro s n
  refine ⟨?_, ?_, ?_, ?_, ?_, ?_, fun k => ⟨?_, ?_⟩⟩
  · simp only [State.acquisitionPayload, u8_eq, funext (acquisitionDeck_eq s), planBytes_eq, slotCount_eq,
      lastSampleBytes_eq, List.append_assoc]
  · simp only [State.readingsPayload, u8_eq, funext (readingsDeck_eq s), readingBytes_eq, List.append_assoc]
  · simp only [capturePayload_eq, funext capturedPart_eq] <;> rfl
  · simp only [State.calibrationPayload, u8_eq, u16_eq, u32_eq, i32_eq, flag_eq, optCode_eq, presentTime_eq, opBytes_eq,
      vector_zipWith_flatten, Option.map_map, Function.comp_def, fineToKg] <;> rfl
  · simp only [devicesPayload_eq, loopBytes_eq, barrierBytes, u8_eq, optCode_eq, flag_eq, Toward_code_eq,
      funext Toward_driveCode_eq, List.append_assoc] <;> rfl
  · simp only [State.laneStatePayload, identityBytes, policyBytes, portBytes_eq, State.readerPort, u8_eq, u16_eq,
      optCode_eq, presentToken_eq, optStream, optU8_eq, optU16_eq, presentU16_eq, presentU32_eq, flag_eq, set8_eq,
      State.suspendCauses, Option.map_map, Option.map_bind, Function.comp_def, List.append_assoc] <;> rfl
  · have hlaid := listsPayload_laid s .site k
    simp only [coveredEntries_site, State.listFigures, u8_eq, funext waitBytes_eq] at hlaid
    exact hlaid
  · have hlaid := listsPayload_laid s (.lane n) k
    simp only [State.coveredEntries, State.listFigures, funext waitBytes_eq] at hlaid
    exact hlaid

/-! ### The payloads of the tables and of the events -/

theorem tareBytes_eq (now : SiteTime) (t : Option Tare) : tareBytes now t =
    wireOr 4 (t.map fun x => x.value) ++ wireCode (t.map fun x => x.origin.code)
      ++ wireOpt 4 (t.map fun x => x.setTime.toNat)
      ++ wireOpt 4 (t.map fun x => (now.toNat - x.setTime.toNat) / 3600) := by
  simp only [tareBytes, optU32_eq, optCode_eq, presentTime_eq, presentU32_eq, Option.map_map, Function.comp_def, elapsed]

theorem maskByte_eq (o : Option LaneMask) : maskByte o = (match o with
    | none => wireNum 1 255
    | some m => wireSet m.toList) := by
  cases o with
  | none => exact u8_eq _
  | some m => exact set8_eq _

theorem optStream_eq (o : Option (Fin 8)) : optStream o = wireOr 1 (o.map fun k => k.val + 1) := optU8_eq _

theorem optAddress_eq (o : Option (Fin 8)) : optAddress o = wireOr 1 (o.map fun k => k.val + 1) := optU8_eq _

theorem vehicleBytes_eq (now : SiteTime) (v : Vehicle) : vehicleBytes now v =
    wireNum 8 v.token.toNat ++ wireNum 1 v.account.val ++ wireNum 1 v.cls.val ++ wireNum 1 v.kind.code
      ++ optStream v.stream ++ wireOr 4 v.gross ++ tareBytes now v.tare ++ maskByte v.mask ++ wireFlag v.barred
      ++ wireNum 1 v.origin.code ++ wireNum 4 v.lastUse.toNat
      ++ wireNum 4 ((now.toNat - v.lastUse.toNat) / 86400) := by
  simp only [vehicleBytes, tokenBytes_eq, u8_eq, u32_eq, optU32_eq, flag_eq, timeBytes_eq, elapsed]

theorem accountBytes_eq (a : Account) : accountBytes a =
    wireNum 1 a.state.code ++ wireOr 4 a.allowance ++ wireNum 1 a.limitKind.code ++ wireNum 4 a.consumed
      ++ wireNum 4 a.pending ++ wireFlag a.approval ++ wireOr 1 (a.stream.map fun k => k.val + 1) := by
  simp only [accountBytes, u8_eq, u32_eq, optU32_eq, flag_eq, optStream_eq]

theorem visitFlags_byte_eq (f : VisitFlags) : f.byte = wireFlags f := set8_eq _

theorem exitBytes_eq (w : Option Weighing) : exitBytes w = (match w with
    | none => List.replicate 56 0
    | some w => 1 :: wireWeighing w) := by
  cases w with
  | none => rfl
  | some w => exact congrArg _ (weighingBytes_eq w)

theorem visitBytes_eq (v : Visit) : visitBytes v =
    wireNum 2 v.number ++ wireNum 8 v.token.toNat ++ wireNum 1 v.account.val ++ wireNum 1 v.cls.val
      ++ wireNum 1 (v.stream.val + 1) ++ wireNum 1 v.kind.code ++ wireNum 1 v.state.code ++ wireNum 1 v.entryLane.number
      ++ wireOr 1 (v.exitLane.map fun m => m.number) ++ wireWeighing v.entry ++ exitBytes v.exit ++ wireNum 4 v.estimate
      ++ wireNum 2 v.blocks ++ wireOpt 4 v.net ++ wireFlags v.flags ++ wireNum 2 v.timer := by
  simp only [visitBytes, tokenBytes_eq, u8_eq, u16_eq, u32_eq, optU8_eq, presentU32_eq, streamByte, weighingBytes_eq,
    visitFlags_byte_eq]

theorem ticketBytes_eq (t : Ticket) : ticketBytes t =
    wireNum 4 t.number ++ wireNum 2 t.visit ++ wireNum 4 t.issued.toNat ++ wireNum 1 t.kind.code
      ++ wireNum 8 t.token.toNat ++ wireNum 1 t.account.val ++ wireNum 1 t.cls.val ++ wireNum 1 (t.stream.val + 1)
      ++ wireWeighing t.entry ++ wireWeighing t.exit ++ wireNum 4 t.net ++ wireFlags t.flags ++ wireNum 1 t.print.code
      ++ wireCode (t.failure.map fun r => r.code) ++ wireNum 1 t.copies := by
  simp only [ticketBytes, tokenBytes_eq, timeBytes_eq, u8_eq, u16_eq, u32_eq, optCode_eq, streamByte, weighingBytes_eq,
    visitFlags_byte_eq]

theorem classBytes_eq (c : ClassEntry) : classBytes c =
    wireNum 1 c.parts ++ wireNum 4 c.tare ++ wireNum 4 c.gross ++ wireNum 2 c.tolerance ++ wireFlag c.learning := by
  simp only [classBytes, u8_eq, u16_eq, u32_eq, flag_eq]

theorem streamBytes_eq (c : StreamSettings) (x : StreamTotals) : streamBytes c x =
    wireNum 4 c.capacity ++ wireNum 1 c.state.code ++ c.levels.toList.flatMap (wireOr 4) ++ wireNum 4 x.stock
      ++ wireNum 2 x.reserved ++ wireNum 4 (x.stock + 500 * x.reserved) ++ wireFlag (decide (c.capacity < x.stock)) := by
  simp only [streamBytes, u8_eq, u16_eq, u32_eq, funext optU32_eq, flag_eq, committed]

theorem totalReserved_eq (s : State) : s.totalReserved = ∑ i : Fin 8, (s.ret.traffic.streams.get i).reserved := by
  rw [State.totalReserved, vector_toList_eq_map, List.map_map, Fin.sum_univ_def]
  rfl

theorem jobBytes_eq (j : PrintJob) : jobBytes j =
    wireNum 4 j.ticket ++ wireNum 1 j.lane.number ++ wireNum 1 (j.address.val + 1) ++ wireFlag j.copy
      ++ (match j.state with
        | .queued => wireNum 1 1 ++ wireOpt 4 none ++ wireOpt 4 none
        | .sending k => wireNum 1 2 ++ wireOpt 4 (some k) ++ wireOpt 4 none
        | .printing k => wireNum 1 3 ++ wireOpt 4 none ++ wireOpt 4 (some k)) := by
  simp only [jobBytes, u8_eq, u32_eq, flag_eq, presentU32_eq, List.append_assoc]
  cases j.state <;> rfl

theorem statusBytes_eq (x : Option (Byte × SiteTime)) :
    statusBytes x = wireOpt 1 (x.map fun y => y.1.toNat) ++ wireOpt 4 (x.map fun y => y.2.toNat) := by
  rcases x with _ | ⟨b, t⟩
  · rfl
  · simp only [statusBytes, presentTime_eq, Option.map_some, wireOpt, wireNum_one, BitVec.ofNat_toNat,
      BitVec.setWidth_eq]

theorem sectionByte_eq (f : SectionSet) :
    sectionByte f = wireSet [f.calibration, f.settings, f.identities, f.traffic, f.tickets] := set8_eq _

theorem wireNum_length (width n : Nat) : (wireNum width n).length = width := by simp [wireNum]

/-- What fits the width is filled with zeros after it. -/
theorem padded_eq {width : Nat} {bs : List Byte} (h : bs.length ≤ width) :
    padded width bs = bs ++ List.replicate (width - bs.length) 0 := by
  rw [padded, List.take_append, List.take_of_length_le h, List.take_replicate]
  congr 2
  omega

theorem padded_length (width : Nat) (bs : List Byte) : (padded width bs).length = width := by
  simp [padded]

theorem subjectBytes_length (x : Subject) : x.bytes.length ≤ 8 := by
  cases x <;> simp [Subject.bytes, u16_eq, u32_eq, tokenBytes_eq, streamByte, u8_eq, wireNum_length]

theorem detailBytes_length (x : Detail) : x.bytes.length ≤ 13 := by
  cases x <;> simp [Detail.bytes, u16_eq, u32_eq, tokenBytes_eq, u8_eq, wireNum_length, sectionByte_eq, wireSet, flag_eq,
    wireFlag, ReasonSet.byte, set8_eq]

theorem laneByte_eq (o : Option Lane) : laneByte o = wireOr 1 (o.map fun m => m.number) := by
  cases o <;> exact u8_eq _

theorem eventBytes_eq (e : Event) : eventBytes e =
    wireNum 1 e.kind.code ++ wireOr 1 (e.lane.map fun m => m.number) ++ wireNum 4 e.time.toNat
      ++ wireNum 1 e.subject.type ++ (e.subject.bytes ++ List.replicate (8 - e.subject.bytes.length) 0)
      ++ (e.detail.bytes ++ List.replicate (13 - e.detail.bytes.length) 0) := by
  simp only [eventBytes, u8_eq, laneByte_eq, timeBytes_eq, padded_eq (subjectBytes_length _),
    padded_eq (detailBytes_length _)]

theorem eventBytes_length (e : Event) : (eventBytes e).length = 28 := by
  simp [eventBytes, u8_eq, laneByte_eq, wireOr, timeBytes_eq, wireNum_length, padded_length]

theorem loopCode_eq (x : LoopSide) : loopCode x = (match x with
    | .entry => 1
    | .clear => 2) := by cases x <;> rfl

theorem listLaid_congr {limit code width : Nat} {opening opening' after : List Byte} {items items' : List (List Byte)}
    {index index' : Nat → List Byte} {payload : List Byte} (ho : opening = opening') (hi : items = items')
    (hx : index = index') (h : listLaid limit code opening after width items index payload) :
    listLaid limit code opening' after width items' index' payload := ho ▸ hi ▸ hx ▸ h

theorem singlePayload_eq (code : Nat) (opening : List Byte) (item : Option (List Byte)) :
    singlePayload code opening item = singleLaid code opening item := by
  cases item <;> simp [singlePayload, singleLaid, u8_eq, wireNum_one]

theorem vehicleFigures_eq (s : State) : s.vehicleFigures =
    wireNum 2 s.ret.ident.vehicles.length ++ wireNum 2 s.ret.ident.provisional ++ wireNum 2 s.ret.settings.learnLimit
      ++ wireNum 2 s.ret.settings.provAge ++ wireNum 2 s.ret.settings.tareAge := by
  simp only [State.vehicleFigures, u16_eq]

theorem visitFigures_eq (s : State) : s.visitFigures =
    wireNum 1 s.ret.traffic.visits.length ++ wireNum 2 s.ret.traffic.counter
      ++ Lane.all.flatMap fun m => wireOpt 2 (s.lane m).lateNumber := by
  simp only [State.visitFigures, u8_eq, u16_eq, presentU16_eq]

theorem journalFigures_eq (s : State) : s.journalFigures =
    wireNum 1 s.ret.tickets.journal.length ++ wireOr 4 (s.ret.tickets.journal.head?.map fun t => t.number)
      ++ wireNum 4 s.ret.tickets.counter := by
  simp only [State.journalFigures, u8_eq, u32_eq, optU32_eq]

/-- A vehicle's bytes with the tare, the mask and the stream spelled out. -/
theorem vehicleBytes_spelled (now : SiteTime) : vehicleBytes now = fun v =>
    wireNum 8 v.token.toNat ++ wireNum 1 v.account.val ++ wireNum 1 v.cls.val ++ wireNum 1 v.kind.code
      ++ wireOr 1 (v.stream.map fun k => k.val + 1) ++ wireOr 4 v.gross ++ wireOr 4 (v.tare.map fun t => t.value)
      ++ wireCode (v.tare.map fun t => t.origin.code) ++ wireOpt 4 (v.tare.map fun t => t.setTime.toNat)
      ++ wireOpt 4 (v.tare.map fun t => (now.toNat - t.setTime.toNat) / 3600) ++ maskByte v.mask ++ wireFlag v.barred
      ++ wireNum 1 v.origin.code ++ wireNum 4 v.lastUse.toNat
      ++ wireNum 4 ((now.toNat - v.lastUse.toNat) / 86400) :=
  funext fun v => by simp only [vehicleBytes_eq, tareBytes_eq, optStream_eq, List.append_assoc]

/-- Settles O53: each payload and each event is its fields, the subject and the detail by their kinds. -/
theorem tablePayloadsLaidOut : Obligations.TablePayloadsLaidOut := by
  intro s
  refine ⟨fun e => ⟨eventBytes_length e, ?_⟩, fun t => ⟨?_, ?_⟩, ?_, fun k => ?_, fun k => ⟨?_, ?_⟩, ?_, fun k => ?_, ?_,
    ?_, ?_⟩
  · rw [eventBytes_eq]
    refine congrArg₂ (· ++ ·) (congrArg₂ (· ++ ·) (congrArg₂ (· ++ ·) rfl ?_) ?_) ?_
    · cases e.subject <;> rfl
    · cases e.subject <;> simp only [Subject.bytes, u16_eq, u32_eq, tokenBytes_eq, streamByte, u8_eq]
    · cases e.detail <;> simp only [Detail.bytes, u8_eq, u16_eq, u32_eq, tokenBytes_eq, loopCode_eq, flag_eq,
        ReasonSet.byte, set8_eq, sectionByte_eq] <;> rfl
  · unfold State.vehiclesPayload
    dsimp only
    refine listLaid_congr (vehicleFigures_eq s) ?_ ?_ (listLaid_listPayload ..)
    · simp only [vehicleBytes_spelled, maskByte_eq] <;> rfl
    · funext j
      split
      · next x hx =>
        rw [hx]
        exact tokenBytes_eq x.token
      · next hx =>
        rw [hx]
        rfl
  · rw [State.vehiclePayload, singlePayload_eq, vehicleFigures_eq]
    simp only [vehicleBytes_spelled, maskByte_eq] <;> rfl
  · simp only [State.classPayload, u8_eq, vector_flatMap, classBytes_eq]
  · exact listLaid_congr rfl (congrArg (List.map · _) (funext accountBytes_eq)) (funext fun j => u8_eq _)
      (listLaid_listPayload ..)
  · unfold State.visitsPayload
    dsimp only
    refine listLaid_congr (visitFigures_eq s) ?_ ?_ (listLaid_listPayload ..)
    · simp only [funext visitBytes_eq, exitBytes_eq] <;> rfl
    · funext j
      split
      · next x hx =>
        rw [hx]
        exact u16_eq x.number
      · next hx =>
        rw [hx]
        rfl
  · rw [State.visitPayload, singlePayload_eq, visitFigures_eq]
    simp only [funext visitBytes_eq, exitBytes_eq] <;> rfl
  · simp only [State.streamsPayload, u8_eq, u16_eq, u32_eq, optU32_eq, vector_zipWith_flatten, streamBytes_eq,
      totalReserved_eq]
  · unfold State.journalPayload
    dsimp only
    refine listLaid_congr (journalFigures_eq s) (congrArg (List.map · _) (funext ticketBytes_eq)) ?_
      (listLaid_listPayload ..)
    funext j
    change _ = (((s.journalFrom k)[j]?).map fun x => wireNum 4 x.number).getD []
    split
    · next x hx =>
      rw [hx]
      exact u32_eq x.number
    · next hx =>
      rw [hx]
      rfl
  · simp only [State.printersPayload, u8_eq, vector_flatMap, optAddress_eq, flag_eq, optU32_eq, funext jobBytes_eq,
      statusBytes_eq] <;> rfl
  · simp only [State.linkPayload, u8_eq, u16_eq, u32_eq, flag_eq, timeBytes_eq]
  · simp only [State.supplyPayload, u8_eq, u32_eq, sectionByte_eq]

end Sys2Proof.Proofs
end

section
/-! O54: the outputs, the bytes of the replies with their check byte and checksum, and the codes. -/

namespace Sys2Proof.Proofs
open Sys2Proof Sys2Proof.Machine

/-! ### Headers (R186, R187) -/

theorem headerOf_eq {chan kind : Nat} (hc : chan < 8) (hk : kind < 32) (arg : Nat) :
    headerOf chan kind (BitVec.ofNat 16 arg) = BitVec.ofNat 24 (65536 * (32 * chan + kind) + arg % 65536) := by
  have harg : arg % 65536 < 65536 := Nat.mod_lt _ (by decide)
  have htag : (BitVec.ofNat 3 chan ++ BitVec.ofNat 5 kind).toNat = 32 * chan + kind := by
    rw [BitVec.toNat_append, BitVec.toNat_ofNat, BitVec.toNat_ofNat, Nat.mod_eq_of_lt (b := 2 ^ 3) (by omega),
      Nat.mod_eq_of_lt (b := 2 ^ 5) (by omega), ← Nat.shiftLeft_add_eq_or_of_lt (by omega), Nat.shiftLeft_eq]
    omega
  refine BitVec.eq_of_toNat_eq ?_
  rw [headerOf, BitVec.toNat_append, htag, BitVec.toNat_ofNat, ← Nat.shiftLeft_add_eq_or_of_lt (by omega),
    Nat.shiftLeft_eq, BitVec.toNat_ofNat]
  omega

theorem split16_eq (v : BitVec 16) : split16 v = wireNum 2 v.toNat := by
  rw [split16, wireNum_two]
  congr 2
  · refine BitVec.eq_of_toNat_eq ?_
    simp [BitVec.extractLsb'_toNat, Nat.shiftRight_eq_div_pow]

theorem headerBytes_eq {chan kind : Nat} (hc : chan < 8) (hk : kind < 32) (arg : Nat) :
    headerBytes chan kind (BitVec.ofNat 16 arg) = wireNum 1 (32 * chan + kind) ++ wireNum 2 arg
      ++ [checkByte (BitVec.ofNat 24 (65536 * (32 * chan + kind) + arg % 65536))] := by
  rw [headerBytes, headerOf_eq hc hk, wireNum_one, wireNum_two]
  dsimp only [List.cons_append, List.nil_append]
  congr 3
  · refine BitVec.eq_of_toNat_eq ?_
    simp only [BitVec.extractLsb'_toNat, BitVec.toNat_ofNat, Nat.shiftRight_eq_div_pow]
    omega
  · refine BitVec.eq_of_toNat_eq ?_
    simp only [BitVec.extractLsb'_toNat, BitVec.toNat_ofNat, Nat.shiftRight_eq_div_pow]
    omega
  · refine BitVec.eq_of_toNat_eq ?_
    simp only [BitVec.extractLsb'_toNat, BitVec.toNat_ofNat, Nat.shiftRight_eq_div_pow]
    omega

theorem chanNumber_lt (c : Chan) : chanNumber c < 8 := by
  rcases c with _ | n
  · decide
  · cases n <;> decide

/-! ### The check byte and the checksum (R187, R189) -/

/-- One bit of the sum of the codes of the bits that are 1: whether an odd number of them have it. -/
theorem xorCodes_getLsbD (d : BitVec 24) (cs : List (BitVec 6)) (j k : Nat) :
    (xorCodes d j cs).getLsbD k = true ↔
      ((List.range cs.length).filter fun i => d.getLsbD (j + i) && (cs.getD i 0).getLsbD k).length % 2 = 1 := by
  induction cs generalizing j with
  | nil => simp [xorCodes]
  | cons c cs ih =>
    have hshift : ((List.range cs.length).map Nat.succ |>.filter fun i => d.getLsbD (j + i)
        && ((c :: cs).getD i 0).getLsbD k).length
          = ((List.range cs.length).filter fun i => d.getLsbD (j + 1 + i) && (cs.getD i 0).getLsbD k).length := by
      rw [List.filter_map, List.length_map]
      congr 2
      funext i
      simp [Nat.add_assoc, Nat.add_comm 1 i]
    rw [xorCodes, BitVec.getLsbD_xor, List.length_cons, List.range_succ_eq_map, List.filter_cons]
    have htail := ih (j + 1)
    have hhead : (if d.getLsbD j = true then c else 0).getLsbD k = (d.getLsbD (j + 0) && ((c :: cs).getD 0 0).getLsbD k) := by
      cases d.getLsbD j <;> simp
    rw [hhead]
    cases d.getLsbD (j + 0) && ((c :: cs).getD 0 0).getLsbD k with
    | false => rw [Bool.false_xor, htail, if_neg Bool.false_ne_true, hshift]
    | true =>
      rw [Bool.true_xor, Bool.not_eq_true', ← Bool.not_eq_true, htail, if_pos rfl, List.length_cons, hshift]
      omega

/-- The codes are the first 24 of the numbers of six bits that have three or five bits (R187). -/
theorem codes_eq : ((List.range 64).filter fun c => ((List.range 6).filter fun k => c.testBit k).length ∈ [3, 5])
    = bitCodes.map BitVec.toNat ++ [61, 62] := by decide

theorem code_testBit {j : Nat} (hj : j < 24) (k : Nat) :
    ((bitCodes.map BitVec.toNat ++ [61, 62]).getD j 0).testBit k = (bitCodes.getD j 0).getLsbD k := by
  rw [List.getD_append _ _ _ _ (by exact hj), BitVec.getLsbD, List.getD_eq_getElem?_getD, List.getD_eq_getElem?_getD,
    List.getElem?_map]
  cases bitCodes[j]? <;> rfl

theorem checkByte_getLsbD (d : BitVec 24) {k : Nat} (hk : k < 8) :
    (checkByte d).getLsbD k = true ↔ k < 6
      ∧ ((List.range 24).filter fun j => d.getLsbD j && ((bitCodes.map BitVec.toNat ++ [61, 62]).getD j 0).testBit k).length
        % 2 = 1 := by
  have hsum := xorCodes_getLsbD d bitCodes 0 k
  have hcodes : ((List.range 24).filter fun j => d.getLsbD (0 + j) && (bitCodes.getD j 0).getLsbD k)
      = (List.range 24).filter fun j => d.getLsbD j && ((bitCodes.map BitVec.toNat ++ [61, 62]).getD j 0).testBit k :=
    List.filter_congr fun j hj => by rw [code_testBit (List.mem_range.mp hj), Nat.zero_add]
  rw [← hcodes, checkByte, BitVec.getLsbD_setWidth, Bool.and_eq_true, decide_eq_true_eq]
  refine ⟨fun ⟨_, hbit⟩ => ⟨BitVec.lt_of_getLsbD hbit, hsum.mp hbit⟩, fun ⟨_, hodd⟩ => ⟨hk, hsum.mpr hodd⟩⟩

theorem checksum_append (p : List Byte) (b : Byte) : checksum (p ++ [b]) = crcByte (checksum p) b := by
  rw [checksum, List.foldl_append]
  rfl

/-! ### The outputs (R87 to R90, R202, R206) -/

theorem running_iff (s : State) : s.running = true ↔ s.power.held = none := Option.isNone_iff_eq_none

/-- An output that shows something only out of reset. -/
theorem ite_running {α : Type} (s : State) (a b : α) :
    (if s.running = true then a else b) = if s.power.held = none then a else b := by
  simp only [running_iff]

theorem awaitsPart_iff {s : State} {n : Lane} (hw : (s.lane n).state = .weighing) : s.awaitsPart n = true ↔
    (s.lane n).capture.parts ≠ [] ∧ (s.lane n).capture.required ≠ some (s.lane n).capture.parts.length := by
  simp only [State.awaitsPart, hw, decide_true, Bool.true_and, Bool.and_eq_true, Bool.not_eq_true', List.isEmpty_eq_false_iff,
    decide_eq_true_eq, ne_eq]
  exact and_congr_right fun _ => not_congr eq_comm

theorem deckHead_eq (s : State) (n : Lane) : s.deckHead n = (match (s.lane n).state with
    | .weighing => if (s.lane n).capture.parts ≠ []
        ∧ (s.lane n).capture.required ≠ some (s.lane n).capture.parts.length then .amber else .red
    | .passing => .green
    | .manual => .green
    | .refused => .flashing
    | _ => .red) := by
  unfold State.deckHead
  cases hst : (s.lane n).state with
  | weighing => simp only [awaitsPart_iff hst]
  | _ => rfl

/-! ### The bytes of the replies (R190, R191) -/

theorem resultBytes_eq (c : Chan) (code : ResultCode) : (Reply.result c code).bytes = wireNum 1 (32 * chanNumber c + 13)
    ++ wireNum 2 code.code ++ [checkByte (BitVec.ofNat 24 (65536 * (32 * chanNumber c + 13) + code.code % 65536))] :=
  headerBytes_eq (chanNumber_lt c) (by decide) _

theorem bitsValue_errors (e : LinkErrors) :
    bitsValue [e.headerCorrected, e.headerBad, e.checksum, e.kindUnknown, e.channelBad, e.lengthBad, e.cutShort]
      = (if e.headerCorrected then 1 else 0) + (if e.headerBad then 2 else 0) + (if e.checksum then 4 else 0)
        + (if e.kindUnknown then 8 else 0) + (if e.channelBad then 16 else 0) + (if e.lengthBad then 32 else 0)
        + (if e.cutShort then 64 else 0) := by
  have hbit : ∀ (b : Bool) (k : Nat), (if b then k else 0) = k * b.toNat := fun b k => by cases b <;> simp
  simp only [bitsValue, hbit]
  omega

/-- Settles O54: the lamps by the aspect, the drive and the line by the reset, the replies by their headers, and each
code by its place in the list. -/
theorem outputsShown : Obligations.OutputsShown := by
  refine ⟨fun s n => ⟨rfl, ?_, ?_, ?_, ?_, ?_, ?_⟩, fun d k hk => ?_, rfl, fun p b => ?_, ⟨fun c code => ?_, fun e => ?_,
    fun k => ?_, fun c p => ?_⟩, ?_⟩
  · exact deckHead_eq s n
  · rw [State.entryLamps, ite_running]
    by_cases hidle : (s.lane n).state = .idle
    · rw [State.entryHead, if_pos hidle]
      rfl
    · rw [State.entryHead, if_neg hidle]
      rfl
  · rw [State.deckLamps, ite_running]
    cases s.deckHead n <;> rfl
  · exact ite_running ..
  · simp [State.attention, running_iff]
  · simp only [State.sent, Bool.and_eq_true, running_iff, decide_eq_true_eq]
  · rw [codes_eq]
    exact checkByte_getLsbD d hk
  · exact checksum_append p b
  · exact resultBytes_eq c code
  · rw [← bitsValue_errors]
    exact headerBytes_eq (chanNumber_lt .site) (by decide) _
  · exact headerBytes_eq (chanNumber_lt .site) (by decide) _
  · rw [← split16_eq]
    exact congrArg (· ++ p ++ _) (headerBytes_eq (chanNumber_lt c) (by decide) _)
  · refine ⟨rfl, rfl, rfl, rfl, rfl, rfl, rfl, rfl, rfl, rfl, rfl, rfl, rfl, fun _ => rfl, rfl, rfl, rfl, rfl, rfl, rfl, rfl,
      rfl, rfl, rfl, fun _ => rfl, rfl, rfl, rfl, rfl, rfl, rfl, rfl, rfl⟩

end Sys2Proof.Proofs
end

section
/-! O56: the text of a ticket in figures, words and lines, and the transfers that print it. -/

namespace Sys2Proof.Proofs
open Sys2Proof Sys2Proof.Machine

/-! ### Figures and lines (R177, R178) -/

/-- Figures in a width, blank before the first of them but for the last place. -/
theorem decimal_eq (w n : Nat) : decimal w n = (List.range w).map fun j =>
    if w - 1 - j ≠ 0 ∧ n < 10 ^ (w - 1 - j) then ' ' else Char.ofNat (48 + n / 10 ^ (w - 1 - j) % 10) := by
  induction w generalizing n with
  | zero => rfl
  | succ w ih =>
    rw [decimal, List.range_succ, List.map_append]
    refine congrArg₂ (· ++ ·) ?_ ?_
    · split
      · next hzero =>
        refine List.ext_getElem (by simp) fun j h1 h2 => ?_
        have hj : j < w := by simpa using h1
        have hpow : 10 ^ 1 ≤ 10 ^ (w + 1 - 1 - j) := Nat.pow_le_pow_right (by decide) (by omega)
        simp only [List.getElem_replicate, List.getElem_map, List.getElem_range]
        rw [if_pos ⟨by omega, by omega⟩]
      · next hmore =>
        rw [ih]
        refine List.map_congr_left fun j hj => ?_
        have hlt := List.mem_range.mp hj
        obtain ⟨p, hp⟩ : ∃ p, w - 1 - j = p := ⟨_, rfl⟩
        have hp' : w + 1 - 1 - j = p + 1 := by omega
        have hblank : n / 10 < 10 ^ p ↔ n < 10 ^ (p + 1) := by rw [Nat.div_lt_iff_lt_mul (by decide), Nat.pow_succ]
        have hplace : n / 10 / 10 ^ p = n / 10 ^ (p + 1) := by rw [Nat.div_div_eq_div_mul, Nat.pow_succ, Nat.mul_comm]
        have hfirst : p = 0 → ¬n / 10 < 10 ^ p := by rintro rfl; omega
        simp only [hp, hp', hplace, ← hblank]
        refine if_congr ⟨fun h => ⟨by omega, h.2⟩, fun h => ⟨fun hzero => hfirst hzero h.2, h.2⟩⟩ rfl rfl
    · simp [digit]

theorem hexadecimal_eq (w n : Nat) : hexadecimal w n = (List.range w).map fun j =>
    Char.ofNat (if n / 16 ^ (w - 1 - j) % 16 < 10 then 48 + n / 16 ^ (w - 1 - j) % 16
      else 55 + n / 16 ^ (w - 1 - j) % 16) := by
  induction w generalizing n with
  | zero => rfl
  | succ w ih =>
    rw [hexadecimal, List.range_succ, List.map_append, ih]
    refine congrArg₂ (· ++ ·) ?_ ?_
    · refine List.map_congr_left fun j hj => ?_
      have hlt := List.mem_range.mp hj
      have hp : w + 1 - 1 - j = w - 1 - j + 1 := by omega
      rw [hp, Nat.div_div_eq_div_mul, Nat.pow_succ, Nat.mul_comm 16]
    · simp only [List.map_cons, List.map_nil, Nat.add_sub_cancel, Nat.sub_self, Nat.pow_zero, Nat.div_one, hexDigit]
      split <;> rfl

theorem zeroPadded_two (n : Nat) : zeroPadded 2 n = [digit (n / 10), digit n] := rfl

theorem spaced_eq (items : List (List Char)) : spaced items = (items.intersperse [' ']).flatten := by
  match items with
  | [] => rfl
  | [a] => simp [spaced]
  | a :: b :: as =>
    have ih := spaced_eq (b :: as)
    simp [spaced, ih]

theorem flagCodes_eq (f : VisitFlags) : flagCodes f =
    (if f.overweightIn then ["OI".toList] else []) ++ (if f.tareDeviation then ["TD".toList] else [])
      ++ (if f.allowanceExceeded then ["AE".toList] else []) ++ (if f.negativeNet then ["NN".toList] else [])
      ++ (if f.stockUnderrun then ["SU".toList] else []) ++ (if f.timeUnset then ["TU".toList] else [])
      ++ (if f.approvedIn then ["AP".toList] else []) := by
  have hcons : ∀ (b : Bool) (c : String) (xs : List (Bool × String)),
      (((b, c) :: xs).filter (·.1)).map (·.2.toList)
        = (if b then [c.toList] else []) ++ (xs.filter (·.1)).map (·.2.toList) := fun b c xs => by cases b <;> rfl
  simp only [flagCodes, hcons, List.filter_nil, List.map_nil, List.append_nil, List.append_assoc]

/-! ### The widths -/

theorem decimal_length (w n : Nat) : (decimal w n).length = w := by rw [decimal_eq]; simp

theorem hexadecimal_length (w n : Nat) : (hexadecimal w n).length = w := by rw [hexadecimal_eq]; simp

theorem clockText_length (t : SiteTime) : (clockText t).length = 8 := rfl

theorem dayText_length (t : SiteTime) : (dayText t).length = 5 := decimal_length _ _

/-- Words of at most two letters after the first take at most three places each. -/
theorem spaced_length_le (a : List Char) {as : List (List Char)} (h : ∀ c ∈ as, c.length ≤ 2) :
    (spaced (a :: as)).length ≤ a.length + 3 * as.length := by
  induction as generalizing a with
  | nil => exact Nat.le_refl _
  | cons b bs ih =>
    have hb := h b (List.mem_cons_self ..)
    have htail := ih b fun c hc => h c (List.mem_cons_of_mem _ hc)
    simp only [spaced, List.length_append, List.length_cons] at htail ⊢
    omega

theorem flagCodes_length (f : VisitFlags) : (flagCodes f).length ≤ 7 := by
  rw [flagCodes, List.length_map]
  exact List.length_filter_le ..

theorem flagCodes_short (f : VisitFlags) : ∀ c ∈ flagCodes f, c.length ≤ 2 := by
  intro c hc
  obtain ⟨p, hp, rfl⟩ := List.mem_map.mp hc
  have hmem := (List.mem_filter.mp hp).1
  simp only [List.mem_cons, List.not_mem_nil, or_false] at hmem
  rcases hmem with rfl | rfl | rfl | rfl | rfl | rfl | rfl <;> simp

theorem flagsLine_length (f : VisitFlags) : (flagsLine f).length ≤ 32 := by
  unfold flagsLine
  split
  · decide
  · refine (spaced_length_le _ (flagCodes_short f)).trans ?_
    have := flagCodes_length f
    have hword : "FLAGS".toList.length = 5 := rfl
    omega

theorem weighingLine_length {label : List Char} (h : label.length ≤ 3) (w : Weighing) :
    (weighingLine label w).length ≤ 32 := by
  simp [weighingLine, spaced, decimal_length, dayText_length, clockText_length]
  omega

theorem partLine_length (k : Nat) (w : Weighing) : (partLine k w).length ≤ 32 := by
  unfold partLine
  split
  · exact Nat.zero_le _
  · simp [spaced, decimal_length, clockText_length]

theorem kindText_length (k : Kind) : (kindText k).length ≤ 10 := by cases k <;> decide

theorem titleLine_length (copy : Bool) (t : Ticket) : (titleLine copy t).length ≤ 32 := by
  cases copy with
  | false =>
    show 13 ≤ 32
    decide
  | true => simp [titleLine, spaced, decimal_length, fitted]

theorem lineText_length (copy : Bool) (t : Ticket) (k : Nat) : (lineText copy t k).length ≤ 32 := by
  have hkind := kindText_length t.kind
  unfold lineText
  split
  · exact titleLine_length copy t
  · simp [spaced, decimal_length]
  · simp [spaced, dayText_length, clockText_length]
  · simp [spaced, hexadecimal_length]
  · simp [spaced, decimal_length]
    omega
  · simp [spaced, decimal_length]
  · exact weighingLine_length (by decide) _
  · exact partLine_length _ _
  · exact partLine_length _ _
  · exact partLine_length _ _
  · exact partLine_length _ _
  · exact weighingLine_length (by decide) _
  · exact partLine_length _ _
  · exact partLine_length _ _
  · exact partLine_length _ _
  · exact partLine_length _ _
  · simp [spaced, decimal_length]
  · exact flagsLine_length _
  · exact Nat.zero_le _

theorem fitted_eq {width : Nat} {cs : List Char} (h : cs.length ≤ width) :
    fitted width cs = cs ++ List.replicate (width - cs.length) ' ' := by
  rw [fitted, List.take_append, List.take_of_length_le h, List.take_replicate]
  congr 2
  omega

theorem titleLine_copy (t : Ticket) : titleLine true t =
    "WEIGHT TICKET".toList ++ List.replicate 11 ' ' ++ "COPY ".toList ++ decimal 3 (t.copies + 1) := by
  rw [titleLine, if_pos rfl, fitted_eq (by decide), List.append_assoc _ "COPY ".toList]
  rfl

/-- Settles O56: the eighteen lines are the model's, each within its width, and a transfer carries one of them. -/
theorem ticketLinesPrinted : Obligations.TicketLinesPrinted := by
  intro copy address x figure fig two line day time token weighing parts f marks title lines
  have hfig : ∀ w n, fig w n = decimal w n := fun w n => (decimal_eq w n).symm
  have hline : ∀ items, line items = spaced items := fun items => (spaced_eq items).symm
  have hday : ∀ t, day t = dayText t := fun t => hfig 5 _
  have htime : ∀ t, time t = clockText t := fun t => rfl
  have htoken : token = hexadecimal 16 x.token.toNat := (hexadecimal_eq 16 _).symm
  have hweighing : ∀ label w, weighing label w = weighingLine label w := fun label w => by
    simp only [weighing, hline, hfig, hday, htime, weighingLine]
  have hparts : ∀ w, parts w = [partLine 0 w, partLine 1 w, partLine 2 w, partLine 3 w] := fun w => by
    have hpart : ∀ k, (match w.parts[k]? with
      | none => []
      | some p => line ["P".toList, fig 1 (k + 1), fig 6 p.value, "D".toList, fig 1 p.deck.number, "C".toList,
          fig 5 p.counter, time p.time]) = partLine k w := fun k => by
        simp only [hline, hfig, htime]
        rfl
    exact congrArg (List.map · (List.range 4)) (funext hpart)
  have hmarks : marks = flagCodes f := (flagCodes_eq f).symm
  have htitle : title = titleLine copy x := by
    cases copy with
    | false => rfl
    | true => rw [titleLine_copy, ← hfig]; rfl
  have hkind : (if x.kind = .delivery then "DELIVERY".toList else "COLLECTION".toList) = kindText x.kind := by
    cases x.kind <;> rfl
  have hlines : lines = (List.range' 1 18).map (lineText copy x) := by
    simp only [lines, htitle, hline, hfig, hday, htime, htoken, hweighing, hparts, hmarks, hkind]
    rfl
  clear_value lines
  subst hlines
  refine ⟨rfl, fun l hl => ?_, fun _ => rfl, fun k hk => ?_, fun k l hl => ?_⟩
  · obtain ⟨k, -, rfl⟩ := List.mem_map.mp hl
    exact lineText_length copy x k
  · exact if_neg (Nat.not_lt.mpr hk)
  · have hk : k < 18 := by simpa using (List.getElem?_eq_some_iff.mp hl).1
    rw [List.getElem?_map, List.getElem?_range' hk, Nat.one_mul, Nat.add_comm, Option.map_some, Option.some.injEq] at hl
    subst hl
    rw [← fitted_eq (lineText_length copy x (k + 1))]
    exact if_pos hk

end Sys2Proof.Proofs
end

section
/-! The barrier operations as one change of one barrier (R76 to R84), and O33. -/

namespace Sys2Proof.Proofs
open Sys2Proof Sys2Proof.Machine

variable {s : State} {n : Lane}

/-! ### States and their parts -/

theorem whileRunning_of_running (h : s.power.held = none) (t : State) : s.whileRunning t = t := by
  rw [State.whileRunning, State.running, h]
  rfl

theorem running_of_held (h : s.power.held = none) : s.running = true := by
  rw [State.running, h]
  rfl

theorem quad_set_get {α : Type} (q : Quad α) (n : Lane) : q.set n (q.get n) = q := by cases n <;> rfl

theorem quad_set_set {α : Type} (q : Quad α) (n : Lane) (a b : α) : (q.set n a).set n b = q.set n b := by
  cases n <;> rfl

theorem quad_upd_self {α : Type} {q : Quad α} {n : Lane} {f : α → α} (h : f (q.get n) = q.get n) : q.upd n f = q := by
  rw [Quad.upd, h, quad_set_get]

/-- A change of one barrier into what it is already changes nothing. -/
theorem setBarrier_self {b : Barrier} (h : b = s.barrier n) : { s with barriers := s.barriers.set n b } = s := by
  subst h
  rw [State.barrier, quad_set_get]

theorem modBarrier_eq (f : Barrier → Barrier) :
    s.modBarrier n f = { s with barriers := s.barriers.set n (f (s.barrier n)) } := rfl

theorem setLane_self {l : LaneSeq} (h : l = s.lane n) : { s with lanes := s.lanes.set n l } = s := by
  subst h
  rw [State.lane, quad_set_get]

theorem modLane_eq (f : LaneSeq → LaneSeq) : s.modLane n f = { s with lanes := s.lanes.set n (f (s.lane n)) } := rfl

/-! ### Seeking and obeying -/

/-- `seek` changes its own barrier alone, as `Barrier.sought` says. -/
theorem seek_eq : s.seek n = { s with
    barriers := s.barriers.set n (Barrier.sought (s.laneSettings n).barrier (s.clearReport n) (s.barrier n)) } := by
  have hkept : s = { s with barriers := s.barriers.set n (s.barrier n) } := (setBarrier_self rfl).symm
  have hlowers : (if s.clearReport n = .free then s.startMotion n .down else s) = { s with
      barriers := s.barriers.set n (if s.clearReport n = .free then
        beginMotion (s.laneSettings n).barrier .down (s.barrier n) else s.barrier n) } := by
    by_cases hfree : s.clearReport n = .free
    · rw [if_pos hfree, if_pos hfree]
      rfl
    · rw [if_neg hfree, if_neg hfree]
      exact hkept
  unfold State.seek Barrier.sought
  generalize hstate : (s.barrier n).state = state, htarget : (s.barrier n).target = target
  cases target with
  | up =>
    cases state with
    | down => rfl
    | unknown => rfl
    | _ => exact hkept
  | down =>
    cases state with
    | up => exact hlowers
    | unknown => exact hlowers
    | _ => exact hkept

/-- A barrier given a target: `command` changes its own barrier alone, as `Barrier.obeyed` says. -/
theorem command_eq (t : Toward) : s.command n t = { s with barriers := s.obeying n t } := by
  unfold State.command State.obeying Barrier.obeyed
  rw [Quad.upd]
  by_cases hsame : (s.barrier n).target = t
  · have hsame' : (s.barriers.get n).target = t := hsame
    rw [if_pos hsame, if_pos hsame', quad_set_get]
  · have hsame' : ¬(s.barriers.get n).target = t := hsame
    rw [if_neg hsame, if_neg hsame']
    by_cases hrev : (s.barrier n).state = .lowering ∧ t = .up
    · obtain ⟨hlow, rfl⟩ := hrev
      have hrev' : (s.barriers.get n).state = .lowering ∧ Toward.up = .up := ⟨hlow, rfl⟩
      rw [if_pos hrev', hlow]
      simp only [State.reverse, modBarrier_eq, quad_set_set, State.barrier, Quad.get_set_self, stopMotor]
    · have hrev' : ¬((s.barriers.get n).state = .lowering ∧ t = .up) := hrev
      rw [if_neg hrev']
      dsimp only
      split
      · next hlow => exact absurd ⟨hlow, rfl⟩ hrev
      · rw [seek_eq]
        simp only [modBarrier_eq, quad_set_set, State.barrier, Quad.get_set_self]
        rfl

theorem inMotion_iff (st : BarrierState) : inMotion st = true ↔ st = .raising ∨ st = .lowering := by
  cases st <;> simp [inMotion]

/-- Settles O33: a lane's command by `Barrier.obeyed`, and the three commands of a motion by the barrier's state. -/
theorem barrierDriven : Obligations.BarrierDriven := by
  refine ⟨fun s n t => command_eq t, fun s n hheld => ⟨?_, ?_, ?_⟩⟩
  · refine congrArg _ ((whileRunning_of_running hheld _).trans ?_)
    simp only [modBarrier_eq, rampedBarrier, inMotion_iff]
    split
    · rfl
    · exact setBarrier_self rfl
  · refine congrArg _ ((whileRunning_of_running hheld _).trans ?_)
    simp only [State.travelEnds, inMotion_iff]
  · exact congrArg _ (whileRunning_of_running hheld _)

end Sys2Proof.Proofs
end

section
/-! O30 to O32: faults, switches and the comparator, each as one change of one barrier with its events. -/

namespace Sys2Proof.Proofs
open Sys2Proof Sys2Proof.Machine

variable {s : State} {n : Lane}

/-! ### Events -/

theorem post_eq (k : EventKind) (l : Option Lane) (x : Subject) (d : Detail) :
    s.post k l x d = s.posted [s.event k l x d] s := rfl

/-- An event posted after others of the same second. -/
theorem posted_post {es : List Event} {u : State} (hnow : u.now = s.now) (k : EventKind) (l : Option Lane) (x : Subject)
    (d : Detail) : (s.posted es u).post k l x d = s.posted (es ++ [s.event k l x d]) u := by
  have hevents : s.eventsAfter (es ++ [s.event k l x d]) = (s.eventsAfter es).add ⟨k, l, u.now, x, d⟩ := by
    rw [hnow, State.eventsAfter, List.foldl_append]
    rfl
  rw [State.posted, State.posted, hevents]
  rfl

theorem eventsAfter_append (es fs : List Event) : s.eventsAfter (es ++ fs) = fs.foldl EventQueue.add (s.eventsAfter es) :=
  List.foldl_append ..

/-- Events posted from a state that had posted others before. -/
theorem posted_of_posts {es fs : List Event} {u v : State} (h : s.posts u es) : u.posted fs v = s.posted (es ++ fs) v := by
  have hu : u.events = s.eventsAfter es := h
  rw [State.posted, State.posted, eventsAfter_append, ← hu]
  rfl

/-! ### Entry into FAULT (R85) -/

/-- A barrier whose motor stops, in the state it comes to. -/
theorem stopMotor_state (b : Barrier) (st : BarrierState) : { stopMotor b with state := st } =
    { b with state := st, duty := 0, direction := none, motionMs := none, blanked := false } := rfl

/-- A barrier in FAULT takes a target and does not move (R85). -/
theorem obeyed_of_fault {cfg : BarrierSettings} {clear : LoopReport} {t : Toward} {b : Barrier} {r : BarrierFault}
    (h : b.state = .fault r) : Barrier.obeyed cfg clear t b = { b with target := t } := by
  unfold Barrier.obeyed
  split
  · next htarget => rw [← htarget]
  · rw [if_neg (by rw [h]; nofun), Barrier.sought]
    simp only [h]

theorem suspendCause_of_fault {r : BarrierFault} (h : (s.barrier n).state = .fault r) : s.suspendCause n = true := by
  simp [State.suspendCause, State.barrierFaulted, h]

theorem laneSettle_idle_of_cause (hst : (s.lane n).state = .idle) (h : s.suspendCause n = true) :
    s.laneSettle n = { s with lanes := s.lanes.set n { s.lane n with state := .suspended } } := by
  unfold State.laneSettle
  rw [hst]
  dsimp only
  rw [if_pos h]
  rfl

theorem laneSettle_not_idle_of_cause (hst : (s.lane n).state ≠ .idle) (h : s.suspendCause n = true) :
    s.laneSettle n = s := by
  unfold State.laneSettle
  split
  · next hidle => exact absurd hidle hst
  · rw [if_pos h]
  · rfl

/-- A lane that is neither IDLE nor SUSPENDED is not examined. -/
theorem laneSettle_elsewhere (hidle : (s.lane n).state ≠ .idle) (hsus : (s.lane n).state ≠ .suspended) :
    s.laneSettle n = s := by
  unfold State.laneSettle
  split
  · next h => exact absurd h hidle
  · next h => exact absurd h hsus
  · rfl

/-! ### Entry into HELD (R110) -/

theorem enterHeld_of_ne {r : HoldReason} (h : r ≠ .barrier) : s.enterHeld n r =
    s.posted [s.heldEvent n (s.lane n).visit r] { s with lanes := s.lanes.set n ((s.lane n).heldFor r) } := by
  rw [State.enterHeld, if_neg h]
  rfl

/-- HELD for its barrier, a lane gives RAISE. -/
theorem enterHeld_barrier : s.enterHeld n .barrier = s.posted [s.heldEvent n (s.lane n).visit .barrier]
    { s with lanes := s.lanes.set n ((s.lane n).heldFor .barrier), barriers := s.obeying n .up } := by
  rw [State.enterHeld, if_pos rfl, command_eq]
  rfl

/-- Settles O30: the fault of the barrier, and then the lane by its state. -/
theorem barrierEntersFault : Obligations.BarrierEntersFault := by
  intro s n r b l event
  have hcause : (s.posted [event] { s with barriers := s.barriers.set n b }).suspendCause n = true :=
    suspendCause_of_fault (r := r) (by simp [State.barrier, State.posted, b])
  by_cases hpassing : l.state = .passing
  · have hobeys : State.obeying { s with barriers := s.barriers.set n b } n .up
        = s.barriers.set n { b with target := .up } := by
      rw [State.obeying, Quad.upd, Quad.get_set_self, obeyed_of_fault (r := r) rfl, quad_set_set]
    have hfault : s.enterFault n r = ((s.posted [event] { s with barriers := s.barriers.set n b }).modLane n fun l =>
        { l with cycle := unmarkedCycle l.cycle }).enterHeld n .barrier := by
      unfold State.enterFault
      rw [show (s.lane n).state = .passing from hpassing]
      rfl
    have hlane : ((s.posted [event] { s with barriers := s.barriers.set n b }).modLane n fun l =>
        { l with cycle := unmarkedCycle l.cycle }).lane n = { l with cycle := l.cycle.map fun _ => false } :=
      Quad.get_set_self ..
    rw [hpassing, hfault, enterHeld_barrier, hlane]
    refine Eq.trans (posted_of_posts (s := s) (es := [event]) ?_) ?_
    · rfl
    · exact congrArg₂ (fun q ls => s.posted _ { s with barriers := q, lanes := ls }) hobeys (quad_set_set ..)
  · have hfault : s.enterFault n r = (s.posted [event] { s with barriers := s.barriers.set n b }).laneSettle n := by
      unfold State.enterFault
      split
      · next h => exact absurd h hpassing
      · rfl
    rw [hfault]
    split
    · next h => exact absurd h hpassing
    · next hidle => exact laneSettle_idle_of_cause hidle hcause
    · next hidle => exact laneSettle_not_idle_of_cause hidle hcause

/-! ### The comparator (R79, R83) -/

theorem tripInMotion_eq : s.tripInMotion n = (match (s.barrier n).state with
    | .raising => s.enterFault n .stall
    | .lowering =>
      if (s.barrier n).obstructions + 1 < 3 then
        s.posted [s.event .barrierObstructed (some n) .none (.obstructions ((s.barrier n).obstructions + 1))]
          { s with
            barriers := s.barriers.set n
              { s.barrier n with
                state := .reversing, obstructions := (s.barrier n).obstructions + 1, duty := 0, direction := none
                motionMs := none, blanked := false } }
      else
        State.enterFault
          (s.posted [s.event .barrierObstructed (some n) .none (.obstructions ((s.barrier n).obstructions + 1))]
            { s with
              barriers := s.barriers.set n { s.barrier n with obstructions := (s.barrier n).obstructions + 1 } })
          n .obstruction
    | _ => s) := by
  unfold State.tripInMotion
  cases hst : (s.barrier n).state with
  | lowering =>
    dsimp only
    unfold State.obstructed
    dsimp only
    split
    · simp only [State.reverse, modBarrier_eq, post_eq, State.posted, quad_set_set, State.barrier, Quad.get_set_self,
        stopMotor]
      rfl
    · rfl
  | _ => rfl

/-- A trip taken where the comparator or its blanking alone has changed, by the barrier as it was. -/
theorem trip_of_set {c : Barrier} (hstate : c.state = (s.barrier n).state)
    (hcount : c.obstructions = (s.barrier n).obstructions) :
    State.tripInMotion { s with barriers := s.barriers.set n c } n = (match (s.barrier n).state with
    | .raising => State.enterFault { s with barriers := s.barriers.set n c } n .stall
    | .lowering =>
      if (s.barrier n).obstructions + 1 < 3 then
        s.posted [s.event .barrierObstructed (some n) .none (.obstructions ((s.barrier n).obstructions + 1))]
          { s with
            barriers := s.barriers.set n
              { c with
                state := .reversing, obstructions := (s.barrier n).obstructions + 1, duty := 0, direction := none
                motionMs := none, blanked := false } }
      else
        State.enterFault
          (s.posted [s.event .barrierObstructed (some n) .none (.obstructions ((s.barrier n).obstructions + 1))]
            { s with barriers := s.barriers.set n { c with obstructions := (s.barrier n).obstructions + 1 } })
          n .obstruction
    | _ => { s with barriers := s.barriers.set n c }) := by
  have hc : State.barrier { s with barriers := s.barriers.set n c } n = c := Quad.get_set_self ..
  rw [tripInMotion_eq, hc, ← hstate, ← hcount]
  simp only [quad_set_set]
  rfl

/-- Settles O32: a trip by the barrier's state and its blanking, the end of the blanking, and the comparator clear. -/
theorem comparatorActed : Obligations.ComparatorActed := by
  intro s n hheld b taken
  refine ⟨?_, ?_, rfl⟩
  · refine congrArg _ ((if_pos (running_of_held hheld)).trans ?_)
    have htrip : (s.modBarrier n fun b => { b with comparator := true }).tripInMotion n
        = taken { b with comparator := true } := trip_of_set rfl rfl
    unfold State.comparatorTrips
    dsimp only
    rw [htrip]
    by_cases hrev : b.state = .reversing
    · rw [if_pos hrev]
      split
      · rfl
      · next h => exact absurd hrev h
    · rw [if_neg hrev]
      split
      · next h => exact absurd h hrev
      · rfl
  · refine congrArg _ ((whileRunning_of_running hheld _).trans ?_)
    have htrip : (s.modBarrier n fun b => { b with blanked := false }).tripInMotion n
        = taken { b with blanked := false } := trip_of_set rfl rfl
    unfold State.blankingEnds
    dsimp only
    rw [htrip]
    simp only [Bool.and_eq_true]
    rfl

/-! ### The limit switches (R80, R82) -/

/-- A barrier that comes to rest, where no lane enters IDLE by it. -/
theorem barrierRests_eq {st : BarrierState} (h : ¬((s.lane n).state = .clearing ∧ st = .down)) :
    s.barrierRests n st = { s with
      barriers := s.barriers.set n (Barrier.sought (s.laneSettings n).barrier (s.clearReport n)
        { s.barrier n with state := st, duty := 0, direction := none, motionMs := none, blanked := false }) } := by
  unfold State.barrierRests
  dsimp only
  rw [if_neg h, seek_eq]
  simp only [modBarrier_eq, quad_set_set, State.barrier, Quad.get_set_self]
  rfl

/-- A barrier commanded to the target that it has is left alone. -/
theorem command_self {t : Toward} (h : (s.barrier n).target = t) : s.command n t = s := if_pos h

theorem enterIdle_barrier (h : (s.barrier n).target = .down) : (s.enterIdle n).barrier n = s.barrier n := by
  unfold State.enterIdle
  dsimp only
  split
  · rw [State.enterClosed, command_self]
    · rfl
    · exact h
  · split
    · rfl
    · split <;> rfl

/-- A barrier that is DOWN with the target DOWN stays where it is. -/
theorem seek_of_down (hst : (s.barrier n).state = .down) (ht : (s.barrier n).target = .down) : s.seek n = s := by
  rw [seek_eq]
  refine setBarrier_self ?_
  rw [Barrier.sought, hst, ht]

/-- Settles O31: both switches, and otherwise the switch by the barrier's state. -/
theorem limitSwitchesActed : Obligations.LimitSwitchesActed := by
  intro s n side active hheld hlevel b u rest sought arrived
  refine congrArg _ ((if_pos (running_of_held hheld)).trans ?_)
  unfold State.switchChanges
  rw [if_neg hlevel]
  have hu : s.modBarrier n (setSwitch side active) = u := rfl
  have hb : u.barrier n = b := Quad.get_set_self ..
  dsimp only
  rw [hu, hb]
  by_cases hboth : b.downSwitch = true ∧ b.upSwitch = true
  · rw [if_pos hboth, if_pos (Bool.and_eq_true_iff.mpr hboth)]
    cases b.state <;> rfl
  · rw [if_neg hboth, if_neg fun h => hboth (Bool.and_eq_true_iff.mp h)]
    have hrests : ∀ st, st ≠ .down → u.barrierRests n st = sought (rest st) := fun st hst => by
      rw [barrierRests_eq fun h => hst h.2, hb]
      exact congrArg (fun q => { s with barriers := q }) (quad_set_set ..)
    have hdown : (u.modBarrier n fun b => { b with obstructions := 0 }).barrierRests n .down
        = if (s.lane n).state = .clearing ∧ b.target = .down then
            State.enterIdle { s with barriers := s.barriers.set n arrived } n
          else if (s.lane n).state = .clearing then
            State.seek (State.enterIdle { s with barriers := s.barriers.set n arrived } n) n
          else sought arrived := by
      have harrived : ((u.modBarrier n fun b => { b with obstructions := 0 }).modBarrier n fun b =>
          { stopMotor b with state := .down }) = { s with barriers := s.barriers.set n arrived } := by
        simp only [modBarrier_eq, State.barrier, quad_set_set, Quad.get_set_self, u]
        rfl
      have hlane : ((u.modBarrier n fun b => { b with obstructions := 0 }).lane n).state = (s.lane n).state := rfl
      have hview : State.barrier { s with barriers := s.barriers.set n arrived } n = arrived := Quad.get_set_self ..
      unfold State.barrierRests
      dsimp only
      rw [harrived, hlane]
      by_cases hclearing : (s.lane n).state = .clearing
      · rw [if_pos ⟨hclearing, rfl⟩, if_pos hclearing]
        by_cases ht : b.target = .down
        · rw [if_pos ⟨hclearing, ht⟩]
          refine seek_of_down ?_ ?_
          · rw [enterIdle_barrier (by rw [hview]; exact ht), hview]
          · rw [enterIdle_barrier (by rw [hview]; exact ht), hview]
            exact ht
        · rw [if_neg fun h => ht h.2]
      · rw [if_neg fun h => hclearing h.1, if_neg fun h => hclearing h.1, if_neg hclearing, seek_eq, hview]
        exact congrArg (fun q => { s with barriers := q }) (quad_set_set ..)
    unfold State.switchActs
    rw [hb, hdown, hrests .up nofun, hrests .unknown nofun]
    generalize b.state = st, side = sd, active = act
    cases st <;> cases sd <;> cases act <;> rfl

end Sys2Proof.Proofs
end

section
/-! O34: the entries of the lane sequencer, each as one change of one lane and its barrier (R108 to R115). -/

namespace Sys2Proof.Proofs
open Sys2Proof Sys2Proof.Machine

variable {s : State} {n : Lane}

/-! ### Suspend causes (R113) -/

theorem report_faulted_iff (l : Loop) : l.report = .faulted ↔ l.condition = .faulted := by
  unfold Loop.report
  cases l.condition <;> simp

theorem barrierFaulted_iff : s.barrierFaulted n = true ↔ ∃ r, (s.barrier n).state = .fault r := by
  unfold State.barrierFaulted
  cases (s.barrier n).state <;> simp

theorem barrierFaulted_eq_isFault : s.barrierFaulted n = isFault (s.barrier n).state := by
  unfold State.barrierFaulted isFault
  cases (s.barrier n).state <;> rfl

theorem suspendCause_iff : s.suspendCause n = true ↔ (∃ r, (s.barrier n).state = .fault r) ∨ s.deckValid n = false
    ∨ (s.loop n .entry).condition = .faulted ∨ (s.loop n .clear).condition = .faulted := by
  simp only [State.suspendCause, Bool.or_eq_true, barrierFaulted_iff, Bool.not_eq_true', decide_eq_true_eq,
    report_faulted_iff, or_assoc]

/-! ### The entries -/

theorem obeying_congr {t : State} {d : Toward} (hb : t.barriers = s.barriers) (hl : t.loops = s.loops)
    (hs : (t.laneSettings n).barrier = (s.laneSettings n).barrier) : t.obeying n d = s.obeying n d := by
  simp only [State.obeying, hb, hs, State.clearReport, State.loop, hl]

theorem modLaneSettings_eq (f : LaneSettings → LaneSettings) : s.modLaneSettings n f =
    s.storing { s.ret with
      settings := { s.ret.settings with lanes := s.ret.settings.lanes.set n (f (s.laneSettings n)) } } := rfl

theorem enterClosed_eq : s.enterClosed n =
    { s.storing { s.ret with
        settings := { s.ret.settings with
          lanes := s.ret.settings.lanes.set n { s.laneSettings n with closed := true } } } with
      lanes := s.lanes.set n { s.lane n with state := .closed }, barriers := s.obeying n .down } := by
  have hobeys : ((s.setLaneState n .closed).modLaneSettings n fun t => { t with closed := true }).obeying n .down
      = s.obeying n .down := obeying_congr rfl rfl (by simp [State.setLaneState])
  rw [State.enterClosed, command_eq, hobeys]
  rfl

theorem enterIdle_eq : s.enterIdle n =
    if (s.lane n).closePending = true ∨ s.ret.settings.siteMode = .closed then
      { s.storing { s.ret with
          settings := { s.ret.settings with
            lanes := s.ret.settings.lanes.set n { s.laneSettings n with closed := true } } } with
        lanes := s.lanes.set n { idleLane (s.lane n) with state := .closed, closePending := false }
        barriers := s.obeying n .down }
    else
      { s with
        lanes := s.lanes.set n
          { idleLane (s.lane n) with
            state :=
              if s.suspendCause n = true then .suspended
              else if (s.deck n).occupancy = .occupied then .occupied else .idle } } := by
  unfold State.enterIdle
  dsimp only
  simp only [Bool.or_eq_true, State.siteClosed, decide_eq_true_eq]
  have hcause : (s.modLane n idleLane).suspendCause n = s.suspendCause n := rfl
  have hset : ∀ st, (s.modLane n idleLane).setLaneState n st
      = { s with lanes := s.lanes.set n { idleLane (s.lane n) with state := st } } := fun st => by
    simp only [State.setLaneState, modLane_eq, State.lane, Quad.get_set_self, quad_set_set]
  split
  · have hlane : ((s.modLane n idleLane).modLane n fun l => { l with closePending := false })
        = { s with lanes := s.lanes.set n { idleLane (s.lane n) with closePending := false } } := by
      simp only [modLane_eq, State.lane, Quad.get_set_self, quad_set_set]
    rw [hlane, enterClosed_eq]
    simp only [State.lane, Quad.get_set_self, quad_set_set]
    rfl
  · rw [hcause]
    split
    · exact hset _
    · split
      · next hocc =>
        rw [if_pos (show (s.deck n).occupancy = .occupied from hocc)]
        exact hset _
      · next hocc =>
        rw [if_neg (show ¬(s.deck n).occupancy = .occupied from hocc)]
        rfl

theorem letGo_of_fault (h : isFault (s.barrier n).state = true) : s.letGo n = s.enterHeld n .barrier :=
  if_pos (barrierFaulted_eq_isFault.trans h)

theorem letGo_of_not_fault (h : isFault (s.barrier n).state = false) : s.letGo n = { s with
    lanes := s.lanes.set n
      { s.lane n with
        state := .passing
        passTimer := if (s.lane n).identity.map (fun i => i.direction) = some .entry then some 0 else none
        passLimit := (s.laneSettings n).policy.passTimeout, passDue := false }
    barriers := s.obeying n .up } := by
  have htimer : (match (s.lane n).identity with
      | some i => if i.direction = .entry then some 0 else none
      | none => none) = if (s.lane n).identity.map (fun i => i.direction) = some .entry then some 0 else none := by
    cases (s.lane n).identity with
    | none => rfl
    | some i => simp
  rw [State.letGo, if_neg (by rw [barrierFaulted_eq_isFault, h]; exact Bool.false_ne_true), command_eq, ← htimer]
  rfl

theorem enterClearing_eq : s.enterClearing n = { s with
    lanes := s.lanes.set n { s.lane n with state := .clearing, passTimer := none, passDue := false }
    barriers := s.obeying n .down } := by
  rw [State.enterClearing, command_eq]
  rfl

/-- A lane in REFUSED for a reason, with its lamp lit. -/
def refusedLane (r : Reason) (l : LaneSeq) : LaneSeq :=
  { l with
    state := .refused, lastRefusal := some r, flashLit := true, passTimer := none, passDue := false
    heldWeighing := none, postponed := false }

theorem enterRefused_eq (r : Reason) : s.enterRefused n r =
    if (s.deck n).occupancy = .empty then
      State.enterIdle { s with lanes := s.lanes.set n (refusedLane r (s.lane n)), barriers := s.obeying n .down } n
    else { s with lanes := s.lanes.set n (refusedLane r (s.lane n)), barriers := s.obeying n .down } := by
  unfold State.enterRefused
  rw [command_eq]
  rfl

theorem laneSettle_eq : s.laneSettle n = (match (s.lane n).state with
    | .idle =>
      if s.suspendCause n = true then { s with lanes := s.lanes.set n { s.lane n with state := .suspended } }
      else if (s.deck n).occupancy = .occupied then
        { s with lanes := s.lanes.set n { s.lane n with state := .occupied } }
      else s
    | .suspended => if s.suspendCause n = true then s else s.enterIdle n
    | _ => s) := rfl

/-- Settles O34: the suspend causes, the examination of a lane, and its entries. -/
theorem laneEntries : Obligations.LaneEntries := by
  refine fun s n => ⟨suspendCause_iff, enterIdle_eq, laneSettle_eq, ?_, fun r hr => enterHeld_of_ne hr, fun r => ?_,
    enterClearing_eq⟩
  · split
    · next h => rw [letGo_of_fault h, enterHeld_barrier]; rfl
    · next h => exact letGo_of_not_fault (Bool.eq_false_iff.mpr h)
  · exact enterRefused_eq r

end Sys2Proof.Proofs
end

section
/-! O27 to O29: a loop measured, judged by its condition, and what a change of its report brings to its lane and its
barrier (R68 to R74, R82 to R84, R109 to R115). -/

namespace Sys2Proof.Proofs
open Sys2Proof Sys2Proof.Machine

variable {s t : State} {n : Lane} {side : LoopSide}

/-! ### The judgement of a count (R68 to R74) -/

theorem validCount_iff (p : Nat) : validCount p = true ↔ ¬(p < 20000 ∨ 400000 < p) := by
  simp only [validCount, Bool.and_eq_true, decide_eq_true_eq]
  omega

theorem judgedFree_eq (cfg : LoopSettings) (p : Nat) (l : Loop) : judgedFree cfg p l = (match l.baseline with
    | none => l
    | some b =>
      if p + cfg.onThr ≤ b then settledLoop .occupied l
      else if b + cfg.onThr ≤ p then { l with baseline := some p } else l) := by
  have hdrop : ∀ b : Nat, (cfg.onThr : Int) ≤ loopShift b p ↔ p + cfg.onThr ≤ b := fun b => by unfold loopShift; omega
  have hrise : ∀ b : Nat, loopShift b p ≤ -(cfg.onThr : Int) ↔ b + cfg.onThr ≤ p := fun b => by unfold loopShift; omega
  simp only [judgedFree, hdrop, hrise] <;> rfl

theorem judgedOccupied_eq (cfg : LoopSettings) (p : Nat) (l : Loop) : judgedOccupied cfg p l = (match l.baseline with
    | none => l
    | some b => if b ≤ p + cfg.offThr then settledLoop .free l else l) := by
  have hback : ∀ b : Nat, loopShift b p ≤ (cfg.offThr : Int) ↔ b ≤ p + cfg.offThr := fun b => by unfold loopShift; omega
  simp only [judgedOccupied, hback] <;> rfl

/-- The measured loop by its count, its condition and its baseline. -/
theorem measuredLoop_eq (cfg : LoopSettings) (p : Nat) (l : Loop) : measuredLoop cfg p l =
    if p < 20000 ∨ 400000 < p then
      if l.condition = .faulted then { l with recovery := 0 } else faultedLoop l
    else
      match l.condition, l.baseline with
      | .start, _ => learningLoop p l
      | .learning, _ => l
      | .faulted, _ => if l.recovery = 8 then learningLoop p l else { l with recovery := l.recovery + 1 }
      | .free, some b =>
        if p + cfg.onThr ≤ b then settledLoop .occupied l
        else if b + cfg.onThr ≤ p then { l with baseline := some p } else l
      | .occupied, some b => if b ≤ p + cfg.offThr then settledLoop .free l else l
      | .free, none => l
      | .occupied, none => l := by
  unfold measuredLoop
  by_cases hbad : p < 20000 ∨ 400000 < p
  · rw [if_pos hbad, if_neg fun h => (validCount_iff p).mp h hbad]
  · rw [if_neg hbad, if_pos ((validCount_iff p).mpr hbad)]
    rcases l with ⟨c, b, _, _, _, _, _, _⟩
    cases c with
    | free => exact (judgedFree_eq cfg p _).trans (by cases b <;> rfl)
    | occupied => exact (judgedOccupied_eq cfg p _).trans (by cases b <;> rfl)
    | start => rfl
    | learning => rfl
    | faulted => rfl

/-- A FREE loop stays FREE, becomes OCCUPIED or becomes FAULTED. -/
theorem measured_condition_of_free {cfg : LoopSettings} {p : Nat} {l : Loop} (h : l.condition = .free) :
    (measuredLoop cfg p l).condition = .free ∨ (measuredLoop cfg p l).condition = .occupied
      ∨ (measuredLoop cfg p l).condition = .faulted := by
  rcases l with ⟨c, b, _, _, _, _, _, _⟩
  cases h
  rw [measuredLoop_eq]
  dsimp only
  split
  · exact .inr (.inr rfl)
  · cases b with
    | none => exact .inl rfl
    | some b =>
      dsimp only
      split
      · exact .inr (.inl rfl)
      · split <;> exact .inl rfl

theorem report_free_iff (l : Loop) : l.report = .free ↔ l.condition = .free := by
  unfold Loop.report
  cases l.condition <;> simp

theorem report_occupied_iff (l : Loop) :
    l.report = .occupied ↔ l.condition = .start ∨ l.condition = .learning ∨ l.condition = .occupied := by
  unfold Loop.report
  cases l.condition <;> simp

/-- A loop that was FREE and reports OCCUPIED is in the condition OCCUPIED. -/
theorem measured_occupied_of_free {cfg : LoopSettings} {p : Nat} {l : Loop} (h : l.report = .free)
    (ho : (measuredLoop cfg p l).report = .occupied) : (measuredLoop cfg p l).condition = .occupied := by
  rw [report_occupied_iff] at ho
  rcases measured_condition_of_free (cfg := cfg) (p := p) ((report_free_iff l).mp h) with hc | hc | hc
  · simp [hc] at ho
  · exact hc
  · simp [hc] at ho

/-- A loop that becomes FREE was OCCUPIED, by a valid count. -/
theorem measured_free_of_not_free {cfg : LoopSettings} {p : Nat} {l : Loop} (h : l.report ≠ .free)
    (hf : (measuredLoop cfg p l).report = .free) : l.condition = .occupied ∧ ¬(p < 20000 ∨ 400000 < p) := by
  rw [Ne, report_free_iff] at h
  rw [report_free_iff] at hf
  rcases l with ⟨c, b, _, _, _, _, _, _⟩
  rw [measuredLoop_eq] at hf
  dsimp only at hf h
  split at hf
  · split at hf
    · next hc => rw [hc] at hf; cases hf
    · cases hf
  · next hvalid =>
    refine ⟨?_, hvalid⟩
    cases c with
    | free => exact absurd rfl h
    | occupied => rfl
    | start => cases hf
    | learning => cases hf
    | faulted =>
      dsimp only at hf
      split at hf <;> cases hf

/-! ### The events of a measurement (R74, R112) -/

theorem modLoop_eq (f : Loop → Loop) : s.modLoop n side f = { s with loops := (s.modLoop n side f).loops } := rfl

theorem modLoop_loop_same (f : Loop → Loop) : (s.modLoop n side f).loop n side = f (s.loop n side) := by
  cases side <;> simp [State.modLoop, State.loop]

theorem modLoop_loop_other {f : Loop → Loop} {m : Lane} {sd : LoopSide} (h : m ≠ n ∨ sd ≠ side) :
    (s.modLoop n side f).loop m sd = s.loop m sd := by
  by_cases hm : m = n
  · subst hm
    have hsd : sd ≠ side := h.resolve_left fun hne => hne rfl
    cases side <;> cases sd <;> first | exact absurd rfl hsd | simp [State.modLoop, State.loop]
  · cases side <;> cases sd <;> simp [State.modLoop, State.loop, Quad.get_upd, hm]

/-- What a fault of a loop posts. -/
def faultEvents (s : State) (n : Lane) (side : LoopSide) (k : Option LoopFaultKind) : List Event :=
  (k.map fun k => s.event .loopFault (some n) .none (.loopFault side k)).toList

theorem postLoopFault_eq {k : Option LoopFaultKind} {q : Quad LoopPair} :
    State.postLoopFault { s with loops := q } n side k = s.posted (faultEvents s n side k) { s with loops := q } := by
  cases k <;> rfl

theorem faultEvents_loopFaultOf (p : Nat) (l : Loop) : faultEvents s n side (loopFaultOf p l) =
    if l.condition = .faulted then
      if p < 20000 ∨ 400000 < p then []
      else if l.recovery = 8 then [s.event .loopFault (some n) .none (.loopFault side .recovered)] else []
    else if p < 20000 then [s.event .loopFault (some n) .none (.loopFault side .short)]
    else if 400000 < p then [s.event .loopFault (some n) .none (.loopFault side .opened)] else [] := by
  unfold loopFaultOf
  by_cases hbad : p < 20000 ∨ 400000 < p
  · rw [if_neg fun h => (validCount_iff p).mp h hbad]
    by_cases hc : l.condition = .faulted
    · rw [if_pos hc, if_pos hc, if_pos hbad]
      rfl
    · rw [if_neg hc, if_neg hc]
      by_cases hlow : p < 20000
      · rw [if_pos hlow, if_pos hlow]
        rfl
      · rw [if_neg hlow, if_neg hlow, if_pos (hbad.resolve_left hlow)]
        rfl
  · rw [if_pos ((validCount_iff p).mpr hbad)]
    by_cases hc : l.condition = .faulted
    · rw [if_pos hc, if_neg hbad]
      by_cases hr : l.recovery = 8
      · rw [if_pos ⟨hc, hr⟩, if_pos hr]
        rfl
      · rw [if_neg fun h => hr h.2, if_neg hr]
        rfl
    · rw [if_neg fun h => hc h.1, if_neg hc, if_neg fun h => hbad (.inl h), if_neg fun h => hbad (.inr h)]
      rfl

/-! ### What a change of the report brings -/

/-- The state of a measurement before the lane and the barrier hear it. -/
def measured (s : State) (n : Lane) (side : LoopSide) (count : Nat) : State :=
  let l : Loop := { s.loop n side with latest := some (min count 400001) }
  s.posted (faultEvents s n side (loopFaultOf (min count 400001) l))
    { s with loops := (s.modLoop n side fun _ => measuredLoop (s.loopSettings n side) (min count 400001) l).loops }

theorem measureLoop_eq (count : Nat) :
    s.measureLoop n side count = (measured s n side count).reportChanged n side (s.loop n side).report := by
  unfold State.measureLoop measured
  dsimp only
  rw [modLoop_eq, postLoopFault_eq]
  cases side <;> rfl

theorem measured_loop (count : Nat) : (measured s n side count).loop n side =
    measuredLoop (s.loopSettings n side) (min count 400001)
      { s.loop n side with latest := some (min count 400001) } := by
  have hsame : (measured s n side count).loop n side = (s.modLoop n side fun _ =>
      measuredLoop (s.loopSettings n side) (min count 400001)
        { s.loop n side with latest := some (min count 400001) }).loop n side := by cases side <;> rfl
  rw [hsame, modLoop_loop_same]

theorem reportChanged_loops {before : LoopReport} : (s.reportChanged n side before).loops = s.loops :=
  (keeps_reportChanged (p := { traffic := true, lanes := true, settings := true, barriers := true, events := true })
    rfl rfl rfl rfl rfl).loops rfl

theorem reportChanged_loop {before : LoopReport} (m : Lane) (sd : LoopSide) :
    (s.reportChanged n side before).loop m sd = s.loop m sd := by
  cases sd <;> simp only [State.loop, reportChanged_loops]

theorem loopOutOfHours_eq {before : LoopReport} : s.loopOutOfHours n side before =
    s.posted (if s.ret.settings.siteMode = .closed ∧ before = .free ∧ (s.loop n side).report = .occupied then
      [s.event .outOfHours (some n) .none (.loop side)] else []) s := by
  unfold State.loopOutOfHours
  simp only [State.siteClosed, decide_eq_true_eq]
  split <;> rfl

theorem obeying_self {d : Toward} (h : (s.barrier n).target = d) : s.obeying n d = s.barriers :=
  quad_upd_self (if_pos h)

theorem enterClearing_barriers (h : (s.barrier n).target = .down) : (s.enterClearing n).barriers = s.barriers := by
  rw [enterClearing_eq]
  exact obeying_self h

theorem enterIdle_barriers (h : (s.barrier n).target = .down) : (s.enterIdle n).barriers = s.barriers := by
  rw [enterIdle_eq]
  split
  · exact obeying_self h
  · rfl

theorem laneSettle_barriers (h : (s.barrier n).target = .down) : (s.laneSettle n).barriers = s.barriers := by
  unfold State.laneSettle
  split
  · split
    · rfl
    · split <;> rfl
  · split
    · rfl
    · exact enterIdle_barriers h
  · rfl

theorem entryPassed_keeps : Keeps { traffic := true } s (s.entryPassed n) := by
  unfold State.entryPassed
  split
  · exact Keeps.ite (fun _ => keeps_modTraffic rfl) fun _ => Keeps.refl _ _
  · exact Keeps.refl _ _

theorem cycleEnds_barriers {marked : Bool} (h : (s.barrier n).target = .down) :
    (s.cycleEnds n marked).barriers = s.barriers := by
  have hpassed : ((s.setCycle n none).entryPassed n).barriers = s.barriers := entryPassed_keeps.barriers rfl
  unfold State.cycleEnds
  dsimp only
  split
  · rw [enterClearing_barriers (by rw [State.barrier, hpassed]; exact h), hpassed]
  · split <;> rfl

theorem followCycle_barriers {before : LoopReport} (h : (s.barrier n).target = .down) :
    (s.followCycle n before).barriers = s.barriers := by
  unfold State.followCycle
  split
  · rfl
  · split
    · exact cycleEnds_barriers h
    · rfl
  · rfl

/-- What a barrier whose target is DOWN does as it hears its clear loop (R82, R84). -/
theorem barrierHears_barrier (h : (s.barrier n).target = .down) : (s.barrierHears n).barrier n =
    (match (s.barrier n).state with
    | .lowering =>
      if s.clearReport n = .free then s.barrier n
      else { s.barrier n with state := .reversing, duty := 0, direction := none, motionMs := none, blanked := false }
    | .up => if s.clearReport n = .free then beginMotion (s.laneSettings n).barrier .down (s.barrier n) else s.barrier n
    | .unknown =>
      if s.clearReport n = .free then beginMotion (s.laneSettings n).barrier .down (s.barrier n) else s.barrier n
    | _ => s.barrier n) := by
  have hreverse : (s.reverse n).barrier n
      = { s.barrier n with state := .reversing, duty := 0, direction := none, motionMs := none, blanked := false } :=
    Quad.get_set_self ..
  have hseek : (s.seek n).barrier n
      = Barrier.sought (s.laneSettings n).barrier (s.clearReport n) (s.barrier n) := by
    rw [seek_eq]
    exact Quad.get_set_self ..
  unfold State.barrierHears
  split
  · next hst hr => rw [hst, if_pos hr]
  · next hst hr => rw [hst, if_neg (by rw [hr]; nofun), hreverse]
  · next hst hr => rw [hst, if_neg (by rw [hr]; nofun), hreverse]
  · next hfree hlow =>
    rw [hseek, hfree, Barrier.sought, h]
    cases hb : (s.barrier n).state with
    | lowering => exact (hlow hb).elim
    | _ => rfl
  · next hfree _ hocc hfau =>
    cases hb : (s.barrier n).state with
    | lowering =>
      cases hr : s.clearReport n with
      | free => exact (hfree hr).elim
      | occupied => exact (hocc hb hr).elim
      | faulted => exact (hfau hb hr).elim
    | up => exact (if_neg hfree).symm
    | unknown => exact (if_neg hfree).symm
    | _ => rfl

theorem reportChanged_entry {before : LoopReport} (h : (s.loop n .entry).report ≠ before) :
    s.reportChanged n .entry before = (s.loopOutOfHours n .entry before).laneHears n .entry before := if_neg h

theorem reportChanged_same {before : LoopReport} (h : (s.loop n side).report = before) :
    s.reportChanged n side before = s := if_pos h

/-- No entry of a lane changes the settings of a motion. -/
theorem enterIdle_motion (m : Lane) : ((s.enterIdle n).laneSettings m).barrier = (s.laneSettings m).barrier := by
  rw [enterIdle_eq]
  split
  · by_cases hm : m = n
    · subst hm
      simp [State.laneSettings, State.storing]
    · simp [State.laneSettings, State.storing, Quad.get_set, hm]
  · rfl

theorem laneSettle_motion (m : Lane) : ((s.laneSettle n).laneSettings m).barrier = (s.laneSettings m).barrier := by
  unfold State.laneSettle
  split
  · split
    · rfl
    · split <;> rfl
  · split
    · rfl
    · exact enterIdle_motion m
  · rfl

theorem laneSettle_loops : (s.laneSettle n).loops = s.loops :=
  (keeps_laneSettle (p := { lanes := true, settings := true, barriers := true }) rfl rfl rfl).loops rfl

theorem followCycle_keeps {before : LoopReport} :
    Keeps { traffic := true, lanes := true, barriers := true, events := true } s (s.followCycle n before) :=
  keeps_followCycle rfl rfl rfl rfl

/-- The lane's part of a change of the clear loop's report. -/
def heardClear (s : State) (n : Lane) (before : LoopReport) : State :=
  ((s.loopOutOfHours n .clear before).followCycle n before).laneSettle n

theorem heardClear_loops {before : LoopReport} : (heardClear s n before).loops = s.loops := by
  rw [heardClear, laneSettle_loops, followCycle_keeps.loops rfl, loopOutOfHours_eq]
  rfl

theorem heardClear_motion {before : LoopReport} (m : Lane) :
    ((heardClear s n before).laneSettings m).barrier = (s.laneSettings m).barrier := by
  rw [heardClear, laneSettle_motion, State.laneSettings, followCycle_keeps.settings rfl, loopOutOfHours_eq]
  rfl

theorem heardClear_barriers {before : LoopReport} (h : (s.barrier n).target = .down) :
    (heardClear s n before).barriers = s.barriers := by
  have hours : (s.loopOutOfHours n .clear before).barriers = s.barriers := by
    rw [loopOutOfHours_eq]
    rfl
  have hcycle : ((s.loopOutOfHours n .clear before).followCycle n before).barriers = s.barriers :=
    (followCycle_barriers (by rw [State.barrier, hours]; exact h)).trans hours
  exact (laneSettle_barriers (by rw [State.barrier, hcycle]; exact h)).trans hcycle

theorem reportChanged_clear {before : LoopReport} (h : (s.loop n .clear).report ≠ before) :
    s.reportChanged n .clear before = (heardClear s n before).barrierHears n := if_neg h

/-- Settles O28: the lane's own entries leave a barrier whose target is DOWN alone, and then the barrier hears its
loop. -/
theorem clearLoopMovesTheBarrier : Obligations.ClearLoopMovesTheBarrier := by
  intro s n count hheld htarget b
  refine ⟨s.measureLoop n .clear count, congrArg Host.Outcome.next (whileRunning_of_running hheld _), fun hchanged => ?_⟩
  rw [measureLoop_eq, reportChanged_loop] at hchanged ⊢
  rw [reportChanged_clear hchanged]
  have hbarriers := heardClear_barriers (s := measured s n .clear count) (before := (s.loop n .clear).report) htarget
  have hb : (heardClear (measured s n .clear count) n (s.loop n .clear).report).barrier n = b :=
    congrArg (Quad.get · n) hbarriers
  have hreport : (heardClear (measured s n .clear count) n (s.loop n .clear).report).clearReport n
      = ((measured s n .clear count).loop n .clear).report :=
    congrArg (fun q => (Quad.get q n).clear.report) heardClear_loops
  rw [barrierHears_barrier (by rw [hb]; exact htarget), hb, hreport, heardClear_motion]
  rfl

/-! ### The cycle of a clear loop (R109, R110, R112) -/

theorem enterIdle_cycle : ((s.enterIdle n).lane n).cycle = (s.lane n).cycle := by
  rw [enterIdle_eq]
  split <;> simp [State.lane, idleLane]

theorem laneSettle_cycle : ((s.laneSettle n).lane n).cycle = (s.lane n).cycle := by
  unfold State.laneSettle
  split
  · split
    · simp [State.setLaneState]
    · split
      · simp [State.setLaneState]
      · rfl
  · split
    · rfl
    · exact enterIdle_cycle
  · rfl

theorem barrierHears_keeps : Keeps { barriers := true } s (s.barrierHears n) := keeps_barrierHears rfl

theorem laneSettle_keeps : Keeps { lanes := true, settings := true, barriers := true } s (s.laneSettle n) :=
  keeps_laneSettle rfl rfl rfl

theorem lane_congr (h : t.lanes = s.lanes) (m : Lane) : t.lane m = s.lane m := congrArg (Quad.get · m) h

theorem barrier_congr (h : t.barriers = s.barriers) (m : Lane) : t.barrier m = s.barrier m := congrArg (Quad.get · m) h

theorem setCycle_cycle (c : Option Bool) : ((s.setCycle n c).lane n).cycle = c := by simp [State.setCycle]

/-- A cycle begins, marked where a pass may be made. -/
theorem followCycle_begins {before : LoopReport} (hb : before = .free) (hr : (s.loop n .clear).report = .occupied)
    (hc : (s.loop n .clear).condition = .occupied) :
    s.followCycle n before = s.setCycle n (some (s.mayPass n)) := by
  unfold State.followCycle
  rw [hb, hr, hc]

theorem followCycle_faulted {before : LoopReport} (hr : (s.loop n .clear).report = .faulted) :
    s.followCycle n before = s.setCycle n none := by
  unfold State.followCycle
  rw [hr]
  cases before <;> rfl

theorem followCycle_ends {before : LoopReport} {marked : Bool} (hb : before = .occupied)
    (hr : (s.loop n .clear).report = .free) (hc : (s.lane n).cycle = some marked) :
    s.followCycle n before = s.cycleEnds n marked := by
  unfold State.followCycle
  rw [hb, hr, hc]

/-- The cycle that `followCycle` leaves is the one that stands in the end. -/
theorem reportChanged_cycle {before : LoopReport} (h : (s.loop n .clear).report ≠ before) :
    ((s.reportChanged n .clear before).lane n).cycle
      = (((s.loopOutOfHours n .clear before).followCycle n before).lane n).cycle := by
  rw [reportChanged_clear h, lane_congr (barrierHears_keeps.lanes rfl), heardClear, laneSettle_cycle]

theorem loopOutOfHours_loop {before : LoopReport} (m : Lane) (sd : LoopSide) :
    (s.loopOutOfHours n side before).loop m sd = s.loop m sd := by
  rw [loopOutOfHours_eq]
  cases sd <;> rfl

theorem loopOutOfHours_mayPass {before : LoopReport} : (s.loopOutOfHours n side before).mayPass n = s.mayPass n := by
  rw [loopOutOfHours_eq]
  rfl

theorem loopOutOfHours_of_occupied : s.loopOutOfHours n side .occupied = s := if_neg fun h => nomatch h.2.1

/-- The end of a marked cycle where a pass may be made: the pass. -/
theorem reportChanged_pass (hr : (s.loop n .clear).report = .free) (hc : (s.lane n).cycle = some true)
    (hp : s.mayPass n = true) : s.reportChanged n .clear .occupied
      = (((s.setCycle n none).entryPassed n).enterClearing n).barrierHears n := by
  have hclearing : ((((s.setCycle n none).entryPassed n).enterClearing n).lane n).state = .clearing := by
    rw [enterClearing_eq]
    simp [State.lane]
  rw [reportChanged_clear (by rw [hr]; nofun), heardClear, loopOutOfHours_of_occupied, followCycle_ends rfl hr hc,
    State.cycleEnds, if_pos (by rw [hp]; rfl), laneSettle_elsewhere (by rw [hclearing]; nofun) (by rw [hclearing]; nofun)]

/-- The end of any other cycle. -/
theorem reportChanged_noPass {marked : Bool} (hr : (s.loop n .clear).report = .free)
    (hc : (s.lane n).cycle = some marked) (hp : (marked && s.mayPass n) = false) : s.reportChanged n .clear .occupied
      = ((s.posted (if (s.lane n).state = .manual then [] else [s.event .unexpectedPass (some n) .none .none])
        (s.setCycle n none)).laneSettle n).barrierHears n := by
  rw [reportChanged_clear (by rw [hr]; nofun), heardClear, loopOutOfHours_of_occupied, followCycle_ends rfl hr hc,
    State.cycleEnds, if_neg (by rw [hp]; nofun)]
  split <;> rfl

theorem mayPass_iff : s.mayPass n = true ↔ (s.lane n).state = .passing ∧ (s.barrier n).state = .up := by
  rw [State.mayPass, Bool.and_eq_true, decide_eq_true_eq, decide_eq_true_eq]

/-- A barrier that is UP over a FREE loop begins its lowering as its lane enters CLEARING, whatever its target was. -/
theorem enterClearing_lowers (hup : (s.barrier n).state = .up) (hfree : s.clearReport n = .free) :
    ((s.enterClearing n).barrierHears n).barrier n
      = beginMotion (s.laneSettings n).barrier .down { s.barrier n with target := .down } := by
  have hb : (s.enterClearing n).barrier n
      = Barrier.obeyed (s.laneSettings n).barrier .free .down (s.barrier n) := by
    rw [enterClearing_eq, ← hfree]
    exact Quad.get_upd_self ..
  have hreport : (s.enterClearing n).clearReport n = .free := by
    rw [enterClearing_eq]
    exact hfree
  have hsettings : (s.enterClearing n).laneSettings n = s.laneSettings n := by
    rw [enterClearing_eq]
    rfl
  by_cases ht : (s.barrier n).target = .down
  · have hsame : (s.enterClearing n).barrier n = s.barrier n := hb.trans (if_pos ht)
    rw [barrierHears_barrier (by rw [hsame]; exact ht), hsame, hup, hreport, hsettings]
    dsimp only
    rw [if_pos rfl, ← ht]
  · have hlowers : (s.enterClearing n).barrier n
        = beginMotion (s.laneSettings n).barrier .down { s.barrier n with target := .down } := by
      rw [hb, Barrier.obeyed, if_neg ht, if_neg fun h => nomatch h.2, Barrier.sought]
      simp only [hup]
      rfl
    rw [barrierHears_barrier (by rw [hlowers]; rfl), hlowers, hreport]
    rfl

theorem entryPassed_visits {i : Identity} {k : Nat} (hi : (s.lane n).identity = some i) (hk : (s.lane n).visit = some k) :
    (s.entryPassed n).ret.traffic.visits =
      if i.direction = .entry then
        s.ret.traffic.visits.map fun v => if v.number = k then { v with state := .onSite } else v
      else s.ret.traffic.visits := by
  unfold State.entryPassed
  rw [hi, hk]
  dsimp only
  split <;> rfl

/-- A measurement that frees an occupied clear loop is of a valid count, and posts nothing itself. -/
theorem measured_events_of_freed {count : Nat} (hocc : (s.loop n .clear).report = .occupied)
    (hfree : ((measured s n .clear count).loop n .clear).report = .free) : (measured s n .clear count).events = s.events := by
  rw [measured_loop] at hfree
  obtain ⟨hcond, hvalid⟩ := measured_free_of_not_free
    (l := { s.loop n .clear with latest := some (min count 400001) }) (by rw [Loop.report] at hocc ⊢; rw [hocc]; nofun) hfree
  rw [measured, faultEvents_loopFaultOf, if_neg (by rw [hcond]; nofun), if_neg fun h => hvalid (.inl h),
    if_neg fun h => hvalid (.inr h)]
  rfl

theorem cycleEnds_cycle {marked : Bool} : ((s.cycleEnds n marked).lane n).cycle = none := by
  have hcleared : (((s.setCycle n none).entryPassed n).lane n).cycle = none := by
    rw [lane_congr (entryPassed_keeps.lanes rfl), setCycle_cycle]
  unfold State.cycleEnds
  dsimp only
  split
  · rw [enterClearing_eq]
    simpa [State.lane] using hcleared
  · split <;> exact setCycle_cycle none

/-- Settles O29: the cycle by the two reports, and the end of a marked one in PASSING with the barrier UP. -/
theorem clearLoopCycle : Obligations.ClearLoopCycle := by
  intro s n count hheld l before passing
  refine ⟨s.measureLoop n .clear count, congrArg Host.Outcome.next (whileRunning_of_running hheld _), ?_, ?_, ?_⟩
  · intro hfree hocc
    rw [measureLoop_eq, reportChanged_loop] at hocc
    have hcond : ((measured s n .clear count).loop n .clear).condition = .occupied := by
      rw [measured_loop] at hocc ⊢
      exact measured_occupied_of_free hfree hocc
    rw [measureLoop_eq, reportChanged_cycle (by rw [hocc, show (s.loop n .clear).report = .free from hfree]; nofun),
      followCycle_begins hfree (by rw [loopOutOfHours_loop]; exact hocc) (by rw [loopOutOfHours_loop]; exact hcond),
      setCycle_cycle, loopOutOfHours_mayPass]
    rfl
  · intro hnot hfault
    rw [measureLoop_eq, reportChanged_loop] at hfault
    rw [measureLoop_eq, reportChanged_cycle (by rw [hfault]; exact hnot.symm),
      followCycle_faulted (by rw [loopOutOfHours_loop]; exact hfault), setCycle_cycle]
  · intro marked hocc hfree hmarked
    rw [measureLoop_eq, reportChanged_loop] at hfree
    have hevents := measured_events_of_freed hocc hfree
    have hchanged : ((measured s n .clear count).loop n .clear).report ≠ (s.loop n .clear).report := by
      rw [hfree, show (s.loop n .clear).report = .occupied from hocc]
      nofun
    have hcycle : ((measured s n .clear count).lane n).cycle = some marked := hmarked
    refine ⟨?_, ?_⟩
    · rw [measureLoop_eq, reportChanged_cycle hchanged, show (s.loop n .clear).report = .occupied from hocc,
        loopOutOfHours_of_occupied, followCycle_ends rfl hfree hcycle, cycleEnds_cycle]
    rw [measureLoop_eq, show (s.loop n .clear).report = .occupied from hocc]
    have hclear : (((measured s n .clear count).setCycle n none).entryPassed n).clearReport n = .free := by
      rw [State.clearReport, State.loop, entryPassed_keeps.loops rfl]
      exact hfree
    split
    · next hpass =>
      obtain ⟨rfl, hp⟩ := Bool.and_eq_true_iff.mp hpass
      have hmay : (measured s n .clear count).mayPass n = true := hp
      obtain ⟨hpassing, hup⟩ := mayPass_iff.mp hmay
      rw [reportChanged_pass hfree hcycle hmay]
      refine ⟨?_, ?_, ?_, ?_⟩
      · rw [lane_congr (barrierHears_keeps.lanes rfl), enterClearing_eq]
        rw [lane_congr (entryPassed_keeps.lanes rfl),
          show ((measured s n .clear count).setCycle n none).lane n = { l with cycle := none } from Quad.get_upd_self ..]
        exact Quad.get_set_self ..
      · rw [enterClearing_lowers (by rw [barrier_congr (entryPassed_keeps.barriers rfl)]; exact hup) hclear,
          barrier_congr (entryPassed_keeps.barriers rfl), State.laneSettings, entryPassed_keeps.settings rfl]
        rfl
      · rw [State.posts, barrierHears_keeps.events rfl, enterClearing_eq]
        exact (entryPassed_keeps.events rfl).trans hevents
      · intro i k hi hk
        rw [barrierHears_keeps.traffic rfl, enterClearing_eq]
        refine (entryPassed_visits (i := i) (k := k) ?_ ?_).trans rfl
        · simp [State.setCycle]; exact hi
        · simp [State.setCycle]; exact hk
    · next hpass =>
      rw [reportChanged_noPass hfree hcycle (Bool.eq_false_iff.mpr hpass)]
      refine ⟨?_, ?_⟩
      · rw [barrierHears_keeps.traffic rfl, laneSettle_keeps.traffic rfl]
        rfl
      · rw [State.posts, barrierHears_keeps.events rfl, laneSettle_events]
        simp only [State.posted, State.eventsAfter, hevents]
        rfl

end Sys2Proof.Proofs
end

section
/-! O27: a loop's measurement, with its events and its lane. -/

namespace Sys2Proof.Proofs
open Sys2Proof Sys2Proof.Machine

variable {s t : State} {n : Lane} {side : LoopSide}

/-! ### What the change of a report posts -/

/-- What the end of a clear-loop cycle posts. -/
def cycleEvents (s : State) (n : Lane) (before after : LoopReport) : List Event :=
  match before, after, (s.lane n).cycle with
  | .occupied, .free, some marked =>
    if (marked && s.mayPass n) = true ∨ (s.lane n).state = .manual then []
    else [s.event .unexpectedPass (some n) .none .none]
  | _, _, _ => []

theorem cycleEnds_events (marked : Bool) : (s.cycleEnds n marked).events =
    s.eventsAfter (if (marked && s.mayPass n) = true ∨ (s.lane n).state = .manual then []
      else [s.event .unexpectedPass (some n) .none .none]) := by
  unfold State.cycleEnds
  dsimp only
  by_cases hpass : (marked && s.mayPass n) = true
  · rw [if_pos hpass, if_pos (.inl hpass), enterClearing_eq]
    exact (entryPassed_keeps (s := s.setCycle n none)).events rfl
  · rw [if_neg hpass]
    by_cases hmanual : (s.lane n).state = .manual
    · rw [if_pos hmanual, if_pos (.inr hmanual)]
      rfl
    · rw [if_neg hmanual, if_neg (not_or.mpr ⟨hpass, hmanual⟩)]
      rfl

theorem followCycle_events (before : LoopReport) :
    (s.followCycle n before).events = s.eventsAfter (cycleEvents s n before (s.loop n .clear).report) := by
  unfold State.followCycle cycleEvents
  cases before <;> cases (s.loop n .clear).report <;> cases (s.loop n .clear).condition <;> cases (s.lane n).cycle <;>
    first | rfl | exact cycleEnds_events _

/-- What a changed report posts: OUT_OF_HOURS, and at a clear loop the end of its cycle. -/
def changeEvents (s : State) (n : Lane) (side : LoopSide) (before after : LoopReport) : List Event :=
  (if s.ret.settings.siteMode = .closed ∧ before = .free ∧ after = .occupied then
    [s.event .outOfHours (some n) .none (.loop side)] else [])
  ++ (match side with
    | .clear => cycleEvents s n before after
    | .entry => [])

theorem changeEvents_same (r : LoopReport) : changeEvents s n side r r = [] := by
  cases r <;> cases side <;> simp [changeEvents, cycleEvents]

theorem examineCapture_elsewhere (h : (s.lane n).state ≠ .weighing) : s.examineCapture n = s := by
  have hnot : ∀ r, ¬s.captureReady n r = true := fun r => by simp [State.captureReady, h]
  unfold State.examineCapture
  split
  · rfl
  · rw [if_neg (hnot _)]

theorem reportChanged_events {before : LoopReport}
    (h : ¬(side = .entry ∧ (s.loop n side).report = .free ∧ (s.lane n).state = .weighing)) :
    (s.reportChanged n side before).events = s.eventsAfter (changeEvents s n side before (s.loop n side).report) := by
  by_cases hsame : (s.loop n side).report = before
  · rw [reportChanged_same hsame, hsame, changeEvents_same]
    rfl
  · cases side with
    | clear =>
      rw [reportChanged_clear hsame, barrierHears_keeps.events rfl, heardClear, laneSettle_events, followCycle_events,
        loopOutOfHours_loop, changeEvents, eventsAfter_append, loopOutOfHours_eq]
      rfl
    | entry =>
      rw [reportChanged_entry hsame, State.laneHears, laneSettle_events, loopOutOfHours_loop]
      have hexamined : (if (s.loop n .entry).report = .free then (s.loopOutOfHours n .entry before).examineCapture n
          else s.loopOutOfHours n .entry before) = s.loopOutOfHours n .entry before := by
        split
        · next hfree =>
          refine examineCapture_elsewhere ?_
          rw [loopOutOfHours_eq]
          exact fun hw => h ⟨rfl, hfree, hw⟩
        · rfl
      rw [hexamined, loopOutOfHours_eq, changeEvents, List.append_nil]
      rfl

/-! ### The lane at a fault that comes or goes (R113) -/

theorem suspendCause_of_loop (h : (s.loop n side).report = .faulted) : s.suspendCause n = true := by
  cases side <;> simp [State.suspendCause, h]

/-- The entry into IDLE, as it leaves the lane. -/
theorem enterIdle_lane : (s.enterIdle n).lane n
    = s.idled n (s.suspendCause n) (decide ((s.deck n).occupancy = .occupied)) := by
  rw [enterIdle_eq]
  unfold State.idled
  by_cases hc : (s.lane n).closePending = true ∨ s.ret.settings.siteMode = .closed
  · have hcloses : ((s.lane n).closePending || decide (s.ret.settings.siteMode = .closed)) = true := by simpa using hc
    rw [if_pos hc]
    dsimp only
    rw [hcloses]
    simp [State.lane, idleLane]
  · have hcloses : ((s.lane n).closePending || decide (s.ret.settings.siteMode = .closed)) = false := by
      simpa using hc
    rw [if_neg hc]
    dsimp only
    rw [hcloses]
    simp [State.lane, idleLane]

theorem laneSettle_lane_of_cause (h : s.suspendCause n = true) : (s.laneSettle n).lane n =
    if (s.lane n).state = .idle then { s.lane n with state := .suspended } else s.lane n := by
  by_cases hidle : (s.lane n).state = .idle
  · rw [if_pos hidle, laneSettle_idle_of_cause hidle h]
    exact Quad.get_set_self ..
  · rw [if_neg hidle, laneSettle_not_idle_of_cause hidle h]

theorem laneSettle_lane_of_not_idle (h : (s.lane n).state ≠ .idle) : (s.laneSettle n).lane n =
    if (s.lane n).state = .suspended ∧ s.suspendCause n = false then
      s.idled n false (decide ((s.deck n).occupancy = .occupied))
    else s.lane n := by
  unfold State.laneSettle
  split
  · next hidle => exact absurd hidle h
  · next hsus =>
    cases hcause : s.suspendCause n with
    | true => rw [if_pos rfl, if_neg fun hh => nomatch hh.2]
    | false => rw [if_neg Bool.false_ne_true, if_pos ⟨hsus, rfl⟩, enterIdle_lane, hcause]
  · next hsus => rw [if_neg fun hh => hsus hh.1]

/-- A lane whose cycle ends without a word. -/
def uncycled (side : LoopSide) (l : LaneSeq) : LaneSeq :=
  match side with
  | .entry => l
  | .clear => { l with cycle := none }

/-- A state whose lane has its cycle ended so. -/
def uncycledState (s : State) (n : Lane) (side : LoopSide) : State :=
  { s with lanes := s.lanes.set n (uncycled side (s.lane n)) }

theorem uncycledState_lane : (uncycledState s n side).lane n = uncycled side (s.lane n) := Quad.get_set_self ..

theorem uncycledState_suspendCause : (uncycledState s n side).suspendCause n = s.suspendCause n := rfl

/-- What the lane is before it settles at a fault that comes or goes. -/
theorem reportChanged_lane {before : LoopReport} (hne : (s.loop n side).report ≠ before)
    (hfree : (s.loop n side).report ≠ .free) (hbegin : before ≠ .free ∨ (s.loop n side).report = .faulted) :
    (s.reportChanged n side before).lane n
      = ((uncycledState s n side).laneSettle n).lane n := by
  have hours : s.loopOutOfHours n side before = s := if_neg fun h => hbegin.elim (fun hb => hb h.2.1) fun hf => by
    rw [hf] at h
    exact nomatch h.2.2
  cases side with
  | entry =>
    rw [reportChanged_entry hne, hours, State.laneHears]
    rw [if_neg hfree]
    exact congrArg (fun x => (State.laneSettle x n).lane n) (setLane_self rfl).symm
  | clear =>
    have hcycle : s.followCycle n before = s.setCycle n none := by
      unfold State.followCycle
      cases hr : (s.loop n .clear).report with
      | free => exact absurd hr hfree
      | occupied =>
        cases before with
        | free => exact absurd ((hbegin.resolve_left fun hb => hb rfl).symm.trans hr) nofun
        | occupied => rfl
        | faulted => rfl
      | faulted => cases before <;> rfl
    rw [reportChanged_clear hne, lane_congr (barrierHears_keeps.lanes rfl), heardClear, hours, hcycle]
    rfl

/-- Only a FAULTED loop that recovers, and begins to learn, leaves FAULTED. -/
theorem measured_learning_of_faulted {cfg : LoopSettings} {p : Nat} {l : Loop} (h : l.report = .faulted)
    (hne : (measuredLoop cfg p l).report ≠ .faulted) : (measuredLoop cfg p l).report = .occupied := by
  rw [report_faulted_iff] at h
  rcases l with ⟨c, b, _, _, _, _, _, _⟩
  cases h
  rw [measuredLoop_eq] at hne ⊢
  dsimp only at hne ⊢
  split
  · next hbad =>
    rw [if_pos hbad] at hne
    exact absurd rfl hne
  · next hbad =>
    rw [if_neg hbad] at hne
    split
    · rfl
    · next hcount =>
      rw [if_neg hcount] at hne
      exact absurd rfl hne

/-- The other loop of a lane. -/
def otherLoop : LoopSide → LoopSide
  | .entry => .clear
  | .clear => .entry

theorem suspendCause_eq_sides (side : LoopSide) : s.suspendCause n = false ↔ isFault (s.barrier n).state = false
    ∧ s.deckValid n = true ∧ (s.loop n side).report ≠ .faulted ∧ (s.loop n (otherLoop side)).report ≠ .faulted := by
  cases side <;> simp [State.suspendCause, otherLoop, barrierFaulted_eq_isFault, and_assoc, and_comm, and_left_comm]

/-- Settles O27: the loop as it is judged, then what a change of its report posts and brings to its lane. -/
theorem loopMeasurementJudged : Obligations.LoopMeasurementJudged := by
  intro s n side count hheld p l cfg settled learning expected before fault faults hours seq passes ends other kept
  have hloop : (measured s n side count).loop n side = expected := (measured_loop count).trans (measuredLoop_eq ..)
  have hfaults : faultEvents s n side (loopFaultOf p l) = faults := faultEvents_loopFaultOf p l
  have hmeasured : measured s n side count = s.posted faults { s with loops := (measured s n side count).loops } := by
    rw [← hfaults]
    rfl
  refine ⟨s.measureLoop n side count, congrArg Host.Outcome.next (whileRunning_of_running hheld _), ?_⟩
  rw [measureLoop_eq]
  refine ⟨(reportChanged_loop n side).trans hloop, ?_, ?_, ?_, ?_, ?_⟩
  · intro m sd hother
    rw [reportChanged_loop]
    exact Eq.trans (by cases sd <;> rfl) (modLoop_loop_other (f := fun _ => measuredLoop cfg p l) hother)
  · intro hsame
    rw [reportChanged_same (by rw [hloop]; exact hsame)]
    exact hmeasured
  · intro hno
    have hends : changeEvents (measured s n side count) n side before expected.report = hours ++ ends := by
      refine congrArg (hours ++ ·) ?_
      simp only [ends, cycleEvents]
      cases side with
      | entry => rfl
      | clear =>
        dsimp only
        have hpass : ∀ marked, passes marked = (marked && (measured s n .clear count).mayPass n) := fun marked =>
          Bool.and_assoc ..
        simp only [hpass, show ((measured s n .clear count).lane n).cycle = seq.cycle from rfl]
        generalize expected.report = after, before = b, seq.cycle = cycle
        cases b <;> cases after <;> cases cycle <;> rfl
    rw [State.posts, reportChanged_events (by rw [hloop]; exact hno), hloop, hends, List.append_assoc,
      eventsAfter_append faults, ← hfaults]
    rfl
  · intro hbefore hfault
    have hreport : ((measured s n side count).loop n side).report = .faulted := (congrArg Loop.report hloop).trans hfault
    rw [reportChanged_lane (by rw [hreport]; exact hbefore.symm) (by rw [hreport]; nofun) (.inr hreport),
      laneSettle_lane_of_cause (suspendCause_of_loop (side := side) (by cases side <;> exact hreport)),
      uncycledState_lane, apply_ite kept]
    cases side <;> rfl
  · intro hbefore hrecovers hnot
    have hfaulted : (s.loop n side).report = .faulted := hbefore
    have hreport : ((measured s n side count).loop n side).report = .occupied := by
      rw [measured_loop]
      refine measured_learning_of_faulted hbefore ?_
      rw [measuredLoop_eq]
      exact hrecovers
    have hother : ((measured s n side count).loop n (otherLoop side)).report = other :=
      congrArg Loop.report <| Eq.trans (by cases side <;> rfl)
        ((modLoop_loop_other (f := fun _ => measuredLoop cfg p l) (s := s) (n := n) (side := side) (m := n)
          (sd := otherLoop side) (.inr (by cases side <;> nofun))).trans (by cases side <;> rfl))
    have hcause : (measured s n side count).suspendCause n = false
        ↔ isFault (s.barrier n).state = false ∧ s.deckValid n = true ∧ other ≠ .faulted := by
      rw [suspendCause_eq_sides side, hreport, hother]
      exact ⟨fun ⟨hb, hd, _, ho⟩ => ⟨hb, hd, ho⟩, fun ⟨hb, hd, ho⟩ => ⟨hb, hd, nofun, ho⟩⟩
    have hlane : (uncycledState (measured s n side count) n side).lane n = kept seq :=
      uncycledState_lane.trans (by cases side <;> rfl)
    have hstate : (kept seq).state = seq.state := by cases side <;> rfl
    rw [reportChanged_lane (by rw [hreport, hfaulted]; nofun) (by rw [hreport]; nofun)
        (.inl (by rw [hfaulted]; nofun)),
      laneSettle_lane_of_not_idle (by rw [hlane, hstate]; exact hnot), hlane, hstate, uncycledState_suspendCause,
      apply_ite kept]
    refine if_congr (and_congr_right fun _ => hcause) ?_ rfl
    unfold State.idled
    rw [hlane]
    cases side <;> rfl

end Sys2Proof.Proofs
end

section
/-! O58: CAL ENABLE, the supply states and the resets; O38: the timers' expiries. -/

namespace Sys2Proof.Proofs
open Sys2Proof Sys2Proof.Machine

variable {s u : State} {n : Lane}

/-! ### Operations in flight ended for a cause (R55, R64, R208) -/

/-- A deck whose operation in flight, if any, ends for a cause. -/
def abortedDeck (now : SiteTime) (c : AbortCause) (d : Deck) : Deck :=
  match d.op with
  | some op => { d with op := none, lastOutcome := some ⟨op.sub, .aborted c, now⟩ }
  | none => d

/-- What the end of the operation of a deck posts. -/
def abortEvents (s : State) (n : Lane) (c : AbortCause) (d : Deck) : List Event :=
  (d.op.map fun op => s.event .calAborted (some n) .none (.calAborted op.sub c)).toList

theorem setDeck_self {d : Deck} (h : d = s.deck n) : { s with decks := s.decks.set n d } = s := by
  subst h
  rw [State.deck, quad_set_get]

theorem posted_nil : s.posted [] s = s := rfl

theorem abortOp_eq (c : AbortCause) : s.abortOp n c =
    s.posted (abortEvents s n c (s.deck n)) { s with decks := s.decks.set n (abortedDeck s.now c (s.deck n)) } := by
  unfold State.abortOp abortEvents abortedDeck
  split
  · next h =>
    rw [h]
    exact congrArg (s.posted []) (setDeck_self rfl).symm
  · next h =>
    rw [h]
    rfl

theorem posted_abortOp {es : List Event} (hnow : u.now = s.now) (c : AbortCause) : (s.posted es u).abortOp n c =
    s.posted (es ++ abortEvents s n c (u.deck n))
      { u with decks := u.decks.set n (abortedDeck s.now c (u.deck n)) } := by
  have hevents : abortEvents (s.posted es u) n c (u.deck n) = abortEvents s n c (u.deck n) := by
    simp only [abortEvents, State.event, show (s.posted es u).now = s.now from hnow]
  rw [abortOp_eq, show (s.posted es u).now = s.now from hnow]
  refine (posted_of_posts (s := s) (es := es) ?_).trans ?_
  · rfl
  · rw [show (s.posted es u).deck n = u.deck n from rfl, hevents]
    rfl

theorem filterMap_cons_toList {α β : Type} (f : α → Option β) (a : α) (as : List α) :
    (a :: as).filterMap f = (f a).toList ++ as.filterMap f := by
  rw [List.filterMap_cons]
  cases f a <;> rfl

/-- Every operation in flight ended, lane 1 first. -/
theorem posted_abortAll {es : List Event} (hnow : u.now = s.now) (c : AbortCause) :
    (s.posted es u).eachLane (fun t n => t.abortOp n c) = s.posted
      (es ++ Lane.all.filterMap fun n =>
        (u.deck n).op.map fun op => s.event .calAborted (some n) .none (.calAborted op.sub c))
      { u with decks := Quad.ofFn fun n => abortedDeck s.now c (u.deck n) } := by
  simp only [State.eachLane, Lane.all, filterMap_cons_toList, List.filterMap_nil, List.append_nil, ← List.append_assoc]
  rw [posted_abortOp, posted_abortOp, posted_abortOp, posted_abortOp]
  · rfl
  all_goals exact hnow

theorem lanes_unpostponed : u.eachLane (fun t n => t.modLane n fun l => { l with postponed := false })
    = { u with lanes := u.lanes.map fun l => { l with postponed := false } } := rfl

theorem running_false_of_held (h : s.power.held ≠ none) : s.running = false := by
  rw [State.running]
  cases hh : s.power.held with
  | none => exact absurd hh h
  | some c => rfl

theorem caught_eq (c : Caught) : (if s.running then s.caughtCopy c else s.copy) =
    if s.power.held = none then
      match c with
      | .empty => .empty
      | .incomplete => .incomplete
      | .complete => .complete s.ret (Config.sectionCheck s.ret)
    else s.copy := by
  by_cases h : s.power.held = none
  · rw [if_pos (running_of_held h), if_pos h]
    cases c <;> rfl
  · rw [if_neg (by rw [running_false_of_held h]; nofun), if_neg h]

/-- Settles O58: every operation in flight ends with the enable or with NORMAL, and the two resets by the copy they
catch. -/
theorem supplyAndEnable : Obligations.SupplyAndEnable := by
  refine ⟨fun s => rfl, fun s hheld => ⟨?_, fun mv => ?_, fun mv => ?_⟩, fun s c => ⟨fun mv => ?_, ?_⟩⟩
  · refine congrArg Host.Outcome.next ?_
    unfold State.calEnableFalls
    rw [if_pos (running_of_held hheld)]
    exact posted_abortAll (s := s) (es := []) (u := { s with power := { s.power with calEnable := false } }) rfl .enable
  · refine congrArg Host.Outcome.next ((whileRunning_of_running hheld _).trans ?_)
    unfold State.judgeSupply
    split
    · exact posted_abortAll (s := s) (es := [s.event .powerWarning none .none (.warning true)])
        (u := { s with power := { s.power with supply := .warning } }) rfl .warning
    · rfl
  · refine congrArg Host.Outcome.next ((whileRunning_of_running hheld _).trans ?_)
    unfold State.warningEnds
    rfl
  · refine congrArg Host.Outcome.next ?_
    unfold State.brownsOut
    rw [State.holdReset, caught_eq]
    rfl
  · refine congrArg Host.Outcome.next ?_
    rw [State.lineResets, State.holdReset, caught_eq]
    rfl

/-! ### Events and the entries of a lane -/

theorem posted_enterIdle {es : List Event} : (s.posted es u).enterIdle n = s.posted es (u.enterIdle n) := by
  have hcond : ((s.posted es u).lane n).closePending = true ∨ (s.posted es u).ret.settings.siteMode = .closed
      ↔ (u.lane n).closePending = true ∨ u.ret.settings.siteMode = .closed := Iff.rfl
  rw [enterIdle_eq, enterIdle_eq]
  by_cases h : (u.lane n).closePending = true ∨ u.ret.settings.siteMode = .closed
  · rw [if_pos (hcond.mpr h), if_pos h]
    rfl
  · rw [if_neg fun hh => h (hcond.mp hh), if_neg h]
    rfl

theorem posted_enterRefused {es : List Event} {r : Reason} :
    (s.posted es u).enterRefused n r = s.posted es (u.enterRefused n r) := by
  rw [enterRefused_eq, enterRefused_eq, apply_ite (s.posted es), ← posted_enterIdle]
  rfl

/-! ### The cancellation of a visit (R147) -/

theorem postCrossed_eq (k : Fin 8) (xs : List (Nat × Bool)) : s.postCrossed k xs =
    s.posted (xs.map fun (l, up) => s.event .streamLevel none (.stream k) (.level l up)) s := by
  induction xs generalizing s with
  | nil => rfl
  | cons x xs ih =>
    obtain ⟨l, up⟩ := x
    refine (ih (s := s.post .streamLevel none (.stream k) (.level l up))).trans ?_
    rfl

theorem cancelVisit_eq (v : Visit) : s.cancelVisit v = s.posted (s.cancelEvents v) (s.storing (s.cancelled v)) := by
  have hafter : (s.storing (s.cancelled v)).streamTotals v.stream
      = { s.streamTotals v.stream with reserved := (s.streamTotals v.stream).reserved - v.blocks } :=
    (vector_get_set ..).trans (if_pos rfl)
  have hlevels : s.cancelVisit v
      = (s.storing (s.cancelled v)).judgeLevels v.stream (committed (s.streamTotals v.stream)) := rfl
  rw [hlevels, State.judgeLevels, postCrossed_eq, hafter]
  rfl

theorem loopStuck_eq (side : LoopSide) : s.stuckExpires n side =
    if (s.loop n side).stuckDue then
      s.posted [s.event .loopStuck (some n) .none (.stuck side (s.loopSettings n side).limit)]
        (s.modLoop n side fun l => { l with stuck := true, stuckDue := false })
    else s := rfl

theorem endEntryHold_eq (v : Visit) (r : Reason) : s.endEntryHold v r =
    s.posted (s.cancelEvents v ++ [s.refusal v.entryLane v.token r])
      (State.enterRefused { s.storing (s.cancelled v) with
        lanes := s.lanes.set v.entryLane { s.lane v.entryLane with lateNumber := some v.number } } v.entryLane r) := by
  unfold State.endEntryHold
  dsimp only
  rw [cancelVisit_eq, State.postRefused, posted_post, ← posted_enterRefused]
  · rfl
  · rfl

theorem passEnds_eq (v : Visit) : s.passEnds n v =
    s.posted (s.cancelEvents v ++ [s.event .passTimeout (some n) (.visit v.number) (.token v.token)])
      (State.enterRefused (s.storing (s.cancelled v)) n .passTimeout) := by
  rw [State.passEnds, cancelVisit_eq, posted_post, ← posted_enterRefused]
  rfl

/-- Settles O38: each expiry by its due mark, a cancellation first where a visit ends. -/
theorem timersExpire : Obligations.TimersExpire := by
  intro s hheld
  refine ⟨fun n side => ?_, fun n side => ?_, fun k v hv => ?_, fun k hv => ?_, fun n v hv => ?_⟩
  all_goals refine congrArg Host.Outcome.next ((whileRunning_of_running hheld _).trans ?_)
  · exact loopStuck_eq side
  · rfl
  · rw [State.approvalExpires, hv]
    dsimp only
    rw [endEntryHold_eq]
  · rw [State.approvalExpires, hv]
  · rw [State.passExpires, hv]
    dsimp only
    rw [passEnds_eq]

end Sys2Proof.Proofs
end

section
/-! O55: the print job that holds the bus (R174 to R182). -/

namespace Sys2Proof.Proofs
open Sys2Proof Sys2Proof.Machine

variable {s : State}

theorem holdsBus_eq (q : PrintJob) : holdsBus q = !decide (q.state = .queued) := by
  unfold holdsBus
  cases q.state <;> rfl

theorem endedTicket_failed (copy : Bool) (r : PrintFailure) (x : Ticket) : endedTicket copy (.failed r) x =
    if copy = true ∨ x.print = .printed then x else { x with print := .failed, failure := some r } := by
  cases copy with
  | true => exact (if_pos (.inl rfl)).symm
  | false => exact if_congr (by simp) rfl rfl

theorem endedTicket_done (copy : Bool) (x : Ticket) : endedTicket copy .done x =
    { x with print := .printed, failure := none, copies := if copy then min (x.copies + 1) 255 else x.copies } := by
  cases copy <;> rfl

theorem queued_left (js : List PrintJob) :
    js.filter (fun q => !holdsBus q) = js.filter fun q => decide (q.state = .queued) := by
  simp only [holdsBus_eq, Bool.not_not]

theorem setBusJob_eq (st : JobState) : s.setBusJob st = { s with
    printing := { s.printing with
      queue := s.printing.queue.map fun q => if q.state = .queued then q else { q with state := st } } } := by
  have hmoved : ∀ q : PrintJob, (if holdsBus q then { q with state := st } else q)
      = if q.state = .queued then q else { q with state := st } := fun q => by
    rw [holdsBus_eq]
    by_cases h : q.state = .queued <;> simp [h]
  simp only [State.setBusJob, hmoved] <;> rfl

/-- The state that a job's end leaves in its ticket. -/
def ticketEnded (s : State) (k : Nat) (f : Ticket → Ticket) : State :=
  s.storing { s.ret with
    tickets := { s.ret.tickets with
      journal := s.ret.tickets.journal.map fun x => if x.number = k then f x else x } }

theorem endJob_failed (j : PrintJob) (p : Printing) (hq : p.queue = s.printing.queue) (r : PrintFailure) :
    State.endJob { s with printing := p } j (.failed r) =
      s.posted [s.event .printFailed (some j.lane) (.ticket j.ticket) (.jobFailed j.copy r)]
        { ticketEnded s j.ticket fun x =>
            if j.copy = true ∨ x.print = .printed then x else { x with print := .failed, failure := some r } with
          printing := { p with
            queue := granted (s.printing.queue.filter fun q => decide (q.state = .queued)) } } := by
  rw [← queued_left, ← hq]
  simp only [← endedTicket_failed] <;> rfl

theorem endJob_done (j : PrintJob) (p : Printing) (hq : p.queue = s.printing.queue) :
    State.endJob { s with printing := p } j .done =
      State.eachLane
        (s.posted [s.event .printDone (some j.lane) (.ticket j.ticket) (.copyMark j.copy)]
          { ticketEnded s j.ticket fun x =>
              { x with
                print := .printed, failure := none
                copies := if j.copy then min (x.copies + 1) 255 else x.copies } with
            printing := { p with
              queue := granted (s.printing.queue.filter fun q => decide (q.state = .queued)) } })
        fun u n => u.releaseHold j.ticket n := by
  rw [← queued_left, ← hq]
  simp only [← endedTicket_done] <;> rfl

theorem statusEnd_eq (b : Byte) : statusEnd b =
    if b = 1 then some .done
    else if b = 3 then some (.failed .paperOut) else if b = 4 then some (.failed .headFault) else none := by
  have hnum : ∀ k : Nat, k < 256 → (b = BitVec.ofNat 8 k ↔ b.toNat = k) := fun k hk => by
    rw [← BitVec.toNat_inj, BitVec.toNat_ofNat, Nat.mod_eq_of_lt (by simpa using hk)]
  unfold statusEnd
  have h1 : b = 1 ↔ b.toNat = 1 := hnum 1 (by omega)
  have h3 : b = 3 ↔ b.toNat = 3 := hnum 3 (by omega)
  have h4 : b = 4 ↔ b.toNat = 4 := hnum 4 (by omega)
  rw [if_congr h1 rfl (if_congr h3 rfl (if_congr h4 rfl rfl))]
  split
  · next h => rw [h]; rfl
  · next h => rw [h]; rfl
  · next h => rw [h]; rfl
  · next h1 h3 h4 => rw [if_neg h1, if_neg h3, if_neg h4]

/-- A transfer that ends leaves what it carried to be seen. -/
theorem transferEnds_eq (j : PrintJob) (k : Nat) (acked : Bool) : s.transferEnds j k acked =
    let t : State := { s with printing := { s.printing with
      lastTransfer :=
        ((s.ticketNumbered j.ticket).map fun x => transferOf j.copy j.address x k).or s.printing.lastTransfer } }
    if acked then t.setBusJob (if k < 18 then .sending (k + 1) else .printing 0) else t.endJob j (.failed .noAnswer) := by
  have hnext : ∀ u : State, (if k + 1 < 19 then u.setBusJob (.sending (k + 1)) else u.setBusJob (.printing 0))
      = u.setBusJob (if k < 18 then .sending (k + 1) else .printing 0) := fun u => by
    rw [apply_ite u.setBusJob]
    exact if_congr (by omega) rfl rfl
  unfold State.transferEnds
  dsimp only
  rw [hnext]
  cases s.ticketNumbered j.ticket <;> rfl

theorem printLineTransfer_sending {j : PrintJob} {k : Nat} (hj : s.busJob = some j) (hk : j.state = .sending k)
    (hheld : s.power.held = none) (a : Bool) : execPrintLineTransfer a s = .next (s.transferEnds j k a) := by
  refine congrArg Host.Outcome.next ((whileRunning_of_running hheld _).trans ?_)
  rw [hj]
  dsimp only
  rw [hk]

theorem printerStatusRead_printing {j : PrintJob} {k : Nat} (hj : s.busJob = some j) (hk : j.state = .printing k)
    (hheld : s.power.held = none) (r : StatusRead) : execPrinterStatusRead r s = .next (s.statusReads j k r) := by
  refine congrArg Host.Outcome.next ((whileRunning_of_running hheld _).trans ?_)
  rw [hj]
  dsimp only
  rw [hk]

theorem printTimeout_printing {j : PrintJob} {k : Nat} (hj : s.busJob = some j) (hk : j.state = .printing k)
    (hheld : s.power.held = none) : execPrintTimeout s = .next (s.endJob j (.failed .timeout)) := by
  refine congrArg Host.Outcome.next ((whileRunning_of_running hheld _).trans ?_)
  rw [hj]
  dsimp only
  rw [hk]

/-- A command of the bus that finds no job in the state concerned changes nothing. -/
theorem printLineTransfer_else (hheld : s.power.held = none) (h : ∀ j, s.busJob = some j → ∀ k, j.state ≠ .sending k)
    (a : Bool) : execPrintLineTransfer a s = .next s := by
  refine congrArg Host.Outcome.next ((whileRunning_of_running hheld _).trans ?_)
  split
  · next j hj =>
    split
    · next k hk => exact absurd hk (h j hj k)
    · rfl
  · rfl

theorem printerStatusRead_else (hheld : s.power.held = none) (h : ∀ j, s.busJob = some j → ∀ k, j.state ≠ .printing k)
    (r : StatusRead) : execPrinterStatusRead r s = .next s := by
  refine congrArg Host.Outcome.next ((whileRunning_of_running hheld _).trans ?_)
  split
  · next j hj =>
    split
    · next k hk => exact absurd hk (h j hj k)
    · rfl
  · rfl

theorem printTimeout_else (hheld : s.power.held = none) (h : ∀ j, s.busJob = some j → ∀ k, j.state ≠ .printing k) :
    execPrintTimeout s = .next s := by
  refine congrArg Host.Outcome.next ((whileRunning_of_running hheld _).trans ?_)
  split
  · next j hj =>
    split
    · next k hk => exact absurd hk (h j hj k)
    · rfl
  · rfl

/-- Settles O55: the command by the job's state, its end by what ended it. -/
theorem printJobsServed : Obligations.PrintJobsServed := by
  intro s hheld
  refine ⟨fun hnone => ?_, fun j hj => ?_⟩
  · have hno : ∀ j, s.busJob = some j → False := fun j hj => by rw [hnone] at hj; cases hj
    exact ⟨printLineTransfer_else hheld fun j hj => (hno j hj).elim,
      printerStatusRead_else hheld fun j hj => (hno j hj).elim, printTimeout_else hheld fun j hj => (hno j hj).elim⟩
  intro rest written failed done moved
  have hmoved : ∀ p : Printing, p.queue = s.printing.queue → ∀ st,
      State.setBusJob { s with printing := p } st = moved p st := fun p hp st => by
    rw [setBusJob_eq, hp]
  have hfailed : ∀ p : Printing, p.queue = s.printing.queue → ∀ r,
      State.endJob { s with printing := p } j (.failed r) = failed p r := endJob_failed j
  have hdone : ∀ p : Printing, p.queue = s.printing.queue → State.endJob { s with printing := p } j .done = done p :=
    endJob_done j
  refine ⟨fun k hk => ?_, fun k hk => ?_⟩
  · intro p
    have hno : ∀ i, s.busJob = some i → ∀ k, i.state ≠ .printing k := fun i hi k h => by
      rw [hj] at hi
      cases hi
      rw [hk] at h
      cases h
    refine ⟨?_, ?_, printerStatusRead_else hheld hno, printTimeout_else hheld hno⟩
    · refine (printLineTransfer_sending hj hk hheld true).trans (congrArg Host.Outcome.next ?_)
      rw [transferEnds_eq, if_pos rfl]
      exact hmoved p rfl _
    · refine (printLineTransfer_sending hj hk hheld false).trans (congrArg Host.Outcome.next ?_)
      rw [transferEnds_eq, if_neg Bool.false_ne_true]
      exact hfailed p rfl _
  · intro read
    have hno : ∀ i, s.busJob = some i → ∀ k, i.state ≠ .sending k := fun i hi k h => by
      rw [hj] at hi
      cases hi
      rw [hk] at h
      cases h
    have hstatus := printerStatusRead_printing hj hk hheld
    refine ⟨printLineTransfer_else hheld hno, ?_, ?_, fun b => ?_⟩
    · exact (hstatus .noAck).trans (congrArg Host.Outcome.next (hfailed (read []) rfl _))
    · exact (printTimeout_printing hj hk hheld).trans (congrArg Host.Outcome.next (hfailed s.printing rfl _))
    · intro p
      refine (hstatus (.byte b)).trans (congrArg Host.Outcome.next ?_)
      have hread : s.statusReads j k (.byte b) = (match statusEnd b with
          | some e => State.endJob { s with printing := p } j e
          | none => State.setBusJob { s with printing := p } (.printing (k + 1))) := rfl
      rw [hread, statusEnd_eq]
      by_cases h1 : b = 1
      · rw [if_pos h1, if_pos h1]
        exact hdone p rfl
      rw [if_neg h1, if_neg h1]
      by_cases h3 : b = 3
      · rw [if_pos h3, if_pos h3]
        exact hfailed p rfl .paperOut
      rw [if_neg h3, if_neg h3]
      by_cases h4 : b = 4
      · rw [if_pos h4, if_pos h4]
        exact hfailed p rfl .headFault
      rw [if_neg h4, if_neg h4]
      exact hmoved p rfl _

end Sys2Proof.Proofs
end

section
/-! O40: the minute sweep of the waiting lists and the vehicle table (R100, R129, R130). -/

namespace Sys2Proof.Proofs
open Sys2Proof Sys2Proof.Machine

variable {s u : State}

/-! ### The waiting lists -/

/-- What the lists post for the entries that a sweep drops. -/
def expiredEvents (s : State) (n : Lane) (es : List WaitEntry) : List Event :=
  es.map fun e => s.event .queueExpired (some n) (.token e.token) .none

theorem postExpired_eq (n : Lane) (es : List WaitEntry) : s.postExpired n es = s.posted (expiredEvents s n es) s := by
  induction es generalizing s with
  | nil => rfl
  | cons e es ih => exact (ih (s := s.post .queueExpired (some n) (.token e.token) .none)).trans rfl

/-- An entry older than the list age. -/
def staleEntry (s : State) (e : WaitEntry) : Bool := 60 * s.ret.settings.listAge < e.age

theorem posted_sweepList {es : List Event} (n : Lane) (hnow : u.now = s.now) (hage : u.ret.settings = s.ret.settings) :
    (s.posted es u).sweepList n = s.posted (es ++ expiredEvents s n ((u.list n).filter (staleEntry s)))
      { u with lists := u.lists.set n ((u.list n).filter fun e => !staleEntry s e) } := by
  have hold : (fun e : WaitEntry => decide (u.ret.settings.listAge * 60 < e.age)) = staleEntry s := by
    funext e
    rw [hage, Nat.mul_comm]
    rfl
  have hswept : (s.posted es u).sweepList n = State.postExpired (s.posted es
      { u with lists := u.lists.set n ((u.list n).filter fun e => !staleEntry s e) }) n
      ((u.list n).filter (staleEntry s)) := by
    rw [← hold]
    rfl
  have hevents : ∀ x, expiredEvents (s.posted es { u with lists := x }) n ((u.list n).filter (staleEntry s))
      = expiredEvents s n ((u.list n).filter (staleEntry s)) := fun x => by
    unfold expiredEvents State.event
    rw [show (s.posted es { u with lists := x }).now = s.now from hnow]
  rw [hswept, postExpired_eq, hevents]
  exact posted_of_posts rfl

theorem sweepLists_eq : s.eachLane State.sweepList = s.posted
    (Lane.all.flatMap fun n => expiredEvents s n ((s.list n).filter (staleEntry s)))
    { s with lists := s.lists.map fun es => es.filter fun e => !staleEntry s e } := by
  have h := fun es u n hnow hage => posted_sweepList (s := s) (u := u) (es := es) n hnow hage
  have hstart : s.eachLane State.sweepList = (s.posted [] s).eachLane State.sweepList := rfl
  simp only [Lane.all, List.flatMap_cons, List.flatMap_nil, List.append_nil, ← List.append_assoc]
  rw [hstart, State.eachLane, h, h, h, h]
  all_goals rfl

/-! ### The vehicle table -/

/-- What is left of a list of entries by a sweep that takes some away and the tares of others. -/
def sweptVehicles (gone : Vehicle → Bool) (bare : Vehicle → Option Nat) (vs : List Vehicle) : List Vehicle :=
  (vs.filter fun v => !gone v).map fun v => if (bare v).isSome then { v with tare := none } else v

/-- What the sweep of an entry posts. -/
def sweptEvent (s : State) (gone : Vehicle → Bool) (bare : Vehicle → Option Nat) (v : Vehicle) : Option Event :=
  if gone v then
    some (s.event .entryExpired none (.token v.token) (.days ((s.now.toNat - v.lastUse.toNat) / 86400)))
  else (bare v).map fun kg => s.event .tareExpired none (.token v.token) (.weight kg)

/-- Retained memory after the sweep of the entries that stand behind others. -/
def sweptRetained (r : Retained) (gone : Vehicle → Bool) (bare : Vehicle → Option Nat) (done vs : List Vehicle) :
    Retained :=
  { r with
    ident := { r.ident with
      provisional := r.ident.provisional - (vs.filter gone).length
      vehicles := done ++ sweptVehicles gone bare vs } }

variable {gone : Vehicle → Bool} {bare : Vehicle → Option Nat}

/-- An entry that the sweep changes. -/
def sweeps (gone : Vehicle → Bool) (bare : Vehicle → Option Nat) (v : Vehicle) : Bool := gone v || (bare v).isSome

theorem sweptVehicles_of_none {vs : List Vehicle} (h : vs.any (sweeps gone bare) = false) :
    sweptVehicles gone bare vs = vs ∧ vs.filter gone = [] := by
  induction vs with
  | nil => exact ⟨rfl, rfl⟩
  | cons v vs ih =>
    simp only [List.any_cons, Bool.or_eq_false_iff, sweeps] at h
    obtain ⟨⟨hgone, hbare⟩, hrest⟩ := h
    obtain ⟨ih1, ih2⟩ := ih hrest
    simp only [sweptVehicles] at ih1
    refine ⟨?_, ?_⟩
    · simp [sweptVehicles, hgone, hbare, ih1]
    · rw [List.filter_cons, hgone]
      exact ih2

theorem sweptVehicles_cons (v : Vehicle) (vs : List Vehicle) : sweptVehicles gone bare (v :: vs) =
    if gone v then sweptVehicles gone bare vs
    else (if (bare v).isSome then { v with tare := none } else v) :: sweptVehicles gone bare vs := by
  rw [sweptVehicles, List.filter_cons]
  cases gone v <;> rfl

/-- The sweep of an entry that is taken away. -/
theorem sweepVehicle_gone {v : Vehicle} (h : u.entryExpired v = true) : u.sweepVehicle v =
    u.posted [u.event .entryExpired none (.token v.token) (.days ((u.now.toNat - v.lastUse.toNat) / 86400))]
      (u.storing { u.ret with
        ident := { u.ret.ident with
          vehicles := dropVehicle v.token u.ret.ident.vehicles, provisional := u.ret.ident.provisional - 1 } }) := by
  rw [State.sweepVehicle, if_pos h]
  rfl

/-- The sweep of an entry that loses its tare. -/
theorem sweepVehicle_bare {v : Vehicle} {kg : Nat} (h : u.entryExpired v = false) (hkg : u.tareExpired v = some kg) :
    u.sweepVehicle v = u.posted [u.event .tareExpired none (.token v.token) (.weight kg)]
      (u.storing { u.ret with
        ident := { u.ret.ident with
          vehicles := u.ret.ident.vehicles.map fun e => if e.token = v.token then { e with tare := none } else e } }) := by
  rw [State.sweepVehicle, if_neg (by rw [h]; nofun), hkg]
  rfl

theorem sweepVehicle_kept {v : Vehicle} (h : u.entryExpired v = false) (hnone : u.tareExpired v = none) :
    u.sweepVehicle v = u := by
  rw [State.sweepVehicle, if_neg (by rw [h]; nofun), hnone]

theorem map_token_of_not_mem {t : Token} {f : Vehicle → Vehicle} {vs : List Vehicle} (h : ∀ e ∈ vs, e.token ≠ t) :
    (vs.map fun e => if e.token = t then f e else e) = vs :=
  (List.map_congr_left fun e he => if_neg (h e he)).trans (List.map_id' vs)

theorem sweptRetained_of_none {r : Retained} {done vs : List Vehicle} (hv : r.ident.vehicles = done ++ vs)
    (h : vs.any (sweeps gone bare) = false) : r = sweptRetained r gone bare done vs := by
  obtain ⟨hsame, hnone⟩ := sweptVehicles_of_none h
  rw [sweptRetained, hsame, hnone, ← hv]
  rfl

/-- A first change followed by the rest of the sweep. -/
theorem posted_swept {r : Retained} {e : Event} {evs : List Event} {done vs : List Vehicle}
    (hv : r.ident.vehicles = done ++ vs) : (u.posted [e] (u.storing r)).posted evs
        (if vs.any (sweeps gone bare) then (u.posted [e] (u.storing r)).storing (sweptRetained r gone bare done vs)
        else u.posted [e] (u.storing r))
      = u.posted (e :: evs) (u.storing (sweptRetained r gone bare done vs)) := by
  cases hb : vs.any (sweeps gone bare) with
  | true => rfl
  | false =>
    rw [← sweptRetained_of_none hv hb]
    rfl

theorem sweepVehicles_eq {done vs : List Vehicle} (hv : u.ret.ident.vehicles = done ++ vs)
    (hdistinct : ((done ++ vs).map (·.token)).Nodup) (hgone : ∀ v, u.entryExpired v = gone v)
    (hbare : ∀ v, u.tareExpired v = bare v) : u.sweepVehicles vs =
      u.posted (vs.filterMap (sweptEvent u gone bare))
        (if vs.any (sweeps gone bare) then u.storing (sweptRetained u.ret gone bare done vs) else u) := by
  induction vs generalizing u done with
  | nil => rfl
  | cons v vs ih =>
    have hothers : ∀ e ∈ done ++ vs, e.token ≠ v.token := by
      rw [List.map_append, List.map_cons, List.nodup_middle, List.nodup_cons] at hdistinct
      intro e he heq
      refine hdistinct.1 ?_
      rw [← List.map_append, ← heq]
      exact List.mem_map_of_mem he
    rw [State.sweepVehicles]
    have hany : (v :: vs).any (sweeps gone bare) = (sweeps gone bare v || vs.any (sweeps gone bare)) := List.any_cons
    have hrest : ((done ++ vs).map (·.token)).Nodup := by
      rw [List.map_append, List.map_cons, List.nodup_middle, List.nodup_cons] at hdistinct
      rw [List.map_append]
      exact hdistinct.2
    cases hg : gone v with
    | true =>
      have hleft : dropVehicle v.token u.ret.ident.vehicles = done ++ vs := by
        have hself : ([v].filter fun e => e.token != v.token) = [] := by simp
        rw [hv, dropVehicle, List.filter_append, ← List.singleton_append, List.filter_append, hself, List.nil_append,
          ← List.filter_append]
        exact dropVehicle_of_not_mem hothers
      have hevent : sweptEvent u gone bare v = some (u.event .entryExpired none (.token v.token)
          (.days ((u.now.toNat - v.lastUse.toNat) / 86400))) := if_pos hg
      have hretained : ∀ r : Retained, r = { u.ret with
          ident := { u.ret.ident with vehicles := done ++ vs, provisional := u.ret.ident.provisional - 1 } } →
          sweptRetained r gone bare done vs = sweptRetained u.ret gone bare done (v :: vs) := by
        rintro r rfl
        rw [sweptRetained, sweptRetained, sweptVehicles_cons, if_pos hg, List.filter_cons, if_pos hg, List.length_cons,
          Nat.sub_sub, Nat.add_comm]
      rw [sweepVehicle_gone ((hgone v).trans hg), hleft, List.filterMap_cons_some hevent, hany, sweeps, hg,
        ← hretained _ rfl]
      refine Eq.trans ?_ (posted_swept (u := u) ?_)
      · exact ih rfl hrest hgone hbare
      · rfl
    | false =>
      cases hb : bare v with
      | none =>
        have hevent : sweptEvent u gone bare v = none := by
          rw [sweptEvent, if_neg (by rw [hg]; nofun), hb]
          rfl
        have hretained : sweptRetained u.ret gone bare (done ++ [v]) vs = sweptRetained u.ret gone bare done (v :: vs) := by
          simp [sweptRetained, sweptVehicles_cons, hg, hb]
        rw [sweepVehicle_kept ((hgone v).trans hg) ((hbare v).trans hb), List.filterMap_cons_none hevent, hany, sweeps, hg,
          hb, ih (done := done ++ [v]) (by rw [hv, List.append_cons]) (by rw [← List.append_cons]; exact hdistinct) hgone hbare,
          hretained]
        rfl
      | some kg =>
        have hevent : sweptEvent u gone bare v = some (u.event .tareExpired none (.token v.token) (.weight kg)) := by
          rw [sweptEvent, if_neg (by rw [hg]; nofun), hb]
          rfl
        have hmapped : (u.ret.ident.vehicles.map fun e => if e.token = v.token then { e with tare := none } else e)
            = (done ++ [{ v with tare := none }]) ++ vs := by
          rw [hv, List.map_append, List.map_cons, if_pos rfl,
            map_token_of_not_mem fun e he => hothers e (List.mem_append_left _ he),
            map_token_of_not_mem fun e he => hothers e (List.mem_append_right _ he), ← List.append_cons]
        have hretained : ∀ r : Retained, r = { u.ret with
            ident := { u.ret.ident with vehicles := (done ++ [{ v with tare := none }]) ++ vs } } →
            sweptRetained r gone bare (done ++ [{ v with tare := none }]) vs
              = sweptRetained u.ret gone bare done (v :: vs) := by
          rintro r rfl
          simp [sweptRetained, sweptVehicles_cons, hg, hb]
        have hkept : (((done ++ [{ v with tare := none }]) ++ vs).map fun e : Vehicle => e.token).Nodup := by
          rw [← List.append_cons]
          rw [List.map_append, List.map_cons] at hdistinct ⊢
          exact hdistinct
        rw [sweepVehicle_bare ((hgone v).trans hg) ((hbare v).trans hb), hmapped, List.filterMap_cons_some hevent, hany,
          sweeps, hg, hb, ← hretained _ rfl]
        refine Eq.trans ?_ (posted_swept (u := u) ?_)
        · exact ih rfl hkept hgone hbare
        · rfl

/-! ### Which entries and tares expire -/

theorem isIdentity_eq (t : Token) :
    s.isIdentity t = !Lane.all.all fun n => ((s.lane n).identity.map fun i => i.token) != some t := by
  have hany : s.isIdentity t = s.lanes.toList.any fun l => !((l.identity.map fun i => i.token) != some t) := by
    refine congrArg s.lanes.toList.any (funext fun l => ?_)
    cases l.identity with
    | none => rfl
    | some i => rw [Option.map_some, bne, Bool.not_not]; rfl
  rw [hany]
  simp only [Quad.toList, Lane.all, List.any_cons, List.any_nil, List.all_cons, List.all_nil, Bool.not_and, Bool.or_false,
    Bool.not_true]
  rfl

theorem visitNaming_isNone (t : Token) :
    (s.visitNaming t).isNone = s.ret.traffic.visits.all fun u => u.token != t := by
  rw [Bool.eq_iff_iff]
  simp [State.visitNaming, Option.isNone_iff_eq_none, List.find?_eq_none]

theorem entryExpired_eq (v : Vehicle) : s.entryExpired v = (s.ret.settings.provAge ≠ 0 && v.origin = .provisional
    && 86400 * s.ret.settings.provAge < s.now.toNat - v.lastUse.toNat
    && s.ret.traffic.visits.all (fun u => u.token != v.token)
    && Lane.all.all fun n => ((s.lane n).identity.map fun i => i.token) != some v.token) := by
  rw [State.entryExpired, isIdentity_eq, visitNaming_isNone, Bool.not_not]
  rfl

theorem tareExpired_eq (v : Vehicle) : s.tareExpired v = (v.tare.filter fun x =>
    s.ret.settings.tareAge ≠ 0 && x.origin = .learned
      && 3600 * s.ret.settings.tareAge < s.now.toNat - x.setTime.toNat).map fun x => x.value := by
  unfold State.tareExpired
  cases v.tare with
  | none => rfl
  | some x =>
    simp only [Option.filter_some, elapsed, ne_eq, Bool.and_eq_true, decide_eq_true_eq, apply_ite (Option.map _), and_assoc]
    rfl

/-- Settles O40: the lists first, then the vehicles one by one, each by what it was before the sweep. -/
theorem minuteSweepExpires : Obligations.MinuteSweepExpires := by
  intro s hheld hcounted old age entryGone tareGone swept
  refine congrArg Host.Outcome.next ((whileRunning_of_running hheld _).trans ?_)
  unfold State.minuteSweeps
  split
  · dsimp only
    let lists : List Event := Lane.all.flatMap fun n => expiredEvents s n ((s.list n).filter (staleEntry s))
    let u : State := { s with
      clock := { s.clock with sweepDue := false }, lists := s.lists.map fun es => es.filter fun e => !staleEntry s e }
    have hlists : (s.modClock fun c => { c with sweepDue := false }).eachLane State.sweepList = s.posted lists u :=
      sweepLists_eq
    rw [hlists]
    have hdistinct : (s.ret.ident.vehicles.map (·.token)).Nodup := by
      obtain ⟨_, hsorted, _⟩ := hcounted
      have htokens : s.ret.ident.vehicles.map (·.token.toNat) = (s.ret.ident.vehicles.map (·.token)).map BitVec.toNat := by
        rw [List.map_map]
        rfl
      rw [htokens] at hsorted
      exact (hsorted.imp fun hlt => Nat.ne_of_lt hlt).of_map _ fun _ _ hne heq => hne (congrArg _ heq)
    refine (sweepVehicles_eq (u := s.posted lists u) (gone := entryGone) (bare := tareGone) (done := [])
      (vs := s.ret.ident.vehicles) rfl hdistinct
      (fun v => entryExpired_eq v) (fun v => tareExpired_eq v)).trans ?_
    have hany : (s.ret.ident.vehicles.any (sweeps entryGone tareGone) = true)
        ↔ ∃ v ∈ s.ret.ident.vehicles, entryGone v = true ∨ (tareGone v).isSome = true := by
      simp only [List.any_eq_true, sweeps, Bool.or_eq_true]
    by_cases hchange : ∃ v ∈ s.ret.ident.vehicles, entryGone v = true ∨ (tareGone v).isSome = true
    · rw [if_pos hchange, if_pos (show s.ret.ident.vehicles.any (sweeps entryGone tareGone) = true from hany.mpr hchange)]
      refine Eq.trans (posted_of_posts (s := s) (es := lists) ?_) ?_
      all_goals rfl
    · rw [if_neg hchange, if_neg (show ¬s.ret.ident.vehicles.any (sweeps entryGone tareGone) = true from
        fun h => hchange (hany.mp h))]
      refine Eq.trans (posted_of_posts (s := s) (es := lists) ?_) ?_
      all_goals rfl
  · rfl

end Sys2Proof.Proofs
end

section
/-! O39: the loss of the link, which cancels every hold at an entry (R150, R196). -/

namespace Sys2Proof.Proofs
open Sys2Proof Sys2Proof.Machine

variable {s u : State} {n : Lane}

/-- A hold at an entry that the loss of the link ends. -/
def heldAt (n : Lane) (v : Visit) : Bool := v.state == .heldIn && v.entryLane == n

/-- A lane refused for the loss of the link, with the number that is late. -/
def LateFor (k : Nat) (s : State) (n : Lane) : Prop :=
  (s.lane n).lastRefusal = some .linkLost ∧ (s.lane n).heldWeighing = none ∧ (s.lane n).lateNumber = some k
    ∧ ((s.lane n).state = .refused ∨ (s.deck n).occupancy = .empty)

theorem posts_append {t : State} {es fs : List Event} (h : s.posts u es) (g : u.posts t fs) : s.posts t (es ++ fs) := by
  rw [State.posts, eventsAfter_append, ← show u.events = s.eventsAfter es from h]
  exact g

theorem enterRefused_lane (r : Reason) : ((s.enterRefused n r).lane n).lastRefusal = some r
    ∧ ((s.enterRefused n r).lane n).heldWeighing = none
    ∧ ((s.enterRefused n r).lane n).lateNumber = (s.lane n).lateNumber
    ∧ (((s.enterRefused n r).lane n).state = .refused ∨ (s.deck n).occupancy = .empty) := by
  rw [enterRefused_eq]
  split
  · next hempty =>
    rw [enterIdle_lane]
    refine ⟨?_, rfl, ?_, .inr hempty⟩
    all_goals simp [State.idled, State.lane, refusedLane]
  · simp [State.lane, refusedLane]

theorem endEntryHold_keeps (v : Visit) (r : Reason) : Keeps
    { traffic := true, ident := true, events := true, lanes := true, settings := true, barriers := true } s
    (s.endEntryHold v r) := keeps_endEntryHold rfl rfl rfl rfl rfl rfl

theorem cancelHeld_keeps (vs : List Visit) : Keeps
    { traffic := true, ident := true, events := true, lanes := true, settings := true, barriers := true } s
    (s.cancelHeld vs) := keeps_cancelHeld rfl rfl rfl rfl rfl rfl vs s

/-- What holds of every lane but the one refused. -/
theorem endEntryHold_elsewhere {v : Visit} {r : Reason} (h : v.entryLane ≠ n) :
    (s.endEntryHold v r).lane n = s.lane n := by
  have hscope : Upholds ⟨(· = v.entryLane), fun _ => False, False, False⟩ s (s.endEntryHold v r) :=
    upholds_endEntryHold rfl False.elim
  obtain ⟨_, _, _, _, _, hlane, _⟩ := hscope.others n fun heq => h heq.symm
  exact hlane

theorem endEntryHold_late (v : Visit) : LateFor v.number (s.endEntryHold v .linkLost) v.entryLane := by
  have hdeck : (s.endEntryHold v .linkLost).deck v.entryLane = s.deck v.entryLane :=
    congrArg (Quad.get · v.entryLane) ((endEntryHold_keeps v .linkLost).decks rfl)
  rw [LateFor, hdeck, endEntryHold_eq]
  obtain ⟨hrefusal, hweighing, hlate, hstate⟩ := enterRefused_lane (s := { s.storing (s.cancelled v) with
    lanes := s.lanes.set v.entryLane { s.lane v.entryLane with lateNumber := some v.number } }) (n := v.entryLane) .linkLost
  exact ⟨hrefusal, hweighing, hlate.trans (congrArg LaneSeq.lateNumber (Quad.get_set_self ..)), hstate⟩

/-- Each lane holds the number of its last hold ended, or is as it was. -/
theorem cancelHeld_late (vs : List Visit) (n : Lane) : (match (vs.filter (heldAt n)).getLast? with
    | some v => LateFor v.number (s.cancelHeld vs) n
    | none => (s.cancelHeld vs).lane n = s.lane n) := by
  induction vs generalizing s with
  | nil => rfl
  | cons v vs ih =>
    rw [State.cancelHeld]
    by_cases hheld : v.state = .heldIn
    · rw [if_pos hheld]
      by_cases hlane : v.entryLane = n
      · rw [List.filter_cons_of_pos (by simp [heldAt, hheld, hlane]), List.getLast?_cons]
        have hrest := ih (s := s.endEntryHold v .linkLost)
        cases hlast : (vs.filter (heldAt n)).getLast? with
        | some w =>
          rw [hlast] at hrest
          exact hrest
        | none =>
          rw [hlast] at hrest
          have hfirst : LateFor v.number (s.endEntryHold v .linkLost) n := hlane ▸ endEntryHold_late v
          have hdeck : ((s.endEntryHold v .linkLost).cancelHeld vs).deck n = (s.endEntryHold v .linkLost).deck n :=
            congrArg (Quad.get · n) ((cancelHeld_keeps vs).decks rfl)
          rw [Option.getD_none]
          dsimp only
          rw [LateFor, hrest, hdeck]
          exact hfirst
      · rw [List.filter_cons_of_neg (by simp [heldAt, hlane])]
        have hrest := ih (s := s.endEntryHold v .linkLost)
        rw [endEntryHold_elsewhere hlane] at hrest
        exact hrest
    · rw [if_neg hheld, List.filter_cons_of_neg (by simp [heldAt, hheld])]
      exact ih

/-- The visits that stand after the holds of a list of visits end. -/
theorem cancelHeld_visits (vs : List Visit) : (s.cancelHeld vs).ret.traffic.visits =
    s.ret.traffic.visits.filter fun u => vs.all fun v => v.state != .heldIn || u.number != v.number := by
  induction vs generalizing s with
  | nil => exact (List.filter_eq_self.mpr fun _ _ => rfl).symm
  | cons v vs ih =>
    rw [State.cancelHeld, ih]
    by_cases hheld : v.state = .heldIn
    · rw [if_pos hheld, endEntryHold_visits, cancelVisit_visits, dropVisit, List.filter_filter]
      simp [hheld, Bool.and_comm]
    · have hother : (v.state != .heldIn) = true := by simpa using hheld
      rw [if_neg hheld]
      simp only [List.all_cons, hother, Bool.true_or, Bool.true_and]

/-- What the end of the holds posts, of which the refusals are stated. -/
theorem cancelHeld_events (vs : List Visit) : ∃ more, s.posts (s.cancelHeld vs) more
    ∧ (more.filter fun e => e.kind == .vehicleRefused)
      = (vs.filter fun v => v.state == .heldIn).map fun v => s.refusal v.entryLane v.token .linkLost := by
  induction vs generalizing s with
  | nil => exact ⟨[], rfl, rfl⟩
  | cons v vs ih =>
    rw [State.cancelHeld]
    by_cases hheld : v.state = .heldIn
    · rw [if_pos hheld, List.filter_cons_of_pos (by simp [hheld])]
      obtain ⟨more, hmore, hrefused⟩ := ih (s := s.endEntryHold v .linkLost)
      have hnow : (s.endEntryHold v .linkLost).now = s.now :=
        congrArg Clock.siteTime ((endEntryHold_keeps v .linkLost).clock rfl)
      have hfirst : s.posts (s.endEntryHold v .linkLost) (s.cancelEvents v ++ [s.refusal v.entryLane v.token .linkLost]) := by
        rw [endEntryHold_eq]
        rfl
      refine ⟨(s.cancelEvents v ++ [s.refusal v.entryLane v.token .linkLost]) ++ more, ?_, ?_⟩
      · exact posts_append hfirst hmore
      · have hlevels : ((s.cancelEvents v).filter fun e => e.kind == .vehicleRefused) = [] := by
          refine List.filter_eq_nil_iff.mpr fun e he => ?_
          obtain ⟨x, _, rfl⟩ := List.mem_map.mp he
          nofun
        rw [List.filter_append, List.filter_append, hlevels, hrefused, List.map_cons]
        simp only [State.refusal, State.event, hnow]
        rfl
    · rw [if_neg hheld, List.filter_cons_of_neg (by simp [hheld])]
      exact ih

/-- `upholds_cancelHeld` for the lanes that a hold names. -/
theorem upholds_cancelHeld_named {c : Scope} : ∀ (vs : List Visit) (s : State), Untreated c s vs →
    (∀ v ∈ vs, v.state = .heldIn → c.lanes v.entryLane) → Upholds c s (s.cancelHeld vs)
  | [], s, _, _ => .refl c s
  | v :: vs, s, h, hlanes => by
    have hrest : ∀ w ∈ vs, w.state = .heldIn → c.lanes w.entryLane := fun w hw => hlanes w (.tail _ hw)
    rw [State.cancelHeld]
    by_cases hheld : v.state = .heldIn
    · rw [if_pos hheld]
      refine (upholds_endEntryHold (hlanes v (.head _) hheld) fun hc => (h hc).1 v (.head _)).trans
        (upholds_cancelHeld_named vs _ (h.tail fun w hw hne => ?_) hrest)
      rw [endEntryHold_visits]
      exact mem_cancelVisit hw hne
    · rw [if_neg hheld]
      exact upholds_cancelHeld_named vs _ (h.tail fun w hw _ => hw) hrest

/-- With a number of its own each, the visits that stand are those not held at an entry. -/
theorem visits_left {vs : List Visit} (hdistinct : (vs.map (·.number)).Pairwise (· < ·)) :
    (vs.filter fun u => vs.all fun v => v.state != .heldIn || u.number != v.number)
      = vs.filter fun u => u.state != .heldIn := by
  refine List.filter_congr fun u hu => Bool.eq_iff_iff.mpr ?_
  rw [List.all_eq_true]
  refine ⟨fun h => by simpa using h u hu, fun h v hv => ?_⟩
  by_cases hnumber : u.number = v.number
  · have heq : u = v := List.inj_on_of_nodup_map (hdistinct.imp Nat.ne_of_lt) hu hv hnumber
    rw [← heq, h]
    rfl
  · rw [Bool.or_eq_true]
    exact .inr (by simpa using hnumber)

/-- Settles O39: the link first, then the holds one by one, each ending in its own lane. -/
theorem linkLossCancelsHolds : Obligations.LinkLossCancelsHolds := by
  intro s hheld haccounted
  refine ⟨s.linkExpires, congrArg Host.Outcome.next (whileRunning_of_running hheld _), ?_⟩
  split
  · next hdue =>
    let u : State := s.posted [s.event .linkLost none .none .none]
      { s with link := { s.link with live := false, lostDue := false } }
    have hexpires : s.linkExpires = u.cancelHeld s.ret.traffic.visits := by
      rw [State.linkExpires, if_pos (by rw [hdue.1, hdue.2]; rfl)]
      rfl
    let c : Scope := ⟨fun m => ∃ v ∈ s.ret.traffic.visits, v.state = .heldIn ∧ v.entryLane = m, fun _ => False, True, False⟩
    have hupholds : Upholds c u (u.cancelHeld s.ret.traffic.visits) :=
      upholds_cancelHeld_named _ u (untreated_all (s := u) fun _ => haccounted) fun v hv hst => ⟨v, hv, hst, rfl⟩
    rw [hexpires]
    refine ⟨(cancelHeld_keeps _).link rfl, ?_, hupholds.visits trivial haccounted, ?_, ?_, ?_⟩
    · obtain ⟨_, hsorted, _⟩ := haccounted
      exact (cancelHeld_visits _).trans (visits_left hsorted)
    · rintro n ⟨v, hv, hst, hlane⟩
      have hlate := cancelHeld_late (s := u) s.ret.traffic.visits n
      have hmem : v ∈ s.ret.traffic.visits.filter (heldAt n) :=
        List.mem_filter.mpr ⟨hv, by simp [heldAt, hst, hlane]⟩
      rw [List.getLast?_eq_some_getLast (List.ne_nil_of_mem hmem)] at hlate
      obtain ⟨hrefusal, hweighing, hnumber, hstate⟩ := hlate
      refine ⟨hrefusal, hweighing, ?_, hstate.imp_right fun hempty => ?_⟩
      · rw [hnumber]
        exact (congrArg (Option.map fun v => v.number) (List.getLast?_eq_some_getLast (List.ne_nil_of_mem hmem))).symm
      · rw [State.deck, (cancelHeld_keeps _).decks rfl] at hempty
        exact hempty
    · intro n hnone
      exact sameLane_trans (sameLane_refl n s) (hupholds.others n fun ⟨v, hv, hst, hlane⟩ => hnone v hv hst hlane)
    · obtain ⟨more, hmore, hrefused⟩ := cancelHeld_events (s := u) s.ret.traffic.visits
      exact ⟨more, hmore, hrefused⟩
  · next hdue =>
    rw [State.linkExpires, if_neg fun h => hdue (Bool.and_eq_true_iff.mp h)]

end Sys2Proof.Proofs
end

section
/-! Records that are carried out or refused (R186 to R196): what a record's own rule does to any state gives what the
record does, with its answer and the events of its receipt. -/

namespace Sys2Proof.Proofs
open Sys2Proof Sys2Proof.Machine

variable {s u : State} {h : RecHead} {n : Lane}

/-! ### A state under another port and another event queue -/

/-- The state as a record finds it: with the port and the event queue that the record's receipt leaves. -/
def onPort (s : State) (p : LinkPort) (q : EventQueue) : State := { s with link := p, events := q }

section
variable {p : LinkPort} {q : EventQueue}

@[simp] theorem onPort_ret : (onPort s p q).ret = s.ret := rfl
@[simp] theorem onPort_decks : (onPort s p q).decks = s.decks := rfl
@[simp] theorem onPort_lanes : (onPort s p q).lanes = s.lanes := rfl
@[simp] theorem onPort_lists : (onPort s p q).lists = s.lists := rfl
@[simp] theorem onPort_power : (onPort s p q).power = s.power := rfl
@[simp] theorem onPort_clock : (onPort s p q).clock = s.clock := rfl
@[simp] theorem onPort_now : (onPort s p q).now = s.now := rfl
@[simp] theorem onPort_printing : (onPort s p q).printing = s.printing := rfl
@[simp] theorem onPort_deck : (onPort s p q).deck n = s.deck n := rfl
@[simp] theorem onPort_lane : (onPort s p q).lane n = s.lane n := rfl
@[simp] theorem onPort_barrier : (onPort s p q).barrier n = s.barrier n := rfl
@[simp] theorem onPort_list : (onPort s p q).list n = s.list n := rfl
@[simp] theorem onPort_loop {side : LoopSide} : (onPort s p q).loop n side = s.loop n side := by cases side <;> rfl
@[simp] theorem onPort_cal : (onPort s p q).cal n = s.cal n := rfl
@[simp] theorem onPort_laneSettings : (onPort s p q).laneSettings n = s.laneSettings n := rfl
@[simp] theorem onPort_deckSettings : (onPort s p q).deckSettings n = s.deckSettings n := rfl
@[simp] theorem onPort_reasons : (onPort s p q).reasons n = s.reasons n := rfl
@[simp] theorem onPort_deckValid : (onPort s p q).deckValid n = s.deckValid n := rfl
@[simp] theorem onPort_warning : (onPort s p q).warning = s.warning := rfl
@[simp] theorem onPort_siteClosed : (onPort s p q).siteClosed = s.siteClosed := rfl
@[simp] theorem onPort_visitNumbered {k : Nat} : (onPort s p q).visitNumbered k = s.visitNumbered k := rfl
@[simp] theorem onPort_event {k : EventKind} {l : Option Lane} {x : Subject} {d : Detail} :
    (onPort s p q).event k l x d = s.event k l x d := rfl

end

theorem receive_onPort : s.receive h = onPort s (s.receive h).link (s.eventsAfter s.restored) := by
  rw [receive_eq]
  rfl

/-! ### What a record's rule does, recorded -/

/-- A rule that turns the state into another, posting events, whatever the port and the event queue are. -/
def Acts (act : State → State × ResultCode) (s : State) (code : ResultCode) (es : List Event) (u : State) : Prop :=
  ∀ p q, act (onPort s p q) = ((onPort s p q).posted es (onPort u p q), code)

theorem answer_of_acts {act : State → State × ResultCode} {code : ResultCode} {es : List Event}
    (ha : Acts act s code es u) :
    (act (s.receive h)).1.answer h (act (s.receive h)).2 = s.recorded h (.result h.chan code) es u := by
  rw [receive_onPort, ha]
  refine answer_recorded rfl ?_ rfl
  exact (eventsAfter_append ..).symm

theorem takeLane_acts {act : Lane → State → State × ResultCode} {code : ResultCode} {es : List Event}
    (ht : s.takes h .lane) (hn : h.chan = .lane n) (ha : Acts (act n) s code es u) :
    s.takeLane h act = s.recorded h (.result h.chan code) es u :=
  (takeLane_takes ht hn).trans (answer_of_acts ha)

theorem takeSite_acts {act : State → State × ResultCode} {code : ResultCode} {es : List Event}
    (ht : s.takes h .site) (ha : Acts act s code es u) : s.takeSite h act = s.recorded h (.result h.chan code) es u :=
  (takeSite_takes ht).trans (answer_of_acts ha)

/-- A rule that refuses, whatever the port and the event queue are. -/
theorem takeLane_refuses {act : Lane → State → State × ResultCode} {code : ResultCode} (ht : s.takes h .lane)
    (hn : h.chan = .lane n) (ha : ∀ p q, act n (onPort s p q) = (onPort s p q, code)) :
    s.takeLane h act = s.refusedWith h code := takeLane_acts (es := []) (u := s) ht hn ha

theorem takeSite_refuses {act : State → State × ResultCode} {code : ResultCode} (ht : s.takes h .site)
    (ha : ∀ p q, act (onPort s p q) = (onPort s p q, code)) : s.takeSite h act = s.refusedWith h code :=
  takeSite_acts (es := []) (u := s) ht ha

/-- A record of a lane on the site's channel, refused before its rule. -/
theorem takeLane_wrongChannel {act : Lane → State → State × ResultCode} (ht : s.takes h .lane) :
    s.takeLane { h with chan := .site } act = s.refusedWith { h with chan := .site } .wrongChannel := by
  obtain ⟨hheld, hport, hplace, _⟩ := ht
  unfold State.takeLane
  rw [takeRecord_wrong hheld hport hplace rfl, receive_onPort]
  exact answer_recorded rfl (congrArg s.eventsAfter (List.append_nil _).symm) rfl

/-! ### O26: the ZERO record -/

theorem moveZero_eq (z : Int) : s.moveZero n z =
    { s.storing { s.ret with cal := s.ret.cal.set n { s.cal n with z := z } } with
      decks := s.decks.set n
        { s.deck n with
          settling := shiftAnchor (s.deck n).settling (z - (s.cal n).z)
          zeroMarker := if z.natAbs < s.zeroBound n then false else (s.deck n).zeroMarker } } := by
  unfold State.moveZero
  dsimp only
  split
  · refine Eq.trans ?_ rfl
    simp only [State.modDeck, State.modCal, State.storing, Quad.upd, quad_set_set, Quad.get_set_self]
    rfl
  · rfl

theorem zeroable_none (h : ((s.lane n).state ≠ .idle ∧ (s.lane n).state ≠ .closed) ∨ s.deckValid n = false
    ∨ (s.deck n).reading = none ∨ (s.deck n).settling.state = .unsettled ∨ (s.deck n).settling.state = .tentative) :
    s.zeroable n = none := by
  unfold State.zeroable
  split
  · rfl
  · next r hr =>
    refine if_neg fun ⟨hlane, hvalid, _, hsettled⟩ => ?_
    rcases h with ⟨hidle, hclosed⟩ | hinvalid | hnone | hun | htent
    · exact hlane.elim hidle hclosed
    · rw [hvalid] at hinvalid
      cases hinvalid
    · rw [hr] at hnone
      cases hnone
    · rw [hun] at hsettled
      simp at hsettled
    · rw [htent] at hsettled
      simp at hsettled

theorem zeroable_reading {r : Reading} (hlane : (s.lane n).state = .idle ∨ (s.lane n).state = .closed)
    (hvalid : s.deckValid n = true) (hr : (s.deck n).reading = some r)
    (hsettled : (s.deck n).settling.state = .settled ∨ (s.deck n).settling.state = .locked) :
    s.zeroable n = if r.range = .normal then some r else none := by
  unfold State.zeroable
  rw [hr]
  exact if_congr ⟨fun ⟨_, _, hn, _⟩ => hn, fun hn => ⟨hlane, hvalid, hn, hsettled⟩⟩ rfl rfl

/-- Settles O26: BUSY, then the reading, then the limit. -/
theorem zeroRecordSetsZ : Obligations.ZeroRecordSetsZ := by
  intro s h n ht hn c d bound
  refine ⟨congrArg Host.Outcome.next (takeLane_wrongChannel ht), fun hop => ?_, fun hop hnot => ?_,
    fun r hop hlane hvalid hr hsettled => ?_⟩
  · refine congrArg Host.Outcome.next (takeLane_refuses ht hn fun p q => ?_)
    exact if_pos (Option.isSome_iff_ne_none.mpr hop)
  · refine congrArg Host.Outcome.next (takeLane_refuses ht hn fun p q => ?_)
    rw [State.zeroes, if_neg (by rw [onPort_deck, hop]; nofun), zeroable_none (s := onPort s p q) hnot]
  · have hzeroable := zeroable_reading hlane hvalid hr hsettled
    by_cases hnormal : r.range = .normal
    · rw [if_neg (not_not.mpr hnormal)]
      rw [if_pos hnormal] at hzeroable
      by_cases hlimit : bound < (c.z + r.f).natAbs
      · rw [if_pos hlimit]
        refine congrArg Host.Outcome.next (takeLane_refuses ht hn fun p q => ?_)
        rw [State.zeroes, if_neg (by rw [onPort_deck, hop]; nofun), show (onPort s p q).zeroable n = some r from hzeroable]
        exact if_neg (Nat.not_le.mpr hlimit)
      · rw [if_neg hlimit]
        refine congrArg Host.Outcome.next (takeLane_acts ht hn fun p q => ?_)
        rw [State.zeroes, if_neg (by rw [onPort_deck, hop]; nofun), show (onPort s p q).zeroable n = some r from hzeroable]
        dsimp only
        refine Eq.trans (if_pos (Nat.not_lt.mp hlimit)) ?_
        rw [moveZero_eq, add_sub_cancel_left]
        rfl
    · rw [if_pos hnormal]
      rw [if_neg hnormal] at hzeroable
      refine congrArg Host.Outcome.next (takeLane_refuses ht hn fun p q => ?_)
      rw [State.zeroes, if_neg (by rw [onPort_deck, hop]; nofun), show (onPort s p q).zeroable n = none from hzeroable]

end Sys2Proof.Proofs
end

section
/-! O24 and O25: the CAL records (R56 to R64). -/

namespace Sys2Proof.Proofs
open Sys2Proof Sys2Proof.Machine

variable {s u : State} {h : RecHead} {n : Lane}

/-! ### The steps of a CAL record -/

theorem calGate_eq : s.calGate n =
    if s.power.calEnable = false then some .calLocked
    else if s.power.supply = .warning then some .busy
    else if (s.deck n).op ≠ none then some .busy
    else if (s.lane n).state ≠ .closed then some .wrongState
    else if 65535 ≤ (s.cal n).counter then some .counterFull else none := by
  simp only [State.calGate, State.warning, Bool.not_eq_true', decide_eq_true_eq, Option.isSome_iff_ne_none]
  rfl

theorem calGate_open (henable : s.power.calEnable = true) (hsupply : s.power.supply ≠ .warning)
    (hop : (s.deck n).op = none) (hclosed : (s.lane n).state = .closed) (hcounter : (s.cal n).counter < 65535) :
    s.calGate n = none := by
  rw [calGate_eq, if_neg (by rw [henable]; nofun), if_neg hsupply, if_neg (not_not.mpr hop), if_neg (not_not.mpr hclosed),
    if_neg (Nat.not_le.mpr hcounter)]

section
variable {α β : Type} {b : Body α} {a : α} {f : β} {read : α → Option β} {act : β → State × ResultCode}

theorem calTakes_gated {code : ResultCode} (hg : s.calGate n = some code) : s.calTakes b read act n = (s, code) := by
  unfold State.calTakes
  rw [hg]

theorem calTakes_misfit (hg : s.calGate n = none) : State.calTakes .misfit read act n s = (s, .badArgument) := by
  rw [State.calTakes, hg]

theorem calTakes_bad (hg : s.calGate n = none) (hr : read a = none) :
    State.calTakes (.item a) read act n s = (s, .badArgument) := by
  rw [State.calTakes, hg]
  dsimp only
  rw [hr]

theorem calTakes_ok (hg : s.calGate n = none) (hr : read a = some f) :
    State.calTakes (.item a) read act n s = act f := by
  rw [State.calTakes, hg]
  dsimp only
  rw [hr]

end

/-! ### What the payloads read as -/

theorem testLoadOf_some {v : BitVec 32} (h1 : 1 ≤ v.toNat) (h2 : v.toNat ≤ 100000) : testLoadOf v = some v.toNat :=
  if_pos ⟨h1, h2⟩

theorem testLoadOf_none {v : BitVec 32} (h : v.toNat = 0 ∨ 100000 < v.toNat) : testLoadOf v = none :=
  if_neg fun ⟨h1, h2⟩ => by omega

theorem repeats_iff (as : List Nat) : repeats as = true ↔ ¬as.Nodup := by
  induction as with
  | nil => simp [repeats]
  | cons a as ih => simp [repeats, ih, List.nodup_cons, imp_iff_not_or]

/-- A trim list as its layout and R62 have it. -/
def TrimsFit (cells : Nat) (ps : List TrimPair) : Prop :=
  1 ≤ ps.length ∧ ps.length ≤ 8 ∧ (ps.map fun p => p.cell.toNat).Nodup
    ∧ ∀ p ∈ ps, 1 ≤ p.cell.toNat ∧ p.cell.toNat ≤ cells ∧ 49152 ≤ p.trim.toNat ∧ p.trim.toNat ≤ 81920

theorem trimFields_test (cells : Nat) (ps : List TrimPair) :
    ((ps.all fun p => decide (1 ≤ p.cell.toNat) && decide (p.cell.toNat ≤ cells) && decide (49152 ≤ p.trim.toNat)
      && decide (p.trim.toNat ≤ 81920)) && !repeats (ps.map fun p => p.cell.toNat) && decide (1 ≤ ps.length)
      && decide (ps.length ≤ 8)) = true ↔ TrimsFit cells ps := by
  have hrepeats : repeats (ps.map fun p => p.cell.toNat) = false ↔ (ps.map fun p => p.cell.toNat).Nodup := by
    rw [← Bool.not_eq_true, repeats_iff, not_not]
  simp only [Bool.and_eq_true, List.all_eq_true, decide_eq_true_eq, Bool.not_eq_true', hrepeats, TrimsFit, and_assoc]
  tauto

theorem trimFields_some {cells : Nat} {ps : List TrimPair} (hfit : TrimsFit cells ps) :
    trimFields cells ps = some (ps.map fun p => (p.cell.toNat - 1, p.trim.toNat)) :=
  if_pos ((trimFields_test cells ps).mpr hfit)

theorem trimFields_none {cells : Nat} {ps : List TrimPair} (hfit : ¬TrimsFit cells ps) : trimFields cells ps = none :=
  if_neg fun hh => hfit ((trimFields_test cells ps).mp hh)

/-- A range as R63 has it. -/
def RangeFits (i : RangeItem) : Prop :=
  i.d.toNat ∈ [5, 10, 20, 50, 100] ∧ 1000 ≤ i.max.toNat ∧ i.max.toNat ≤ 100000
    ∧ i.max.toNat % i.d.toNat = 0 ∧ i.max.toNat / i.d.toNat ≤ 10000

theorem rangeFields_test (i : RangeItem) : ((i.d.toNat = 5 ∨ i.d.toNat = 10 ∨ i.d.toNat = 20 ∨ i.d.toNat = 50
    ∨ i.d.toNat = 100) ∧ 1000 ≤ i.max.toNat ∧ i.max.toNat ≤ 100000 ∧ i.max.toNat % i.d.toNat = 0
    ∧ i.max.toNat / i.d.toNat ≤ 10000) ↔ RangeFits i := by
  simp only [RangeFits, List.mem_cons, List.not_mem_nil, or_false]

theorem rangeFields_some {i : RangeItem} (hfit : RangeFits i) : rangeFields i = some (i.max.toNat, i.d.toNat) :=
  if_pos ((rangeFields_test i).mpr hfit)

theorem rangeFields_none {i : RangeItem} (hfit : ¬RangeFits i) : rangeFields i = none :=
  if_neg fun hh => hfit ((rangeFields_test i).mp hh)

/-! ### The records themselves -/

theorem onlyUncalibrated_iff : (s.reasons n).onlyUncalibrated = true
    ↔ (s.deck n).noSlots = false ∧ (s.deck n).saturated = false ∧ (s.deck n).excitation = false := by
  simp [State.reasons, ReasonSet.onlyUncalibrated, and_assoc]

/-- Settles O25: the gate whatever the payload is, then the payload, then the deck. -/
theorem calRecordsRefusedInOrder : Obligations.CalRecordsRefusedInOrder := by
  intro s h n ht hn gate refuses divisions clean
  have hgate : s.calGate n = gate := calGate_eq
  have hrefuses : ∀ {act : Lane → State → State × ResultCode} {code : ResultCode},
      (∀ p q, act n (onPort s p q) = (onPort s p q, code)) →
      Host.Outcome.next (s.takeLane h act) = (.next (s.refusedWith h code) : Host.Outcome State Fault Refusal) :=
    fun ha => congrArg Host.Outcome.next (takeLane_refuses ht hn ha)
  refine ⟨fun code hcode => ?_, fun hnone => ?_, fun hlocked => ?_, fun henable hop => ?_⟩
  · rw [← hgate] at hcode
    exact ⟨fun b => hrefuses fun p q => calTakes_gated (s := onPort s p q) hcode,
      fun b => hrefuses fun p q => calTakes_gated (s := onPort s p q) hcode,
      fun b => hrefuses fun p q => calTakes_gated (s := onPort s p q) hcode,
      fun b => hrefuses fun p q => calTakes_gated (s := onPort s p q) hcode⟩
  · rw [← hgate] at hnone
    have hunclean : ¬clean → (s.reasons n).onlyUncalibrated = false := fun hc =>
      Bool.eq_false_iff.mpr fun ho => hc (onlyUncalibrated_iff.mp ho)
    refine ⟨hrefuses fun p q => calTakes_misfit (s := onPort s p q) hnone,
      hrefuses fun p q => calTakes_misfit (s := onPort s p q) hnone,
      hrefuses fun p q => calTakes_misfit (s := onPort s p q) hnone,
      hrefuses fun p q => calTakes_misfit (s := onPort s p q) hnone, fun v => ⟨fun hv => ?_, fun h1 h2 hstate => ?_⟩,
      fun hc => ?_, fun ps hps => ?_, fun i => ⟨fun hfit => ?_, fun hfit hlimit => ?_⟩⟩
    · exact hrefuses fun p q => calTakes_bad (s := onPort s p q) hnone (testLoadOf_none hv)
    · refine hrefuses fun p q => (calTakes_ok (s := onPort s p q) hnone (testLoadOf_some h1 h2)).trans ?_
      refine if_neg fun hh => ?_
      obtain ⟨hzero, honly⟩ := Bool.and_eq_true_iff.mp hh
      rcases hstate with hz | hc
      · exact Bool.false_ne_true (hz.symm.trans hzero)
      · exact Bool.false_ne_true ((hunclean hc).symm.trans honly)
    · refine hrefuses fun p q => (calTakes_ok (s := onPort s p q) hnone rfl).trans ?_
      exact if_neg (by rw [onPort_reasons, hunclean hc]; nofun)
    · refine hrefuses fun p q => calTakes_bad (s := onPort s p q) hnone (trimFields_none ?_)
      rintro ⟨hlen1, hlen8, hnodup, hvalues⟩
      rcases hps with rfl | hlong | hdup | ⟨x, hx, hbad⟩
      · exact absurd hlen1 (by decide)
      · exact absurd hlen8 (Nat.not_le.mpr hlong)
      · exact hdup hnodup
      · obtain ⟨h1, h2, h3, h4⟩ := hvalues x hx
        rw [onPort_deckSettings] at h2
        omega
    · exact hrefuses fun p q => calTakes_bad (s := onPort s p q) hnone (rangeFields_none hfit)
    · refine hrefuses fun p q => (calTakes_ok (s := onPort s p q) hnone (rangeFields_some hfit)).trans ?_
      exact if_pos hlimit
  · exact hrefuses fun p q => if_pos (by rw [onPort_power, hlocked]; rfl)
  · refine hrefuses fun p q => ?_
    rw [State.calAborts, if_neg (by rw [onPort_power, henable]; nofun), if_neg (by rw [onPort_deck, hop]; nofun)]

/-! ### What a record that passes does -/

theorem calSucceeds_eq (sub : CalSub) (f : DeckCal → DeckCal) : s.calSucceeds n sub f =
    s.posted [s.event .calDone (some n) .none (.calDone sub ((s.cal n).counter + 1))]
      { s.storing { s.ret with
          cal := s.ret.cal.set n { f (s.cal n) with counter := (s.cal n).counter + 1 } } with
        decks := s.decks.set n { s.deck n with lastOutcome := some ⟨sub, .done, s.now⟩ } } := rfl

/-- Outside WEIGHING the monitor's state is its own affair. -/
theorem setSettling_elsewhere (hst : (s.lane n).state ≠ .weighing) (m : Settling) :
    s.setSettling n m = { s with decks := s.decks.set n { s.deck n with settling := m } } :=
  if_neg fun hh => hst hh.2.2

theorem emptyFilter_elsewhere (hst : (s.lane n).state ≠ .weighing) : s.emptyFilter n =
    { s with decks := s.decks.set n { s.deck n with history := [], settling := clearedSettling } } := by
  refine (setSettling_elsewhere (s := s.modDeck n fun d => { d with history := [] }) hst _).trans ?_
  simp only [State.modDeck, Quad.upd, State.deck, Quad.get_set_self, quad_set_set]

theorem setTrims_get (ps : List (Nat × Nat)) (hdistinct : (ps.map Prod.fst).Nodup) (gs : Vector Nat 8) (i : Fin 8) :
    (setTrims gs ps).get i = ((ps.find? fun p => p.1 == i.val).map Prod.snd).getD (gs.get i) := by
  induction ps generalizing gs with
  | nil => rfl
  | cons p ps ih =>
    obtain ⟨k, g⟩ := p
    obtain ⟨hnew, hrest⟩ := List.nodup_cons.mp hdistinct
    rw [setTrims, ih hrest, List.find?_cons]
    by_cases hk : k = i.val
    · have hnone : (ps.find? fun p => p.1 == i.val) = none :=
        List.find?_eq_none.mpr fun p hp heq => hnew (List.mem_map.mpr ⟨p, hp, (eq_of_beq heq).trans hk.symm⟩)
      subst hk
      rw [hnone, dif_pos i.isLt]
      simpa using (vector_get_set gs i i g).trans (if_pos rfl)
    · have hne : (k == i.val) = false := by simpa using hk
      rw [hne]
      dsimp only
      by_cases hlt : k < 8
      · rw [dif_pos hlt]
        exact congrArg (Option.getD _) ((vector_get_set gs ⟨k, hlt⟩ i g).trans (if_neg fun heq => hk (congrArg Fin.val heq).symm))
      · rw [dif_neg hlt]

theorem trimmed_eq {cells : Nat} {ps : List TrimPair} (hfit : TrimsFit cells ps) (gs : Vector Nat 8) :
    setTrims gs (ps.map fun p => (p.cell.toNat - 1, p.trim.toNat)) = Vector.ofFn fun i =>
      match ps.find? fun p => p.cell.toNat == i.val + 1 with
      | some p => p.trim.toNat
      | none => gs.get i := by
  obtain ⟨_, _, hdistinct, hvalues⟩ := hfit
  have hfst : ((ps.map fun p => (p.cell.toNat - 1, p.trim.toNat)).map Prod.fst).Nodup := by
    rw [List.map_map, List.Nodup, List.pairwise_map] at *
    refine hdistinct.imp_of_mem fun {a b} ha hb hne heq => hne ?_
    have hone := (hvalues a ha).1
    have hother := (hvalues b hb).1
    simp only [Function.comp] at heq
    omega
  refine Vector.ext fun i hi => ?_
  have hfind : ((ps.map fun p => (p.cell.toNat - 1, p.trim.toNat)).find? fun p => p.1 == i)
      = (ps.find? fun p => p.cell.toNat == i + 1).map fun p => (p.cell.toNat - 1, p.trim.toNat) := by
    rw [List.find?_map]
    refine congrArg _ (List.find?_congr fun p hp => Bool.eq_iff_iff.mpr ?_)
    have hone := (hvalues p hp).1
    simp only [Function.comp, beq_iff_eq]
    omega
  rw [Vector.getElem_ofFn]
  refine (setTrims_get _ hfst gs ⟨i, hi⟩).trans ?_
  rw [hfind]
  cases ps.find? fun p => p.cell.toNat == i + 1 <;> rfl

theorem lane_closed_ne (hclosed : (s.lane n).state = .closed) : (s.lane n).state ≠ .weighing := by
  rw [hclosed]
  nofun

/-- Settles O24: past the gate, each record by its own rule. -/
theorem calRecordsCarriedOut : Obligations.CalRecordsCarriedOut := by
  intro s h n ht hn henable c d done
  refine ⟨fun op hop => ?_, fun hsupply hnone hclosed hcounter => ?_⟩
  · refine congrArg Host.Outcome.next (takeLane_acts ht hn fun p q => ?_)
    rw [State.calAborts, if_neg (by rw [onPort_power, henable]; nofun),
      if_pos (by rw [onPort_deck, show (s.deck n).op = some op from hop]; rfl), State.abortOp, onPort_deck,
      show (s.deck n).op = some op from hop]
    rfl
  have hgate := calGate_open henable hsupply hnone hclosed hcounter
  have hopen : ∀ p q, (onPort s p q).calGate n = none := fun _ _ => hgate
  refine ⟨fun hslots hsat hexc => ?_, fun ps h1 h8 hdistinct hvalues => ?_, fun i hd h1 h2 hmod hdiv hz => ?_⟩
  · have honly : (s.reasons n).onlyUncalibrated = true := onlyUncalibrated_iff.mpr ⟨hslots, hsat, hexc⟩
    refine ⟨congrArg Host.Outcome.next (takeLane_acts ht hn fun p q => ?_), fun v h1 h2 hzero =>
      congrArg Host.Outcome.next (takeLane_acts ht hn fun p q => ?_)⟩
    · exact (calTakes_ok (hopen p q) rfl).trans (if_pos honly)
    · refine (calTakes_ok (hopen p q) (testLoadOf_some h1 h2)).trans (if_pos ?_)
      exact Bool.and_eq_true_iff.mpr ⟨hzero, honly⟩
  · have hfit : TrimsFit (s.deckSettings n).cells ps := ⟨h1, h8, hdistinct, hvalues⟩
    refine congrArg Host.Outcome.next (takeLane_acts ht hn fun p q => ?_)
    refine (calTakes_ok (hopen p q) (trimFields_some hfit)).trans ?_
    rw [State.trims, calSucceeds_eq, trimmed_eq hfit]
    refine Prod.ext (Eq.trans (emptyFilter_elsewhere (lane_closed_ne hclosed)) ?_) rfl
    simp only [State.posted, State.deck, Quad.get_set_self, quad_set_set]
    rfl
  · refine congrArg Host.Outcome.next (takeLane_acts ht hn fun p q => ?_)
    refine (calTakes_ok (hopen p q) (rangeFields_some ⟨hd, h1, h2, hmod, hdiv⟩)).trans ?_
    refine (if_neg (Nat.not_lt.mpr hz)).trans ?_
    rw [calSucceeds_eq]
    simp only [State.modDeck, Quad.upd, State.posted, Quad.get_set_self, quad_set_set]
    rfl

end Sys2Proof.Proofs
end

section
/-! Operations that do not look at the port, and O45: LANE and BARRIER records (R113 to R116). -/

namespace Sys2Proof.Proofs
open Sys2Proof Sys2Proof.Machine

variable {s u : State} {h : RecHead} {n : Lane}

/-! ### Operations under another port -/

/-- The state with another port. -/
def withLink (s : State) (p : LinkPort) : State := { s with link := p }

section
variable {p : LinkPort} {q : EventQueue}

theorem withLink_command (t : Toward) : (withLink s p).command n t = withLink (s.command n t) p := by
  rw [command_eq, command_eq]
  rfl

theorem withLink_seek : (withLink s p).seek n = withLink (s.seek n) p := by
  rw [seek_eq, seek_eq]
  rfl

theorem withLink_enterHeld (r : HoldReason) : (withLink s p).enterHeld n r = withLink (s.enterHeld n r) p := by
  by_cases hr : r = .barrier
  · subst hr
    rw [enterHeld_barrier, enterHeld_barrier]
    rfl
  · rw [enterHeld_of_ne hr, enterHeld_of_ne hr]
    rfl

theorem withLink_letGo : (withLink s p).letGo n = withLink (s.letGo n) p := by
  cases hb : isFault (s.barrier n).state with
  | true => rw [letGo_of_fault hb, letGo_of_fault (s := withLink s p) hb, withLink_enterHeld]
  | false =>
    rw [letGo_of_not_fault hb, letGo_of_not_fault (s := withLink s p) hb]
    rfl

/-- The entries that post nothing look at neither the port nor the queue. -/
theorem onPort_enterIdle : (onPort s p q).enterIdle n = onPort (s.enterIdle n) p q := by
  rw [enterIdle_eq (s := s), enterIdle_eq (s := onPort s p q)]
  by_cases hc : (s.lane n).closePending = true ∨ s.ret.settings.siteMode = .closed
  · have hc' : ((onPort s p q).lane n).closePending = true ∨ (onPort s p q).ret.settings.siteMode = .closed := hc
    rw [if_pos hc, if_pos hc']
    rfl
  · have hc' : ¬(((onPort s p q).lane n).closePending = true ∨ (onPort s p q).ret.settings.siteMode = .closed) := hc
    rw [if_neg hc, if_neg hc']
    rfl

theorem onPort_enterClosed : (onPort s p q).enterClosed n = onPort (s.enterClosed n) p q := by
  rw [enterClosed_eq, enterClosed_eq]
  rfl

theorem onPort_enterClearing : (onPort s p q).enterClearing n = onPort (s.enterClearing n) p q := by
  rw [enterClearing_eq, enterClearing_eq]
  rfl

theorem onPort_enterRefused (r : Reason) : (onPort s p q).enterRefused n r = onPort (s.enterRefused n r) p q := by
  rw [enterRefused_eq (s := s), enterRefused_eq (s := onPort s p q)]
  by_cases hc : (s.deck n).occupancy = .empty
  · rw [if_pos hc, if_pos (show ((onPort s p q).deck n).occupancy = .empty from hc)]
    exact onPort_enterIdle (s := { s with
      lanes := s.lanes.set n (refusedLane r (s.lane n)), barriers := s.obeying n .down })
  · rw [if_neg hc, if_neg (show ¬((onPort s p q).deck n).occupancy = .empty from hc)]
    rfl

theorem onPort_laneSettle : (onPort s p q).laneSettle n = onPort (s.laneSettle n) p q := by
  unfold State.laneSettle
  cases hst : (s.lane n).state with
  | idle =>
    rw [onPort_lane, hst]
    dsimp only
    by_cases hcause : s.suspendCause n = true
    · rw [if_pos hcause, if_pos (show (onPort s p q).suspendCause n = true from hcause)]
      rfl
    · rw [if_neg hcause, if_neg (show ¬(onPort s p q).suspendCause n = true from hcause)]
      by_cases hocc : (s.deck n).occupancy = .occupied
      · rw [if_pos hocc, if_pos (show ((onPort s p q).deck n).occupancy = .occupied from hocc)]
        rfl
      · rw [if_neg hocc, if_neg (show ¬((onPort s p q).deck n).occupancy = .occupied from hocc)]
  | suspended =>
    rw [onPort_lane, hst]
    dsimp only
    by_cases hcause : s.suspendCause n = true
    · rw [if_pos hcause, if_pos (show (onPort s p q).suspendCause n = true from hcause)]
    · rw [if_neg hcause, if_neg (show ¬(onPort s p q).suspendCause n = true from hcause)]
      exact onPort_enterIdle
  | _ =>
    rw [onPort_lane, hst]

theorem withLink_eq_onPort : withLink s p = onPort s p s.events := rfl

theorem enterIdle_events : (s.enterIdle n).events = s.events :=
  (keeps_enterIdle (p := { lanes := true, settings := true, barriers := true }) rfl rfl rfl).events rfl

theorem withLink_enterIdle : (withLink s p).enterIdle n = withLink (s.enterIdle n) p := by
  rw [withLink_eq_onPort, onPort_enterIdle, withLink_eq_onPort, enterIdle_events]

theorem withLink_laneSettle : (withLink s p).laneSettle n = withLink (s.laneSettle n) p := by
  rw [withLink_eq_onPort, onPort_laneSettle, withLink_eq_onPort, laneSettle_events]

/-- A barrier come to FAULT, with its event. -/
def faulted (s : State) (n : Lane) (r : BarrierFault) : State :=
  (s.modBarrier n fun b => { stopMotor b with state := .fault r }).post .barrierFault (some n) .none (.barrierFault r)

theorem enterFault_passing (hst : (s.lane n).state = .passing) (r : BarrierFault) : s.enterFault n r =
    ((faulted s n r).modLane n fun l => { l with cycle := unmarkedCycle l.cycle }).enterHeld n .barrier := by
  unfold State.enterFault
  rw [hst]
  rfl

theorem enterFault_elsewhere (hst : (s.lane n).state ≠ .passing) (r : BarrierFault) :
    s.enterFault n r = (faulted s n r).laneSettle n := by
  unfold State.enterFault
  split
  · next h => exact absurd h hst
  · rfl

theorem withLink_faulted (r : BarrierFault) : faulted (withLink s p) n r = withLink (faulted s n r) p := rfl

theorem withLink_modLane (f : LaneSeq → LaneSeq) : (withLink s p).modLane n f = withLink (s.modLane n f) p := rfl

theorem withLink_enterFault (r : BarrierFault) : (withLink s p).enterFault n r = withLink (s.enterFault n r) p := by
  by_cases hst : (s.lane n).state = .passing
  · have hst' : ((withLink s p).lane n).state = .passing := hst
    rw [enterFault_passing hst, enterFault_passing hst', withLink_faulted, withLink_modLane, withLink_enterHeld]
  · have hst' : ((withLink s p).lane n).state ≠ .passing := hst
    rw [enterFault_elsewhere hst, enterFault_elsewhere hst', withLink_faulted, withLink_laneSettle]

end

/-! ### Rules that go on from the record's receipt -/

theorem heard_link (p : LinkPort) : onPort s p (s.eventsAfter s.restored) = withLink s.heard p := rfl

/-- A rule that accepts, and leaves the port alone. -/
theorem takeLane_acknowledges {act : Lane → State → State × ResultCode} (ht : s.takes h .lane) (hn : h.chan = .lane n)
    (ha : ∀ p, act n (withLink s.heard p) = (withLink u p, .ok)) : s.takeLane h act = s.acknowledged h u := by
  rw [takeLane_takes ht hn, receive_onPort, heard_link, ha]
  have hlink : State.answered s h (.result h.chan .ok) ((withLink u (s.receive h).link).answer h .ok) := answered_of rfl
  exact congrArg (fun p => { u with link := p }) hlink

theorem takeSite_acknowledges {act : State → State × ResultCode} (ht : s.takes h .site)
    (ha : ∀ p, act (withLink s.heard p) = (withLink u p, .ok)) : s.takeSite h act = s.acknowledged h u := by
  rw [takeSite_takes ht, receive_onPort, heard_link, ha]
  have hlink : State.answered s h (.result h.chan .ok) ((withLink u (s.receive h).link).answer h .ok) := answered_of rfl
  exact congrArg (fun p => { u with link := p }) hlink

/-! ### The rules of the lane records -/

theorem faultLeft_eq : s.faultLeft n =
    if (s.lane n).state = .held .barrier then s.letGo n
    else if (s.lane n).state = .clearing ∧ (s.barrier n).state = .down then s.enterIdle n
    else if (s.lane n).state = .suspended ∧ s.suspendCause n = false then s.enterIdle n else s := by
  unfold State.faultLeft
  cases hst : (s.lane n).state with
  | held r => cases r <;> simp
  | clearing => simp
  | suspended =>
    cases hcause : s.suspendCause n <;> simp [State.laneSettle, hst, hcause]
  | _ => simp

theorem withLink_faultLeft {p : LinkPort} : (withLink s p).faultLeft n = withLink (s.faultLeft n) p := by
  unfold State.faultLeft
  rw [show ((withLink s p).lane n).state = (s.lane n).state from rfl]
  split
  · exact withLink_letGo
  · by_cases hdown : (s.barrier n).state = .down
    · rw [if_pos hdown, if_pos (show ((withLink s p).barrier n).state = .down from hdown)]
      exact withLink_enterIdle
    · rw [if_neg hdown, if_neg (show ¬((withLink s p).barrier n).state = .down from hdown)]
  · exact withLink_laneSettle
  · rfl

theorem holdsEntry_iff : s.holdsEntry n = true ↔ (s.lane n).identity.map (fun i => i.direction) = some .entry := by
  unfold State.holdsEntry
  cases (s.lane n).identity <;> simp

/-! ### BARRIER RAISE (R115) -/

/-- The lane's vehicle is on its way in. -/
abbrev Entering (s : State) (n : Lane) : Prop := (s.lane n).identity.map (fun i => i.direction) = some .entry

/-- A hold at the entry, which a BARRIER RAISE ends. -/
abbrev EndsHold (s : State) (n : Lane) : Prop := (s.lane n).state = .held .approval ∧ Entering s n

/-- A vehicle on its way in, let in by a BARRIER RAISE. -/
abbrev PassesIn (s : State) (n : Lane) : Prop :=
  ((s.lane n).state = .passing ∨ (s.lane n).state = .held .barrier) ∧ Entering s n

/-- A vehicle held at the exit, which a BARRIER RAISE leaves on site. -/
abbrev StaysIn (s : State) (n : Lane) : Prop :=
  ((s.lane n).state = .held .approval ∧ ¬Entering s n) ∨ (s.lane n).state = .held .journal
    ∨ (s.lane n).state = .held .overweight

/-- The sections with one visit changed. -/
def visitChanged (s : State) (k : Nat) (f : Visit → Visit) : Retained :=
  { s.ret with
    traffic := { s.ret.traffic with visits := s.ret.traffic.visits.map fun v => if v.number = k then f v else v } }

theorem modVisit_eq (k : Nat) (f : Visit → Visit) : s.modVisit k f = s.storing (visitChanged s k f) := rfl

theorem settleManual_ends {v : Visit} (hends : EndsHold s n) : s.settleManual n v =
    s.posted (s.cancelEvents v) { s.storing (s.cancelled v) with
      lanes := s.lanes.set n { s.lane n with lateNumber := some v.number } } := by
  obtain ⟨hst, hentry⟩ := hends
  unfold State.settleManual
  rw [hst]
  dsimp only
  rw [if_pos (holdsEntry_iff.mpr hentry), cancelVisit_eq]
  rfl

theorem settleManual_passes {v : Visit} (hpasses : PassesIn s n) : s.settleManual n v =
    s.storing (visitChanged s v.number fun u => { u with state := .onSite }) := by
  obtain ⟨hst, hentry⟩ := hpasses
  unfold State.settleManual
  rcases hst with hst | hst
  all_goals
    rw [hst]
    exact if_pos (holdsEntry_iff.mpr hentry)

theorem settleManual_stays {v : Visit} (hstays : StaysIn s n) : s.settleManual n v =
    s.storing (visitChanged s v.number returnedVisit) := by
  unfold State.settleManual
  rcases hstays with ⟨hst, hexit⟩ | hst | hst
  · rw [hst]
    exact if_neg fun hh => hexit (holdsEntry_iff.mp hh)
  · rw [hst]
    rfl
  · rw [hst]
    rfl

theorem settleManual_else {v : Visit} (hends : ¬EndsHold s n) (hpasses : ¬PassesIn s n) (hstays : ¬StaysIn s n) :
    s.settleManual n v = s := by
  unfold State.settleManual
  split
  · next hst =>
    by_cases hentry : Entering s n
    · exact absurd ⟨hst, hentry⟩ hends
    · exact absurd (.inl ⟨hst, hentry⟩) hstays
  · next hst => exact absurd (.inr (.inl hst)) hstays
  · next hst => exact absurd (.inr (.inr hst)) hstays
  · rfl
  · next hst => exact if_neg fun hh => hpasses ⟨.inl hst, holdsEntry_iff.mp hh⟩
  · next hst => exact if_neg fun hh => hpasses ⟨.inr hst, holdsEntry_iff.mp hh⟩
  all_goals rfl

/-- The lane's visit settled by a BARRIER RAISE. -/
def settledVisit (s : State) (n : Lane) : State :=
  match s.laneVisit n with
  | some v => s.settleManual n v
  | none => s

theorem enterManual_eq : s.enterManual n = State.command
    { ((settledVisit s n).modLane n manualLane).post .manualPass (some n) .none (.laneState (s.lane n).state) with
      journalOrder := (settledVisit s n).journalOrder.filter fun m => m != n } n .up := rfl

/-- What a BARRIER RAISE does once the lane's visit is settled. -/
theorem enterManual_of {w : State} {es : List Event} (hsettled : settledVisit s n = s.posted es w) (hb : w.barriers = s.barriers) (hl : w.loops = s.loops)
    (hs : w.ret.settings = s.ret.settings) (hnow : w.now = s.now) (hj : w.journalOrder = s.journalOrder) :
    s.enterManual n = s.posted (es ++ [s.event .manualPass (some n) .none (.laneState (s.lane n).state)])
      { w with
        lanes := w.lanes.set n (manualLane (w.lane n)), journalOrder := s.journalOrder.filter fun m => m != n
        barriers := s.obeying n .up } := by
  have hpost : ((s.posted es w).modLane n manualLane).post .manualPass (some n) .none (.laneState (s.lane n).state)
      = s.posted (es ++ [s.event .manualPass (some n) .none (.laneState (s.lane n).state)]) (w.modLane n manualLane) :=
    posted_post (u := w.modLane n manualLane) hnow ..
  have hobeying : w.obeying n .up = s.obeying n .up := obeying_congr hb hl (by
    rw [State.laneSettings, State.laneSettings]
    exact congrArg (fun t => LaneSettings.barrier (Quad.get (Settings.lanes t) n)) hs)
  rw [enterManual_eq, hsettled, hpost, command_eq, ← hj, ← hobeying]
  rfl

theorem barrierRaises_else (hclosed : (s.lane n).state ≠ .closed) (hmanual : (s.lane n).state ≠ .manual) :
    State.barrierRaises n s = (s.enterManual n, .ok) := by
  unfold State.barrierRaises
  split
  · next h => exact absurd h hclosed
  · next h => exact absurd h hmanual
  all_goals rfl

/-! ### O45 -/

theorem switchState_eq (down up : Bool) : switchState down up = (match down, up with
    | true, false => .down
    | false, true => .up
    | false, false => .unknown
    | true, true => .fault .switch) := rfl

/-- A barrier out of FAULT in the state that its switches show. -/
theorem barrierResets_shown {st : BarrierState} (hfault : isFault (s.barrier n).state = true)
    (hst : switchState (s.barrier n).downSwitch (s.barrier n).upSwitch = st) (hno : isFault st = false) :
    State.barrierResets n s = (((s.modBarrier n fun b => { b with obstructions := 0, state := st }).faultLeft n).seek n, .ok) := by
  have hmoved : (s.modBarrier n fun b => { b with obstructions := 0 }).modBarrier n (fun b => { b with state := st })
      = s.modBarrier n fun b => { b with obstructions := 0, state := st } := by
    simp only [modBarrier_eq, State.barrier, Quad.get_set_self, quad_set_set]
  unfold State.barrierResets
  rw [if_pos hfault, ← hmoved]
  dsimp only
  rw [hst]
  cases st with
  | fault r => cases hno
  | _ => rfl

theorem barrierResets_fault (hfault : isFault (s.barrier n).state = true) (hdown : (s.barrier n).downSwitch = true)
    (hup : (s.barrier n).upSwitch = true) :
    State.barrierResets n s = ((s.modBarrier n fun b => { b with obstructions := 0 }).enterFault n .switch, .ok) := by
  unfold State.barrierResets
  rw [if_pos hfault, hdown, hup]
  rfl

theorem withLink_modBarrier {p : LinkPort} (f : Barrier → Barrier) :
    (withLink s p).modBarrier n f = withLink (s.modBarrier n f) p := rfl

/-- Settles O45: each record by its own rule; BARRIER RAISE by what the lane's visit is. -/
theorem laneRecordsCarriedOut : Obligations.LaneRecordsCarriedOut := by
  intro s h n ht hn l flagged
  have hrefuses : ∀ {act : Lane → State → State × ResultCode} {code : ResultCode},
      (∀ p q, act n (onPort s p q) = (onPort s p q, code)) →
      Host.Outcome.next (s.takeLane h act) = (.next (s.refusedWith h code) : Host.Outcome State Fault Refusal) :=
    fun ha => congrArg Host.Outcome.next (takeLane_refuses ht hn ha)
  have hacts : ∀ {act : Lane → State → State × ResultCode} {es : List Event} {u : State}, Acts (act n) s .ok es u →
      Host.Outcome.next (s.takeLane h act) = (.next (s.executed h es u) : Host.Outcome State Fault Refusal) :=
    fun ha => congrArg Host.Outcome.next (takeLane_acts ht hn ha)
  refine ⟨?_, ?_, ?_, ?_, ?_, ?_⟩
  · split
    · next hop => exact hrefuses fun p q => if_pos (Option.isSome_iff_ne_none.mpr hop)
    · next hop =>
      have hnone : ∀ p q, ¬((onPort s p q).deck n).op.isSome = true := fun p q hh =>
        hop (Option.isSome_iff_ne_none.mp hh)
      have hclosed : ∀ p q, (((onPort s p q).lane n).state ≠ .closed ∨ (onPort s p q).siteClosed = true)
          ↔ (l.state ≠ .closed ∨ s.ret.settings.siteMode = .closed) := fun p q =>
        or_congr Iff.rfl (by rw [onPort_siteClosed, State.siteClosed, decide_eq_true_eq])
      split
      · next hst => exact hrefuses fun p q => (if_neg (hnone p q)).trans (if_pos ((hclosed p q).mpr hst))
      · next hst =>
        refine hacts fun p q => (if_neg (hnone p q)).trans ((if_neg fun hh => hst ((hclosed p q).mp hh)).trans ?_)
        exact congrArg (·, ResultCode.ok) (onPort_enterIdle (s := s.storing (flagged false)))
  · split
    · next hst =>
      refine hacts fun p q => (if_pos hst).trans ?_
      rw [enterClosed_eq]
      rfl
    · next hst => exact hrefuses fun p q => if_neg hst
  · split
    · next hst => exact hacts fun p q => (if_pos hst).trans (congrArg (·, ResultCode.ok) onPort_enterIdle)
    · next hst => exact hrefuses fun p q => if_neg hst
  · split
    · next hst => exact hacts fun p q => (if_pos hst).trans (congrArg (·, ResultCode.ok) onPort_enterClearing)
    · next hst => exact hrefuses fun p q => if_neg hst
  · intro b reset
    have hreset : ∀ st, isFault st = false → switchState b.downSwitch b.upSwitch = st → isFault b.state = true →
        Host.Outcome.next (s.takeLane h State.barrierResets) = (.next (reset st) : Host.Outcome State Fault Refusal) := by
      intro st hno hst hfault
      refine congrArg Host.Outcome.next (takeLane_acknowledges ht hn fun p => ?_)
      rw [barrierResets_shown (s := withLink s.heard p) hfault hst hno, withLink_modBarrier, withLink_faultLeft,
        withLink_seek, faultLeft_eq]
      have hstate : ((s.heard.modBarrier n fun b => { b with obstructions := 0, state := st }).barrier n).state = st :=
        congrArg Barrier.state (Quad.get_upd_self ..)
      rw [hstate]
      rfl
    split
    · next hfault =>
      split
      · next hdown hup =>
        refine congrArg Host.Outcome.next (takeLane_acknowledges ht hn fun p => ?_)
        rw [barrierResets_fault (s := withLink s.heard p) hfault hdown hup, withLink_modBarrier, withLink_enterFault]
        rfl
      · next hdown hup => exact hreset .down rfl (by rw [hdown, hup]; rfl) hfault
      · next hdown hup => exact hreset .up rfl (by rw [hdown, hup]; rfl) hfault
      · next hdown hup => exact hreset .unknown rfl (by rw [hdown, hup]; rfl) hfault
    · next hfault => exact hrefuses fun p q => if_neg hfault
  · intro visit entry ends passes returns changed back
    by_cases hclosed : l.state = .closed
    · rw [if_pos hclosed]
      refine hrefuses fun p q => ?_
      unfold State.barrierRaises
      rw [onPort_lane, show (s.lane n).state = .closed from hclosed]
    rw [if_neg hclosed]
    by_cases hmanual : l.state = .manual
    · rw [if_pos hmanual]
      refine hacts fun p q => ?_
      unfold State.barrierRaises
      rw [onPort_lane, show (s.lane n).state = .manual from hmanual]
      rfl
    rw [if_neg hmanual]
    refine hacts fun p q => (barrierRaises_else (s := onPort s p q) hclosed hmanual).trans (congrArg (·, ResultCode.ok) ?_)
    cases hvisit : visit with
    | none =>
      have hsettled : settledVisit (onPort s p q) n = (onPort s p q).posted [] (onPort s p q) := by
        unfold settledVisit
        rw [show (onPort s p q).laneVisit n = none from hvisit]
        rfl
      rw [enterManual_of hsettled rfl rfl rfl rfl rfl]
      simp only [Option.map_none, Option.none_or, ite_self]
      rfl
    | some v =>
      have hsettled : settledVisit (onPort s p q) n = (onPort s p q).settleManual n v := by
        unfold settledVisit
        rw [show (onPort s p q).laneVisit n = some v from hvisit]
      by_cases hends : ends
      · rw [settleManual_ends (s := onPort s p q) hends] at hsettled
        rw [enterManual_of hsettled rfl rfl rfl rfl rfl]
        simp only [if_pos hends, State.lane, Quad.get_set_self, quad_set_set]
        rfl
      by_cases hpasses : passes
      · rw [settleManual_passes (s := onPort s p q) hpasses] at hsettled
        rw [enterManual_of (w := (onPort s p q).storing _) (es := []) hsettled rfl rfl rfl rfl rfl]
        simp only [if_neg hends, if_pos hpasses]
        rfl
      by_cases hreturns : returns
      · rw [settleManual_stays (s := onPort s p q) hreturns] at hsettled
        rw [enterManual_of (w := (onPort s p q).storing _) (es := []) hsettled rfl rfl rfl rfl rfl]
        simp only [if_neg hends, if_neg hpasses, if_pos hreturns]
        rfl
      · rw [settleManual_else (s := onPort s p q) hends hpasses hreturns] at hsettled
        rw [enterManual_of (es := []) hsettled rfl rfl rfl rfl rfl]
        simp only [if_neg hends, if_neg hpasses, if_neg hreturns]
        rfl

end Sys2Proof.Proofs
end

section
/-! O46: APPROVE, DECLINE and RETURN records (R148 to R158). -/

namespace Sys2Proof.Proofs
open Sys2Proof Sys2Proof.Machine

variable {s u : State} {h : RecHead} {n : Lane} {p : LinkPort}

/-! ### The close of a visit under another port -/

theorem withLink_judgeLevels (k : Fin 8) (before : Nat) :
    (withLink s p).judgeLevels k before = withLink (s.judgeLevels k before) p := by
  rw [State.judgeLevels, State.judgeLevels, postCrossed_eq, postCrossed_eq]
  rfl

theorem withLink_storeTare (t : Token) (kg : Option Nat) :
    (withLink s p).storeTare t kg = withLink (s.storeTare t kg) p := by cases kg <;> rfl

theorem withLink_closeUpdate (v : Visit) : (withLink s p).closeUpdate v = withLink (s.closeUpdate v) p := by
  unfold State.closeUpdate
  refine Eq.trans ?_ (withLink_storeTare ..)
  rfl

theorem withLink_postLearned (t : Token) (kg : Option Nat) :
    (withLink s p).postLearned t kg = withLink (s.postLearned t kg) p := by cases kg <;> rfl

theorem withLink_queueCloseJob (k : Nat) : (withLink s p).queueCloseJob n k = withLink (s.queueCloseJob n k) p := by
  unfold State.queueCloseJob
  rw [show ((withLink s p).laneSettings n).printer = (s.laneSettings n).printer from rfl]
  cases (s.laneSettings n).printer with
  | none => rfl
  | some a =>
    dsimp only
    rw [show (withLink s p).closeJobFor n = s.closeJobFor n from rfl]
    cases s.closeJobFor n <;> rfl

/-- The sections after a close, with the levels it crosses. -/
def closeWritten (s : State) (v : Visit) : State :=
  (s.closeUpdate v).judgeLevels v.stream (committed (s.streamTotals v.stream))

/-- The close told of. -/
def closeTold (s : State) (n : Lane) (v : Visit) : State :=
  ((closeWritten s v).postLearned v.token (s.learnedTare v)).post .visitClosed (some n) (.visit v.number)
    (.ticket s.ret.tickets.counter)

/-- A close up to the lane's own end. -/
def closed (s : State) (n : Lane) (v : Visit) : State :=
  { (closeTold s n v).queueCloseJob n s.ret.tickets.counter with
    journalOrder := ((closeTold s n v).queueCloseJob n s.ret.tickets.counter).journalOrder.filter fun m => m != n }

theorem closeVisit_eq (v : Visit) : s.closeVisit n v =
    if (closed s n v).printHolds n then
      ((closed s n v).modLane n fun l => { l with heldTicket := some s.ret.tickets.counter }).enterHeld n .print
    else (closed s n v).letGo n := rfl

theorem withLink_closeWritten (v : Visit) : closeWritten (withLink s p) v = withLink (closeWritten s v) p := by
  unfold closeWritten
  rw [withLink_closeUpdate, withLink_judgeLevels]
  rfl

theorem withLink_closeTold (v : Visit) : closeTold (withLink s p) n v = withLink (closeTold s n v) p := by
  unfold closeTold
  rw [withLink_closeWritten, withLink_postLearned]
  rfl

theorem withLink_closed (v : Visit) : closed (withLink s p) n v = withLink (closed s n v) p := by
  have hjob : ((withLink (closeTold s n v) p).queueCloseJob n (withLink s p).ret.tickets.counter)
      = withLink ((closeTold s n v).queueCloseJob n s.ret.tickets.counter) p := withLink_queueCloseJob _
  unfold closed
  rw [withLink_closeTold, hjob]
  rfl

theorem closeVisit_holds {v : Visit} (hprint : (closed s n v).printHolds n = true) : s.closeVisit n v =
    ((closed s n v).modLane n fun l => { l with heldTicket := some s.ret.tickets.counter }).enterHeld n .print := by
  rw [closeVisit_eq, if_pos hprint]

theorem closeVisit_goes {v : Visit} (hprint : (closed s n v).printHolds n = false) :
    s.closeVisit n v = (closed s n v).letGo n := by
  rw [closeVisit_eq, if_neg (Bool.eq_false_iff.mp hprint)]

theorem withLink_printHolds : (withLink s p).printHolds n = s.printHolds n := rfl

theorem withLink_closeVisit (v : Visit) : (withLink s p).closeVisit n v = withLink (s.closeVisit n v) p := by
  have hsame : (closed (withLink s p) n v).printHolds n = (closed s n v).printHolds n := by
    rw [withLink_closed, withLink_printHolds]
  cases hprint : (closed s n v).printHolds n with
  | true =>
    rw [closeVisit_holds hprint, closeVisit_holds (hsame.trans hprint), withLink_closed, withLink_modLane,
      withLink_enterHeld]
    rfl
  | false =>
    rw [closeVisit_goes hprint, closeVisit_goes (hsame.trans hprint), withLink_closed, withLink_letGo]

/-! ### The approvals' rules -/

theorem notTaken_eq (k : Nat) : s.notTaken k = if s.visitNumbered k = none then .notFound else .wrongState := by
  unfold State.notTaken
  cases s.visitNumbered k <;> rfl

theorem visitChanged_number {k : Nat} {v : Visit} (hv : s.visitNumbered k = some v) : v.number = k :=
  (visitNumbered_eq_some hv).2

theorem heldVisit_numbered {r : HoldReason} {k : Nat} {v : Visit} (hv : s.heldVisit n r k = some v) : v.number = k := by
  unfold State.heldVisit at hv
  split at hv
  · exact visitChanged_number hv
  · cases hv

theorem heldVisit_lane {r : HoldReason} {k : Nat} {v : Visit} (hv : s.heldVisit n r k = some v) :
    (s.lane n).visit = some k := by
  unfold State.heldVisit at hv
  split at hv
  · next h => exact h.2
  · cases hv

theorem approves_none {k : Nat} (hk : k ≠ 0) (hnone : s.heldVisit n .approval k = none) :
    State.approves k n s = (s, s.notTakenLate n k) := by
  rw [State.approves, if_neg hk, hnone]

theorem approves_some {k : Nat} {v : Visit} (hk : k ≠ 0) (hv : s.heldVisit n .approval k = some v) :
    State.approves k n s = if s.holdsEntry n then (s.approveEntry n v, .ok)
      else if s.warning then (s, .busy) else (s.journalCheck n v, .ok) := by
  rw [State.approves, if_neg hk, hv]

theorem declines_none {k : Nat} (hk : k ≠ 0) (hnone : s.heldVisit n .approval k = none) :
    State.declines k n s = (s, s.notTakenLate n k) := by
  rw [State.declines, if_neg hk, hnone]

theorem declines_some {k : Nat} {v : Visit} (hk : k ≠ 0) (hv : s.heldVisit n .approval k = some v) :
    State.declines k n s = if s.holdsEntry n then (s.endEntryHold v .declined, .ok) else (s, s.notTakenLate n k) := by
  rw [State.declines, if_neg hk, hv]

theorem journalCheck_full (hfull : 128 ≤ s.ret.tickets.journal.length) (v : Visit) : s.journalCheck n v =
    s.posted [s.event .journalFull (some n) (.visit v.number) .none, s.heldEvent n (s.lane n).visit .journal]
      { s with
        lanes := s.lanes.set n ((s.lane n).heldFor .journal), journalOrder := s.journalOrder ++ [n] } := by
  have hjournal : s.journalFull = true := decide_eq_true hfull
  rw [State.journalCheck, if_pos hjournal, enterHeld_of_ne (by nofun)]
  rfl

theorem journalCheck_free (hfree : ¬128 ≤ s.ret.tickets.journal.length) (v : Visit) :
    s.journalCheck n v = s.closeVisit n v :=
  if_neg (by rw [State.journalFull, decide_eq_true_eq]; exact hfree)

/-- Settles O46: the hold that the record names, and then what it was held for. -/
theorem approvalRecordsCarriedOut : Obligations.ApprovalRecordsCarriedOut := by
  intro s h n a ht hn k l entry held absent late changed
  have hrefuses : ∀ {act : Lane → State → State × ResultCode} {code : ResultCode},
      (∀ p q, act n (onPort s p q) = (onPort s p q, code)) →
      Host.Outcome.next (s.takeLane h act) = (.next (s.refusedWith h code) : Host.Outcome State Fault Refusal) :=
    fun ha => congrArg Host.Outcome.next (takeLane_refuses ht hn ha)
  have hacts : ∀ {act : Lane → State → State × ResultCode} {es : List Event} {u : State}, Acts (act n) s .ok es u →
      Host.Outcome.next (s.takeLane h act) = (.next (s.executed h es u) : Host.Outcome State Fault Refusal) :=
    fun ha => congrArg Host.Outcome.next (takeLane_acts ht hn ha)
  have habsent : ∀ p q, (onPort s p q).notTaken k = absent := fun _ _ => notTaken_eq k
  have hlate : ∀ p q, (onPort s p q).notTakenLate n k = late := fun p q =>
    if_congr Iff.rfl rfl (habsent p q)
  refine ⟨fun hzero => ?_, fun hk => ⟨?_, ?_, ?_⟩⟩
  · exact ⟨hrefuses fun p q => if_pos hzero, hrefuses fun p q => if_pos hzero, hrefuses fun p q => if_pos hzero⟩
  · cases hheld : held .approval with
    | none => exact hrefuses fun p q => (approves_none (s := onPort s p q) hk hheld).trans (by rw [hlate])
    | some v =>
      dsimp only
      by_cases hentry : entry
      · rw [if_pos hentry]
        refine congrArg Host.Outcome.next (takeLane_acknowledges ht hn fun p => ?_)
        refine (approves_some (s := withLink s.heard p) hk hheld).trans ((if_pos (holdsEntry_iff.mpr hentry)).trans ?_)
        refine congrArg (·, ResultCode.ok) (Eq.trans (congrArg (State.letGo · n) ?_) withLink_letGo)
        rw [heldVisit_numbered hheld, State.posted, eventsAfter_append]
        rfl
      rw [if_neg hentry]
      have hexit : ∀ p q, ¬(onPort s p q).holdsEntry n = true := fun p q hh => hentry (holdsEntry_iff.mp hh)
      by_cases hwarning : s.power.supply = .warning
      · rw [if_pos hwarning]
        exact hrefuses fun p q => (approves_some (s := onPort s p q) hk hheld).trans
          ((if_neg (hexit p q)).trans (if_pos (decide_eq_true hwarning)))
      rw [if_neg hwarning]
      have hnormal : ∀ p q, ¬(onPort s p q).warning = true := fun p q hh => hwarning (of_decide_eq_true hh)
      by_cases hfull : 128 ≤ s.ret.tickets.journal.length
      · rw [if_pos hfull]
        refine hacts fun p q => (approves_some (s := onPort s p q) hk hheld).trans
          ((if_neg (hexit p q)).trans ((if_neg (hnormal p q)).trans ?_))
        rw [journalCheck_full (s := onPort s p q) hfull, onPort_lane, heldVisit_lane hheld, heldVisit_numbered hheld]
        rfl
      · rw [if_neg hfull]
        refine congrArg Host.Outcome.next (takeLane_acknowledges ht hn fun p => ?_)
        refine (approves_some (s := withLink s.heard p) hk hheld).trans
          ((if_neg (hexit _ _)).trans ((if_neg (hnormal _ _)).trans ?_))
        rw [journalCheck_free (s := withLink s.heard p) hfull, withLink_closeVisit]
  · cases hheld : held .approval with
    | none => exact hrefuses fun p q => (declines_none (s := onPort s p q) hk hheld).trans (by rw [hlate])
    | some v =>
      dsimp only
      by_cases hentry : entry
      · rw [if_pos hentry]
        refine hacts fun p q => (declines_some (s := onPort s p q) hk hheld).trans
          ((if_pos (holdsEntry_iff.mpr hentry)).trans ?_)
        rw [endEntryHold_eq]
        refine congrArg (fun x => ((onPort s p q).posted _ x, ResultCode.ok)) ?_
        exact onPort_enterRefused (s := { s.storing (s.cancelled v) with
          lanes := s.lanes.set v.entryLane { s.lane v.entryLane with lateNumber := some v.number } }) .declined
      · rw [if_neg hentry]
        exact hrefuses fun p q => (declines_some (s := onPort s p q) hk hheld).trans
          ((if_neg fun hh => hentry (holdsEntry_iff.mp hh)).trans (by rw [hlate]))
  · cases hheld : held .overweight with
    | none =>
      refine hrefuses fun p q => ?_
      rw [State.returns, if_neg hk, show (onPort s p q).heldVisit n .overweight k = none from hheld]
      exact congrArg (Prod.mk _) (habsent p q)
    | some v =>
      refine hacts fun p q => ?_
      rw [State.returns, if_neg hk, show (onPort s p q).heldVisit n .overweight k = some v from hheld]
      dsimp only
      rw [State.exitReturns, State.postRefused, post_eq, posted_enterRefused, heldVisit_numbered hheld]
      refine congrArg (fun x => ((onPort s p q).posted _ x, ResultCode.ok)) ?_
      exact onPort_enterRefused (s := s.storing (changed returnedVisit)) .overweight

end Sys2Proof.Proofs
end

section
/-! O51: READ records, each answered by one DATA (R192 to R198). -/

namespace Sys2Proof.Proofs
open Sys2Proof Sys2Proof.Machine

variable {s : State} {h : RecHead}

/-! ### A READ past the steps of every record -/

theorem takeRead_error {t : ChanType} {act : State → Except ResultCode ReadOut} {code : ResultCode} (ht : s.takes h t)
    (ha : act (s.receive h) = .error code) : s.takeRead h t act = s.refusedWith h code := by
  obtain ⟨h1, h2, h3, h4⟩ := ht
  unfold State.takeRead
  rw [if_pos (listening_of h1 h2)]
  dsimp only
  rw [if_pos (hasPlace_of h3), if_pos h4, ha]
  dsimp only
  rw [receive_onPort]
  exact answer_recorded rfl (congrArg s.eventsAfter (List.append_nil _).symm) rfl

theorem fits_iff (payload : List Byte) :
    (s.receive h).link.fits payload = true ↔ repliesSize s.link.replies + payload.length + 14 ≤ 4096 := by
  rw [receive_eq]
  show decide (payload.length + 6 + 4 ≤ 4096 - 4 - repliesSize s.link.replies) = true ↔ _
  rw [decide_eq_true_eq]
  omega

/-- A READ whose payload is read is answered where there is room, and refused where there is none. -/
theorem takeRead_data {t : ChanType} {act : State → Except ResultCode ReadOut} {out : ReadOut} (ht : s.takes h t)
    (ha : act (s.receive h) = .ok out) (hl : out.state.link = (s.receive h).link) : s.takeRead h t act =
      if repliesSize s.link.replies + out.payload.length + 14 ≤ 4096 then
        { out.state with link := s.linkAfter h (.data h.chan out.payload) }
      else s.refusedWith h .noReplySpace := by
  by_cases hroom : repliesSize s.link.replies + out.payload.length + 14 ≤ 4096
  · rw [if_pos hroom, takeRead_takes ht ha hroom]
    have hlink : State.answered s h (.data h.chan out.payload)
        (out.state.modLink fun p => (p.reply (.data h.chan out.payload)).flush) := answered_reply hl
    exact congrArg (fun p => { out.state with link := p }) hlink
  · rw [if_neg hroom]
    obtain ⟨h1, h2, h3, h4⟩ := ht
    unfold State.takeRead
    rw [if_pos (listening_of h1 h2)]
    dsimp only
    rw [if_pos (hasPlace_of h3), if_pos h4, ha]
    dsimp only
    rw [if_neg fun hh => hroom ((fits_iff _).mp hh), receive_onPort]
    exact answer_recorded rfl (congrArg s.eventsAfter (List.append_nil _).symm) rfl

/-- The state as a READ finds it. -/
def readState (s : State) (h : RecHead) : State :=
  { s.heard with
    link := { s.link with
      port := .receiving, errors := s.link.errors.union (correctedOnly h.corrected), live := true, silence := 0
      lostDue := false } }

theorem receive_readState : s.receive h = readState s h := receive_eq

/-- A READ that changes nothing but the port. -/
theorem takeRead_only {t : ChanType} {act : State → Except ResultCode ReadOut} {payload : List Byte} (ht : s.takes h t)
    (ha : act (readState s h) = .ok ⟨payload, readState s h⟩) : s.takeRead h t act =
      if repliesSize s.link.replies + payload.length + 14 ≤ 4096 then
        { s.heard with link := s.linkAfter h (.data h.chan payload) }
      else s.refusedWith h .noReplySpace := by
  rw [← receive_readState] at ha
  rw [takeRead_data ht ha rfl, receive_readState]
  rfl

/-! ### O51 -/

theorem flagOf_other {b : Byte} (h0 : b ≠ 0) (h1 : b ≠ 1) : flagOf b = none := by
  rw [← Option.not_isSome_iff_eq_none, flagOf_isSome]
  intro hle
  rcases Nat.le_one_iff_eq_zero_or_eq_one.mp hle with hb | hb
  · exact h0 (BitVec.eq_of_toNat_eq hb)
  · exact h1 (BitVec.eq_of_toNat_eq hb)

/-- A number of events fits the reply limit with one to spare. -/
def eventsFit (limit held k : Nat) : Bool := decide (2 + eventSize * k + (if held ≤ k then 1 else 2) + eventSize ≤ limit)

theorem eventCount_eq (limit held : Nat) : eventCount limit held = largestFit (eventsFit limit held) held := rfl

theorem reportsLost_iff (k : Nat) :
    s.reportsLost k = true ↔ s.events.queue.length ≤ k ∧ s.events.overflow = true := by
  simp [State.reportsLost]

/-- What a READ of the events leaves of the queue. -/
theorem eventsTaken_eq (k : Nat) : s.eventsTaken k = { s with
    events :=
      if s.events.queue.length ≤ k ∧ s.events.overflow = true then ⟨[], false, 0⟩
      else { s.events with queue := s.events.queue.drop k } } := by
  unfold State.eventsTaken
  by_cases hlost : s.events.queue.length ≤ k ∧ s.events.overflow = true
  · rw [if_pos hlost, if_pos ((reportsLost_iff k).mpr hlost), List.drop_of_length_le hlost.1]
  · rw [if_neg hlost, if_neg fun hh => hlost ((reportsLost_iff k).mp hh)]

theorem eventsPayload_eq (k : Nat) : s.eventsPayload k =
    let items := s.events.queue.take k
      ++ if s.events.queue.length ≤ k ∧ s.events.overflow = true then
        [s.event .eventsLost none .none (.lost s.events.dropped)] else []
    [15, BitVec.ofNat 8 items.length] ++ items.flatMap eventBytes
      ++ if s.events.queue.length ≤ k then [0] else [1, BitVec.ofNat 8 (s.events.queue.length - k)] := by
  unfold State.eventsPayload
  dsimp only
  rw [if_congr (reportsLost_iff k) rfl rfl]
  rfl

/-- Settles O51: each target by its payload; the events by the largest number that fits. -/
theorem readsAnswered : Obligations.ReadsAnswered := by
  intro s h s1 data bad whole
  have hstate : readState s h = s1 := rfl
  have honly : ∀ {t : ChanType} {act : State → Except ResultCode ReadOut} {payload : List Byte}, s.takes h t →
      act s1 = .ok ⟨payload, s1⟩ →
      (.next (s.takeRead h t act) : Host.Outcome State Fault Refusal) = data payload s.heard :=
    fun ht ha => congrArg Host.Outcome.next (takeRead_only ht ha)
  have hbad : ∀ {t : ChanType} {act : State → Except ResultCode ReadOut}, s.takes h t →
      act s1 = .error .badArgument →
      (.next (s.takeRead h t act) : Host.Outcome State Fault Refusal) = bad :=
    fun ht ha => congrArg Host.Outcome.next (takeRead_error ht (by rw [receive_readState]; exact ha))
  refine ⟨fun ht => ?_, fun n ht hn => ?_, fun ht => ?_⟩
  · exact ⟨⟨hbad ht rfl, honly ht rfl⟩, ⟨hbad ht rfl, honly ht rfl⟩, hbad ht rfl, fun k => honly ht rfl⟩
  · have hlane : ∀ payload : State → Lane → List Byte, (match h.chan with
        | .site => .error .wrongChannel
        | .lane n => .ok ⟨payload s1 n, s1⟩ : Except ResultCode ReadOut) = .ok ⟨payload s1 n, s1⟩ := fun payload => by
      rw [hn]
    exact ⟨⟨hbad ht rfl, honly ht (hlane _)⟩, ⟨hbad ht rfl, honly ht (hlane _)⟩, ⟨hbad ht rfl, honly ht (hlane _)⟩,
      hbad ht rfl, honly ht (hlane _)⟩
  · refine ⟨⟨hbad ht rfl, honly ht rfl⟩, ⟨hbad ht rfl, honly ht rfl⟩, ⟨hbad ht rfl, honly ht rfl⟩,
      ⟨hbad ht rfl, honly ht rfl⟩, ⟨hbad ht rfl, honly ht rfl⟩, hbad ht rfl, fun k => honly ht rfl, hbad ht rfl, fun k => ?_,
      hbad ht rfl, fun t x => ?_, hbad ht rfl, fun k x => ?_, hbad ht rfl, ?_⟩
    · by_cases hbig : 999999 < k.toNat
      · rw [if_pos hbig]
        exact hbad ht (if_pos hbig)
      · rw [if_neg hbig]
        exact honly ht (if_neg hbig)
    · by_cases h0 : x = 0
      · subst h0
        exact honly ht rfl
      rw [if_neg h0]
      by_cases h1 : x = 1
      · subst h1
        exact honly ht rfl
      rw [if_neg h1]
      refine hbad ht ?_
      dsimp only
      rw [flagOf_other h0 h1]
    · by_cases h0 : x = 0
      · subst h0
        exact honly ht rfl
      rw [if_neg h0]
      by_cases h1 : x = 1
      · subst h1
        exact honly ht rfl
      rw [if_neg h1]
      refine hbad ht ?_
      dsimp only
      rw [flagOf_other h0 h1]
    · refine ⟨eventCount s.ret.settings.replyLimit s1.events.queue.length, ?_⟩
      intro queue fits emptied lost items
      have hfits : ∀ j, eventsFit s.ret.settings.replyLimit queue.length j = true ↔ fits j := fun j => decide_eq_true_iff
      refine ⟨largestFit_le .., (largestFit_fits ..).imp_right (hfits _).mp, fun j hlt hle hfit => ?_, ?_⟩
      · have hpast : eventsFit s.ret.settings.replyLimit queue.length j = false := largestFit_past _ hlt hle
        rw [(hfits j).mpr hfit] at hpast
        cases hpast
      · have hact : ∀ k, k = eventCount s.ret.settings.replyLimit s1.events.queue.length →
            noStart (.item ()) (fun t : State =>
              let k := eventCount t.ret.settings.replyLimit t.events.queue.length
              .ok ⟨t.eventsPayload k, t.eventsTaken k⟩) (s.receive h) = .ok ⟨s1.eventsPayload k, s1.eventsTaken k⟩ := by
          rintro k rfl
          rw [receive_readState]
          rfl
        refine congrArg Host.Outcome.next ((takeRead_data ht (hact _ rfl) ?_).trans ?_)
        · rw [receive_readState]
          rfl
        · rw [eventsPayload_eq, eventsTaken_eq]
          rfl

end Sys2Proof.Proofs
end

section
/-! O44: what every record meets before its own rule (R186 to R194, R204, R208). -/

namespace Sys2Proof.Proofs
open Sys2Proof Sys2Proof.Machine

variable {s : State} {h : RecHead} {n : Lane} {c : Instr} {t : ChanType}

/-- Every record is taken by the one gate of the records or by that of the READs. -/
theorem exec_gated (hc : recordType c = some (h, t)) : (∃ act, exec c s = .next (s.takeRecord h t act))
    ∨ ∃ act, exec c s = .next (s.takeRead h t act) := by
  cases c with
  | recordNotExecuted r =>
    cases r with
    | damaged => cases hc
    | unlisted h t =>
      cases hc
      exact .inl ⟨_, rfl⟩
  | readAcquisitionState | readDeckReadings | readCaptureState | readCalibrationState | readLaneDevices | readLaneState
  | readWaitingLists | readVehicleTable | readClassTable | readAccountTable | readVisitTable | readStreams | readJournal
  | readPrinters | readEvents | readLink | readSupply =>
    cases hc
    exact .inr ⟨_, rfl⟩
  | _ =>
    cases hc <;> exact .inl ⟨_, rfl⟩

theorem listening_iff :
    s.listening = true ↔ s.power.held = none ∧ (s.link.port = .waiting ∨ s.link.port = .receiving) := by
  simp [State.listening, State.running, Option.isNone_iff_eq_none]

theorem takeRecord_deaf {act : State → State × ResultCode} (hl : ¬s.listening = true) : s.takeRecord h t act = s :=
  if_neg hl

theorem takeRead_deaf {act : State → Except ResultCode ReadOut} (hl : ¬s.listening = true) : s.takeRead h t act = s :=
  if_neg hl

theorem noPlace_of (hs : 4096 < repliesSize s.link.replies + 12) : (s.receive h).link.hasPlace = false := by
  rw [receive_eq]
  refine decide_eq_false ?_
  show ¬8 ≤ 4096 - 4 - repliesSize s.link.replies
  omega

theorem takeRecord_noPlace {act : State → State × ResultCode} (hl : s.listening = true)
    (hs : 4096 < repliesSize s.link.replies + 12) : s.takeRecord h t act = s.receive h := by
  unfold State.takeRecord
  rw [if_pos hl]
  dsimp only
  rw [noPlace_of hs, if_neg Bool.false_ne_true]

theorem takeRead_noPlace {act : State → Except ResultCode ReadOut} (hl : s.listening = true)
    (hs : 4096 < repliesSize s.link.replies + 12) : s.takeRead h t act = s.receive h := by
  unfold State.takeRead
  rw [if_pos hl]
  dsimp only
  rw [noPlace_of hs, if_neg Bool.false_ne_true]

theorem receive_refused (code : ResultCode) : (s.receive h).answer h code = s.refusedWith h code := by
  rw [receive_onPort]
  exact answer_recorded rfl (congrArg s.eventsAfter (List.append_nil _).symm) rfl

/-! ### Guarded records -/

section
variable {α β : Type} {b : Body α} {read : α → Option β} {inRange : α → Bool}

/-- A guarded rule answers what its payload and WARNING make it answer. -/
theorem guarded_gate {act : β → State → State × ResultCode} (hread : ∀ a, (read a).isSome = inRange a) :
    (readable.fits b inRange = false → State.guarded b read act s = (s, .badArgument))
      ∧ (readable.fits b inRange = true → s.warning = true → State.guarded b read act s = (s, .busy)) := by
  cases b with
  | misfit => exact ⟨fun _ => rfl, nofun⟩
  | item a => exact ⟨fun hr => guarded_bad ((hread a).trans hr), fun hr => guarded_busy ((hread a).trans hr)⟩

/-- What a record of a table or a setting answers at its guard. -/
def GateAnswers (s : State) (h : RecHead) (c : Instr) (r : Bool) : Prop :=
  (r = false → exec c s = .next (s.refusedWith h .badArgument))
    ∧ (r = true → s.power.supply = .warning → exec c s = .next (s.refusedWith h .busy))

theorem gate_site {act : β → State → State × ResultCode} (ht : s.takes h .site)
    (he : exec c s = .next (s.takeSite h (State.guarded b read act))) (hread : ∀ a, (read a).isSome = inRange a) :
    GateAnswers s h c (readable.fits b inRange) := by
  refine ⟨fun hr => ?_, fun hr hw => ?_⟩
  · exact he.trans (congrArg Host.Outcome.next (takeSite_refuses ht fun p q => (guarded_gate hread).1 hr))
  · exact he.trans (congrArg Host.Outcome.next (takeSite_refuses ht fun p q =>
      (guarded_gate hread).2 hr (decide_eq_true hw)))

theorem gate_lane {act : Lane → β → State → State × ResultCode} (ht : s.takes h .lane)
    (he : exec c s = .next (s.takeLane h fun n => State.guarded b read (act n)))
    (hread : ∀ a, (read a).isSome = inRange a) : GateAnswers s h c (readable.fits b inRange) := by
  obtain ⟨n, hn⟩ : ∃ n, h.chan = .lane n := by
    obtain ⟨_, _, _, hadmits⟩ := ht
    cases hchan : h.chan with
    | site => rw [hchan] at hadmits; cases hadmits
    | lane n => exact ⟨n, rfl⟩
  refine ⟨fun hr => ?_, fun hr hw => ?_⟩
  · exact he.trans (congrArg Host.Outcome.next (takeLane_refuses ht hn fun p q => (guarded_gate hread).1 hr))
  · exact he.trans (congrArg Host.Outcome.next (takeLane_refuses ht hn fun p q =>
      (guarded_gate hread).2 hr (decide_eq_true hw)))

theorem isSome_eq_decide {o : Option β} {p : Prop} [Decidable p] (hp : o.isSome = true ↔ p) : o.isSome = decide p :=
  Bool.eq_iff_iff.mpr (hp.trans decide_eq_true_iff.symm)

end

theorem within_byte {lo : Nat} {b : Byte} : Within lo 255 b.toNat ↔ lo ≤ b.toNat :=
  and_iff_left (Nat.le_of_lt_succ b.isLt)

theorem within_zero {hi k : Nat} : Within 0 hi k ↔ k ≤ hi := and_iff_right (Nat.zero_le k)

theorem gate_readable {r : Bool} (hc : recordType c = some (h, t)) (hr : readable c = some r) (ht : s.takes h t) :
    GateAnswers s h c r := by
  cases c with
  | vehicleWrite _ b =>
    cases hc
    cases hr
    exact gate_site ht rfl fun _ => isSome_eq_decide vehicleFields_isSome
  | accountWrite _ b =>
    cases hc
    cases hr
    exact gate_site ht rfl fun _ => isSome_eq_decide accountFields_isSome
  | accountPeriodReset _ b =>
    cases hc
    cases hr
    exact gate_site ht rfl fun _ => isSome_eq_decide periodAccounts_isSome
  | ticketsRelease _ b =>
    cases hc
    cases hr
    exact gate_site ht rfl fun _ => isSome_eq_decide ticketOf_isSome
  | ticketsReprint _ b =>
    cases hc
    cases hr
    exact gate_site ht rfl fun _ => isSome_eq_decide reprintFields_isSome
  | stock _ b =>
    cases hc
    cases hr
    exact gate_site ht rfl fun _ => isSome_eq_decide (stockFields_isSome.trans (and_congr_right' within_zero))
  | setupSlotPlan _ b =>
    cases hc
    cases hr
    exact gate_site ht rfl fun _ => isSome_eq_decide planFields_isSome
  | setupWaitingList _ b =>
    cases hc
    cases hr
    exact gate_site ht rfl fun _ => isSome_eq_decide (listFields_isSome.trans (and_congr_right' within_byte))
  | setupVehicleTable _ b =>
    cases hc
    cases hr
    exact gate_site ht rfl fun _ => isSome_eq_decide (vehicleTableFields_isSome.trans (by
      rw [within_zero, within_zero, within_zero]
      tauto))
  | setupClass _ b =>
    cases hc
    cases hr
    exact gate_site ht rfl fun _ => isSome_eq_decide (classFields_isSome.trans (by rw [within_zero, within_zero]))
  | setupStream _ b =>
    cases hc
    cases hr
    exact gate_site ht rfl fun _ => isSome_eq_decide (streamFields_isSome.trans (by
      rw [within_zero]
      tauto))
  | setupAdmission _ b =>
    cases hc
    cases hr
    exact gate_site ht rfl fun _ => isSome_eq_decide admissionFields_isSome
  | setupLink _ b =>
    cases hc
    cases hr
    exact gate_site ht rfl fun _ => isSome_eq_decide linkFields_isSome
  | vehicleDelete _ b =>
    cases hc
    cases hr
    exact gate_site ht rfl fun _ => rfl
  | setupSupply _ b _ =>
    cases hc
    cases hr
    exact gate_site ht rfl fun _ => isSome_eq_decide warnLevelOf_isSome
  | setupDeckCells _ b =>
    cases hc
    cases hr
    exact gate_lane ht rfl fun _ => isSome_eq_decide ranged_isSome
  | setupDeckFilter _ b =>
    cases hc
    cases hr
    exact gate_lane ht rfl fun _ => isSome_eq_decide depthOf_isSome
  | setupDeckSettling _ b =>
    cases hc
    cases hr
    exact gate_lane ht rfl fun _ => isSome_eq_decide (settlingFields_isSome.trans (by
      rw [within_byte, within_byte, within_byte, within_byte]))
  | setupPartAge _ b =>
    cases hc
    cases hr
    exact gate_lane ht rfl fun _ => isSome_eq_decide ranged_isSome
  | setupLoop _ b =>
    cases hc
    cases hr
    exact gate_lane ht rfl fun _ => isSome_eq_decide (loopFields_isSome.trans (by
      rw [within_zero]
      tauto))
  | setupBarrier _ b =>
    cases hc
    cases hr
    exact gate_lane ht rfl fun _ => isSome_eq_decide (barrierFields_isSome.trans (by
      rw [within_byte, within_byte, within_byte]))
  | setupLanePolicy _ b =>
    cases hc
    cases hr
    exact gate_lane ht rfl fun _ => isSome_eq_decide policyFields_isSome
  | setupPrinter _ b =>
    cases hc
    cases hr
    exact gate_lane ht rfl fun _ => isSome_eq_decide printerFields_isSome
  | setupOccupancyLevel _ b =>
    cases hc
    cases hr
    exact gate_lane ht rfl fun _ => rfl
  | _ => cases hr

/-- Settles O44: the one gate of the records, then the guard of the tables and settings. -/
theorem recordsAreGated : Obligations.RecordsAreGated := by
  intro c h t s hc listening
  have hlistening : s.listening = true ↔ listening := listening_iff
  have hgated := exec_gated (s := s) hc
  refine ⟨fun hdeaf => ?_, fun hl hs => ?_, fun hl hs hwrong => ?_, fun ht hr => (gate_readable hc hr ht).1 rfl,
    fun ht hr => (gate_readable hc hr ht).2 rfl⟩
  · have hno : ¬s.listening = true := fun hh => hdeaf (hlistening.mp hh)
    rcases hgated with ⟨act, hact⟩ | ⟨act, hact⟩
    · rw [hact, takeRecord_deaf hno]
    · rw [hact, takeRead_deaf hno]
  · have hyes := hlistening.mpr hl
    rcases hgated with ⟨act, hact⟩ | ⟨act, hact⟩
    · rw [hact, takeRecord_noPlace hyes hs]
      exact congrArg Host.Outcome.next receive_readState
    · rw [hact, takeRead_noPlace hyes hs]
      exact congrArg Host.Outcome.next receive_readState
  · obtain ⟨hheld, hport⟩ := hl
    rcases hgated with ⟨act, hact⟩ | ⟨act, hact⟩
    · rw [hact, takeRecord_wrong hheld hport hs hwrong, receive_refused]
    · rw [hact, takeRead_wrong hheld hport hs hwrong, receive_refused]

end Sys2Proof.Proofs
end

section
/-! O57: transmissions, headers, damaged records and TURN at the link port (R185 to R196, R212). -/

namespace Sys2Proof.Proofs
open Sys2Proof Sys2Proof.Machine

variable {s : State} {h : RecHead}

/-- Errors noted, and answered by ERRORS where there are errors and room. -/
def notedPort (q : LinkPort) (e : LinkErrors) : LinkPort :=
  if q.errors.union e ≠ LinkErrors.none ∧ repliesSize q.replies + 12 ≤ 4096 then
    { q with errors := LinkErrors.none, replies := q.replies ++ [.errors (q.errors.union e)] }
  else { q with errors := q.errors.union e }

theorem hasPlace_iff (q : LinkPort) : q.hasPlace = true ↔ repliesSize q.replies + 12 ≤ 4096 := by
  show decide (8 ≤ 4096 - 4 - repliesSize q.replies) = true ↔ _
  rw [decide_eq_true_eq]
  omega

theorem note_flush (q : LinkPort) (e : LinkErrors) :
    (if (q.note e).hasPlace then (q.note e).flush else q.note e) = notedPort q e := by
  have hplace : (q.note e).hasPlace = true ↔ repliesSize q.replies + 12 ≤ 4096 := hasPlace_iff _
  have hempty : (q.note e).errors.isEmpty = true ↔ q.errors.union e = LinkErrors.none := isEmpty_iff _
  unfold notedPort
  by_cases hroom : repliesSize q.replies + 12 ≤ 4096
  · rw [if_pos (hplace.mpr hroom), LinkPort.flush]
    by_cases hnone : q.errors.union e = LinkErrors.none
    · rw [if_pos (hempty.mpr hnone), if_neg fun hh => hh.1 hnone]
      rfl
    · rw [if_neg fun hh => hnone (hempty.mp hh), if_pos ⟨hnone, hroom⟩]
      rfl
  · rw [if_neg fun hh => hroom (hplace.mp hh), if_neg fun hh => hroom hh.2]
    rfl

/-- A transmission ended: sent where the turn was given, and else done with. -/
def endedPort (held : Nat) (q : LinkPort) : LinkPort :=
  if q.turn then { q with replies := q.replies ++ [.finish held], port := .sending, turn := false }
  else { q with port := .waiting, replies := [], errors := q.errors.union (carriedErrors q.replies) }

theorem endTransmission_eq : s.endTransmission = { s with link := endedPort s.events.queue.length s.link } := by
  unfold State.endTransmission endedPort
  split <;> rfl

theorem cutShort_eq (m : HeaderMarks) :
    s.cutShort m = { s with link := notedPort s.link { markErrors m with cutShort := true } } :=
  congrArg (fun q => { s with link := q }) (note_flush ..)

theorem gapEnds_cut (m : HeaderMarks) (hport : s.link.port = .receiving ∨ s.link.port = .waiting) :
    s.gapEnds (some m) = { s with
      link := endedPort s.events.queue.length (notedPort s.link { markErrors m with cutShort := true }) } := by
  have hends : (s.cutShort m).endTransmission = { s with
      link := endedPort s.events.queue.length (notedPort s.link { markErrors m with cutShort := true }) } := by
    rw [endTransmission_eq, cutShort_eq]
  unfold State.gapEnds
  rcases hport with hport | hport
  all_goals
    rw [hport]
    exact hends

theorem takeHeaderBad_eq (e : LinkErrors) : s.takeHeaderBad e = if s.listening = true then
    { s with link := notedPort { s.link with port := .discarding, turn := true } e } else s := by
  unfold State.takeHeaderBad
  split
  · exact congrArg (fun q => { s with link := q }) (note_flush ..)
  · rfl

theorem takeDamaged_eq (e : LinkErrors) (turn : Bool) : s.takeDamaged e turn = if s.listening = true then
    { s with link := notedPort { s.link with port := .receiving, turn := s.link.turn || turn } e } else s := by
  unfold State.takeDamaged
  split
  · exact congrArg (fun q => { s with link := q }) (note_flush ..)
  · rfl

theorem takeTurn_eq : s.takeTurn h = if s.listening = true then
    { s.heard with
      link := notedPort { s.link with port := .receiving, turn := true, live := true, silence := 0, lostDue := false }
        (correctedOnly h.corrected) }
    else s := by
  have hflush : ∀ x : State, (if x.link.hasPlace then x.modLink LinkPort.flush else x)
      = { x with link := if x.link.hasPlace then x.link.flush else x.link } := fun x => by split <;> rfl
  unfold State.takeTurn
  split
  · dsimp only
    rw [hflush, receive_eq]
    exact congrArg (fun q => { s.heard with link := q }) (note_flush
      { s.link with port := .receiving, turn := true, live := true, silence := 0, lostDue := false } _)
  · rfl

/-- Settles O57: each event of the port by what it does to the port. -/
theorem linkPortServed : Obligations.LinkPortServed := by
  intro s hheld p port noted ended marks listening
  have hnoted : ∀ q e, notedPort q e = noted q e := fun _ _ => rfl
  have hlistening : s.listening = true ↔ listening := listening_iff.trans (and_iff_right hheld)
  have hrun : ∀ t, s.whileRunning t = t := whileRunning_of_running hheld
  refine ⟨fun c => ?_, ?_, fun f => ?_, fun corrected sum kind chan turn => ?_, fun h t ht => ?_, fun h => ?_, ?_⟩
  · have hexec : exec (.transmissionEnd c) s = .next (s.gapEnds c) := congrArg Host.Outcome.next (hrun _)
    rw [hexec]
    cases hport : p.port with
    | receiving =>
      cases c with
      | some m => exact congrArg Host.Outcome.next (gapEnds_cut m (.inl hport))
      | none =>
        refine congrArg Host.Outcome.next ?_
        unfold State.gapEnds
        rw [show s.link.port = .receiving from hport]
        exact endTransmission_eq
    | waiting =>
      cases c with
      | some m => exact congrArg Host.Outcome.next (gapEnds_cut m (.inr hport))
      | none =>
        unfold State.gapEnds
        rw [show s.link.port = .waiting from hport]
    | discarding =>
      refine congrArg Host.Outcome.next ?_
      unfold State.gapEnds
      rw [show s.link.port = .discarding from hport]
      exact endTransmission_eq
    | awaitIdle =>
      unfold State.gapEnds
      rw [show s.link.port = .awaitIdle from hport]
    | sending =>
      unfold State.gapEnds
      rw [show s.link.port = .sending from hport]
  · have hexec : exec .replyComplete s = .next s.replyEnds := congrArg Host.Outcome.next (hrun _)
    rw [hexec, State.replyEnds]
    by_cases hsending : p.port = .sending
    · rw [if_pos hsending, if_pos (show s.link.port = .sending from hsending)]
      refine congrArg Host.Outcome.next ?_
      dsimp only
      cases hreset : s.link.resetAll with
      | true => rfl
      | false =>
        rw [if_neg Bool.false_ne_true, if_neg Bool.false_ne_true, ← hheld]
        rfl
    · rw [if_neg hsending, if_neg (show ¬s.link.port = .sending from hsending)]
  · refine (congrArg Host.Outcome.next (takeHeaderBad_eq _)).trans ((apply_ite Host.Outcome.next ..).trans ?_)
    refine if_congr hlistening ?_ rfl
    cases f <;> rfl
  · refine (congrArg Host.Outcome.next (takeDamaged_eq ..)).trans ((apply_ite Host.Outcome.next ..).trans ?_)
    exact if_congr hlistening rfl rfl
  · exact congrArg Host.Outcome.next ((takeRecord_takes ht).trans (receive_refused _))
  · refine (congrArg Host.Outcome.next takeTurn_eq).trans ((apply_ite Host.Outcome.next ..).trans ?_)
    exact if_congr hlistening rfl rfl
  · have hexec : exec .idleGapAtRelease s
        = .next { s with link := { p with port := if p.port = .awaitIdle then .waiting else p.port } } :=
      congrArg Host.Outcome.next (hrun _)
    rw [hexec]
    by_cases hawait : p.port = .awaitIdle
    · rw [if_pos hawait, if_pos hawait]
    · rw [if_neg hawait, if_neg hawait]

end Sys2Proof.Proofs
end

section
/-! O43: the close of a visit (R158 to R170, R181). -/

namespace Sys2Proof.Proofs
open Sys2Proof Sys2Proof.Machine

variable {s u : State} {n : Lane} {v : Visit}

/-! ### What a close writes -/

/-- The entries of a vehicle with a learned tare, or as they were. -/
def learnedVehicles (t : Token) (kg : Option Nat) (now : SiteTime) (vs : List Vehicle) : List Vehicle :=
  vs.map fun x => if x.token = t then { x with tare := (kg.map fun k => ⟨k, .learned, now⟩).or x.tare } else x

theorem learnedVehicles_none (t : Token) (now : SiteTime) (vs : List Vehicle) : learnedVehicles t none now vs = vs :=
  (List.map_congr_left fun _ _ => ite_self _).trans (List.map_id' vs)

theorem storeTare_eq (t : Token) (kg : Option Nat) (r : Retained) : (s.storing r).storeTare t kg =
    s.storing { r with ident := { r.ident with vehicles := learnedVehicles t kg s.now r.ident.vehicles } } := by
  cases kg with
  | none => rw [learnedVehicles_none]; rfl
  | some k => rfl

/-- Retained memory after the close of a visit, its ticket unprinted. -/
def closeRetained (s : State) (v : Visit) : Retained :=
  { s.ret with
    traffic := { s.ret.traffic with
      visits := dropVisit v.number s.ret.traffic.visits
      streams := s.ret.traffic.streams.set v.stream (closedTotals v (s.streamTotals v.stream))
      accepted := closedAccepted v s.ret.traffic.accepted }
    ident := { s.ret.ident with
      accounts := s.ret.ident.accounts.set v.account (closedAccount v (s.account v.account))
      vehicles := learnedVehicles v.token (s.learnedTare v) s.now s.ret.ident.vehicles }
    tickets := { journal := s.ret.tickets.journal ++ [s.ticketFor v], counter := nextTicket s.ret.tickets.counter } }

theorem closeUpdate_eq : s.closeUpdate v = s.storing (closeRetained s v) :=
  storeTare_eq v.token (s.learnedTare v) { s.ret with
    traffic := { s.ret.traffic with
      visits := dropVisit v.number s.ret.traffic.visits
      streams := s.ret.traffic.streams.set v.stream (closedTotals v (s.streamTotals v.stream))
      accepted := closedAccepted v s.ret.traffic.accepted }
    ident := { s.ret.ident with
      accounts := s.ret.ident.accounts.set v.account (closedAccount v (s.account v.account)) }
    tickets := { journal := s.ret.tickets.journal ++ [s.ticketFor v], counter := nextTicket s.ret.tickets.counter } }

theorem closeWritten_eq : closeWritten s v =
    s.posted (s.levelEvents v.stream (committed (s.streamTotals v.stream))
      (committed (closedTotals v (s.streamTotals v.stream)))) (s.storing (closeRetained s v)) := by
  have hafter : (s.storing (closeRetained s v)).streamTotals v.stream = closedTotals v (s.streamTotals v.stream) :=
    (vector_get_set ..).trans (if_pos rfl)
  rw [closeWritten, closeUpdate_eq, State.judgeLevels, postCrossed_eq, hafter]
  rfl

theorem postLearned_posted {es : List Event} (hnow : u.now = s.now) (t : Token) (kg : Option Nat) :
    (s.posted es u).postLearned t kg
      = s.posted (es ++ kg.toList.map fun k => s.event .tareLearned none (.token t) (.weight k)) u := by
  cases kg with
  | none => rw [Option.toList_none, List.map_nil, List.append_nil]; rfl
  | some k => exact posted_post hnow ..

/-- What a close posts before its print job. -/
def closeEvents (s : State) (n : Lane) (v : Visit) : List Event :=
  s.levelEvents v.stream (committed (s.streamTotals v.stream)) (committed (closedTotals v (s.streamTotals v.stream)))
    ++ ((s.learnedTare v).toList.map fun kg => s.event .tareLearned none (.token v.token) (.weight kg))
    ++ [s.event .visitClosed (some n) (.visit v.number) (.ticket s.ret.tickets.counter)]

theorem closeTold_eq : closeTold s n v = s.posted (closeEvents s n v) (s.storing (closeRetained s v)) := by
  rw [closeTold, closeWritten_eq, postLearned_posted, posted_post]
  · rfl
  all_goals rfl

/-! ### The close job (R181) -/

/-- The print state, its failure, the events and the queue that a close's own job leaves. -/
def closeJob (s : State) (n : Lane) (k : Nat) : PrintState × Option PrintFailure × List Event × List PrintJob :=
  match (s.laneSettings n).printer with
  | none => (.none, none, [], s.printing.queue)
  | some address =>
    if ∃ j ∈ s.printing.queue, j.lane = n ∧ j.copy = false then
      (.failed, some .laneBusy, [s.event .printFailed (some n) (.ticket k) (.notQueued .laneBusy)], s.printing.queue)
    else (.queued, none, [], granted (s.printing.queue ++ [⟨k, n, address, false, .queued⟩]))

/-- A journal with the print fields of one ticket written. -/
def printWritten (k : Nat) (p : PrintState) (f : Option PrintFailure) (js : List Ticket) : List Ticket :=
  js.map fun x => if x.number = k then { x with print := p, failure := f, copies := 0 } else x

theorem closeJobFor_iff : s.closeJobFor n = true ↔ ∃ j ∈ s.printing.queue, j.lane = n ∧ j.copy = false := by
  simp [State.closeJobFor]

theorem queueCloseJob_eq (k : Nat) : s.queueCloseJob n k = s.posted (closeJob s n k).2.2.1
    { s.storing { s.ret with
        tickets := { s.ret.tickets with
          journal := printWritten k (closeJob s n k).1 (closeJob s n k).2.1 s.ret.tickets.journal } } with
      printing := { s.printing with queue := (closeJob s n k).2.2.2 } } := by
  unfold State.queueCloseJob closeJob
  cases (s.laneSettings n).printer with
  | none => rfl
  | some a =>
    dsimp only
    by_cases hbusy : ∃ j ∈ s.printing.queue, j.lane = n ∧ j.copy = false
    · rw [if_pos hbusy, if_pos (closeJobFor_iff.mpr hbusy)]
      rfl
    · rw [if_neg hbusy, if_neg fun hh => hbusy (closeJobFor_iff.mp hh)]
      rfl

/-- The state that a close leaves to its lane. -/
def closeLeft (s : State) (n : Lane) (v : Visit) : State :=
  { s.storing { closeRetained s v with
      tickets := {
        journal := printWritten s.ret.tickets.counter (closeJob s n s.ret.tickets.counter).1
          (closeJob s n s.ret.tickets.counter).2.1 (s.ret.tickets.journal ++ [s.ticketFor v])
        counter := nextTicket s.ret.tickets.counter } } with
    printing := { s.printing with queue := (closeJob s n s.ret.tickets.counter).2.2.2 }
    journalOrder := s.journalOrder.filter fun m => m != n }

theorem closed_eq : closed s n v =
    s.posted (closeEvents s n v ++ (closeJob s n s.ret.tickets.counter).2.2.1) (closeLeft s n v) := by
  have hjob : closeJob (s.posted (closeEvents s n v) (s.storing (closeRetained s v))) n s.ret.tickets.counter
      = closeJob s n s.ret.tickets.counter := rfl
  rw [closed, closeTold_eq, queueCloseJob_eq, hjob]
  refine Eq.trans (b := State.posted (s.posted (closeEvents s n v) (s.storing (closeRetained s v))) _ (closeLeft s n v))
    rfl ?_
  exact posted_of_posts rfl

/-! ### The statement's own terms -/

theorem closedTotals_eq (t : StreamTotals) : closedTotals v t =
    if v.kind = .delivery then { stock := min (t.stock + v.net.getD 0) 4000000000, reserved := t.reserved - v.blocks }
    else { t with stock := t.stock - v.net.getD 0 } := by
  unfold closedTotals
  cases v.kind <;> rfl

theorem closedAccount_eq (a : Account) : closedAccount v a =
    if v.kind = .delivery then
      { a with pending := a.pending - v.estimate, consumed := min (a.consumed + v.net.getD 0) 4000000000 }
    else a := by
  unfold closedAccount
  cases v.kind <;> rfl

theorem closedAccepted_eq (k : Nat) :
    closedAccepted v k = if v.kind = .delivery then min (k + v.net.getD 0) 4000000000 else k := by
  unfold closedAccepted
  cases v.kind <;> rfl

theorem emptyWeighing_eq : emptyWeighing v = if v.kind = .delivery then v.exit.getD v.entry else v.entry := by
  unfold emptyWeighing
  cases v.kind <;> rfl

theorem learnable_iff (t : Option Tare) : learnable t = true ↔ (t.map fun y => y.origin) ≠ some .loaded := by
  cases t with
  | none => simp [learnable]
  | some t => cases ho : t.origin <;> simp [learnable, ho]

theorem learnedTare_eq : s.learnedTare v = (match s.vehicleOf v.token with
    | none => none
    | some x =>
      if (s.cls v.cls).learning = true ∧ (x.tare.map fun y => y.origin) ≠ some .loaded ∧ v.flags.tareDeviation = false then
        some (if v.kind = .delivery then (v.exit.getD v.entry).value else v.entry.value)
      else none) := by
  unfold State.learnedTare
  cases s.vehicleOf v.token with
  | none => rfl
  | some x =>
    dsimp only
    rw [emptyWeighing_eq, apply_ite Weighing.value]
    refine if_congr ?_ rfl rfl
    simp only [Bool.and_eq_true, learnable_iff, Bool.not_eq_true', and_assoc]

theorem ticketFor_flags : s.closedFlags v = { v.flags with
    stockUnderrun := decide (v.kind = .collection ∧ (s.streamTotals v.stream).stock < v.net.getD 0)
    timeUnset := v.flags.timeUnset || s.clock.unset } := by
  rw [State.closedFlags, Bool.decide_and]
  rfl

/-- The end of a close: HELD for its print, or let go. -/
theorem closeVisit_ends : s.closeVisit n v =
    if (s.laneSettings n).printFirst = true ∧ (s.laneSettings n).printer ≠ none then
      s.posted (closeEvents s n v ++ (closeJob s n s.ret.tickets.counter).2.2.1 ++ [s.heldEvent n (s.lane n).visit .print])
        { closeLeft s n v with
          lanes := s.lanes.set n { (s.lane n).heldFor .print with heldTicket := some s.ret.tickets.counter } }
    else State.letGo (s.posted (closeEvents s n v ++ (closeJob s n s.ret.tickets.counter).2.2.1) (closeLeft s n v)) n := by
  have hholds : (closed s n v).printHolds n = true
      ↔ (s.laneSettings n).printFirst = true ∧ (s.laneSettings n).printer ≠ none := by
    rw [closed_eq, State.printHolds, Bool.and_eq_true, Option.isSome_iff_ne_none]
    rfl
  by_cases hprint : (s.laneSettings n).printFirst = true ∧ (s.laneSettings n).printer ≠ none
  · rw [if_pos hprint, closeVisit_holds (hholds.mpr hprint), closed_eq, enterHeld_of_ne (by nofun)]
    refine Eq.trans (posted_of_posts (s := s)
      (es := closeEvents s n v ++ (closeJob s n s.ret.tickets.counter).2.2.1) ?_) ?_
    · rfl
    · simp only [State.modLane, State.lane, Quad.upd, Quad.get_set_self, quad_set_set]
      rfl
  · rw [if_neg hprint, closeVisit_goes (Bool.eq_false_iff.mpr fun hh => hprint (hholds.mp hh)), closed_eq]

/-! ### CLOSE as a command -/

theorem dueDecision_due {w : Weighing} {i : Identity} {d : Direction} (hst : (s.lane n).state = .weighing)
    (hw : (s.lane n).heldWeighing = some w) (hp : (s.lane n).postponed = false) (hi : (s.lane n).identity = some i)
    (hd : i.direction = d) : s.dueDecision n d = some (w, i) := by
  unfold State.dueDecision
  dsimp only
  rw [hw, hi]
  exact if_pos ⟨hst, hp, hd⟩

theorem dueDecision_none {d : Direction} (h : (s.lane n).state ≠ .weighing ∨ (s.lane n).heldWeighing = none
    ∨ (s.lane n).postponed = true ∨ (s.lane n).identity = none
    ∨ ∀ i, (s.lane n).identity = some i → i.direction ≠ d) : s.dueDecision n d = none := by
  unfold State.dueDecision
  dsimp only
  split
  · next w i hw hi =>
    refine if_neg fun ⟨hst, hp, hd⟩ => ?_
    rcases h with h | h | h | h | h
    · exact h hst
    · rw [hw] at h; cases h
    · rw [hp] at h; cases h
    · rw [hi] at h; cases h
    · exact h i hi hd
  · rfl

theorem overPlated_eq (w : Weighing) : s.overPlated v w = decide (v.kind = .collection
    ∧ ((s.vehicleOf v.token).bind fun x => x.gross).getD (s.cls v.cls).gross < w.value) := by
  rw [State.overPlated, Bool.decide_and]
  rfl

theorem journalFull_false_iff : s.journalFull = false ↔ s.ret.tickets.journal.length < 128 := by
  rw [State.journalFull, decide_eq_false_iff_not, Nat.not_le]
  rfl

theorem heldClose_eq (hv : s.laneVisit n = some v) : s.heldClose n =
    if (s.lane n).state = .held .journal ∧ s.journalOrder.head? = some n ∧ v.state = .heldOut
        ∧ s.ret.tickets.journal.length < 128 ∧ s.power.supply ≠ .warning then s.closeVisit n v
    else s := by
  have hfull : s.journalFull = false ↔ s.ret.tickets.journal.length < 128 := journalFull_false_iff
  unfold State.heldClose
  rw [hv]
  dsimp only
  refine if_congr ?_ rfl rfl
  rw [hfull, State.journalTurn]
  simp only [State.warning, Bool.and_eq_true, decide_eq_true_eq, Bool.not_eq_true', decide_eq_false_iff_not]
  tauto

theorem exitDecision_attaches {w : Weighing} {i : Identity} (hv : s.laneVisit n = some v) (htoken : v.token = i.token)
    (hsite : v.state = .onSite) : s.exitDecision n w i = s.attachExit n w v := by
  unfold State.exitDecision
  rw [show (s.lane n).visit.bind s.visitNumbered = some v from hv]
  dsimp only
  rw [if_neg (not_not.mpr htoken), if_neg (not_not.mpr hsite)]

theorem decides_due {w : Weighing} {i : Identity} {d : Direction} {f : Weighing → Identity → State}
    (hdue : s.dueDecision n d = some (w, i)) (hnormal : s.power.supply ≠ .warning) : s.decides n d f = f w i := by
  rw [State.decides, hdue]
  exact if_neg fun hh => hnormal (of_decide_eq_true hh)

theorem decides_warning {w : Weighing} {i : Identity} {d : Direction} {f : Weighing → Identity → State}
    (hdue : s.dueDecision n d = some (w, i)) (hwarning : s.power.supply = .warning) :
    s.decides n d f = { s with lanes := s.lanes.set n { s.lane n with postponed := true } } := by
  rw [State.decides, hdue]
  exact if_pos (decide_eq_true hwarning)

theorem closesAtOnce_iff {w : Weighing} {i : Identity} : s.closesAtOnce i w v = true ↔ v.token = i.token
    ∧ v.state = .onSite ∧ ¬(v.kind = .collection
      ∧ ((s.vehicleOf v.token).bind fun x => x.gross).getD (s.cls v.cls).gross < w.value)
    ∧ (s.account v.account).approval = false ∧ s.ret.tickets.journal.length < 128 ∧ s.power.supply ≠ .warning := by
  have hfull : s.journalFull = false ↔ s.ret.tickets.journal.length < 128 := journalFull_false_iff
  rw [State.closesAtOnce, overPlated_eq]
  simp only [State.warning, hfull, Bool.and_eq_true, decide_eq_true_eq, Bool.not_eq_true', decide_eq_false_iff_not,
    and_assoc]

/-- Settles O43: the close written out, and the CLOSE that is due. -/
theorem visitIsClosed : Obligations.VisitIsClosed := by
  refine ⟨fun s n v => ?_, fun s n hheld => ?_⟩
  · intro k net left load t after a account learned printer busy queued ticket first events holds u
    have hafter : closedTotals v t = after := closedTotals_eq t
    have hlearned : s.learnedTare v = learned := learnedTare_eq
    have hqueued : closeJob s n k = queued := rfl
    have hticket : s.ticketFor v = ticket := by
      unfold State.ticketFor
      rw [ticketFor_flags]
      rfl
    have hevents : closeEvents s n v ++ (closeJob s n k).2.2.1 = events := by
      unfold closeEvents
      rw [hlearned, show closedTotals v (s.streamTotals v.stream) = after from hafter, hqueued, List.append_assoc _ [_]]
      rfl
    have hleft : closeLeft s n v = u := by
      unfold closeLeft closeRetained
      rw [hlearned, show closedTotals v (s.streamTotals v.stream) = after from hafter, closedAccount_eq, closedAccepted_eq,
        hticket]
      rfl
    rw [closeVisit_ends, hleft, show s.ret.tickets.counter = k from rfl, hevents]
  · intro l room
    have hexec : exec (.close n) s = .next (s.takeClose n) := congrArg Host.Outcome.next (whileRunning_of_running hheld _)
    refine ⟨fun hnone => ?_, fun v hv => ⟨fun w i hst hw hp hi hd => ?_, fun hnot => ?_⟩⟩
    · rw [hexec]
      unfold State.takeClose State.heldClose
      rw [hnone]
      cases s.dueDecision n .exit <;> rfl
    · have hdue := dueDecision_due hst hw hp hi hd
      have htake : s.takeClose n = if s.closesAtOnce i w v then s.attachExit n w v else s := by
        unfold State.takeClose
        rw [hdue, hv]
      rw [hexec, htake, apply_ite Host.Outcome.next]
      by_cases hcloses : s.closesAtOnce i w v = true
      · obtain ⟨htoken, hsite, _, _, _, hnormal⟩ := closesAtOnce_iff.mp hcloses
        rw [if_pos hcloses]
        refine Eq.trans ?_ (if_pos (closesAtOnce_iff.mp hcloses)).symm
        refine congrArg Host.Outcome.next (Eq.symm ((whileRunning_of_running hheld _).trans ?_))
        rw [decides_due hdue hnormal, exitDecision_attaches hv htoken hsite]
      · rw [if_neg hcloses]
        exact (if_neg fun hh => hcloses (closesAtOnce_iff.mpr hh)).symm
    · have hdue : s.dueDecision n .exit = none := by
        refine dueDecision_none ?_
        rcases hnot with h | h | h | h | h
        · exact .inl h
        · exact .inr (.inl h)
        · exact .inr (.inr (.inl h))
        · exact .inr (.inr (.inr (.inl h)))
        · refine .inr (.inr (.inr (.inr fun i hi hd => ?_)))
          rw [show l.identity = some i from hi, Option.map_some, hd] at h
          cases h
      have htake : s.takeClose n = s.heldClose n := by
        unfold State.takeClose
        rw [hdue]
      rw [hexec, htake, heldClose_eq hv]

end Sys2Proof.Proofs
end

section
/-! O42: an exit weighing is attached to every visit of the number, judged for each by its own tare (R154 to R158). Two
visits of one number, which `VisitIsClosed` and its fellows rule out by `VisitsAccounted` and this statement does not,
are then judged apart. -/

namespace Sys2Proof.Proofs
open Sys2Proof Sys2Proof.Machine

/-- A weighing of so many kilograms at a lane. -/
def oneWeighing (n : Lane) (kg : Nat) : Weighing := ⟨kg, n, 0, [], false⟩

/-- An ON_SITE visit of vehicle 10 under number 7, billed to an account that asks for approval. -/
def siteVisit (k : Kind) : Visit where
  number := 7
  token := 10
  account := 0
  cls := 2
  stream := 2
  kind := k
  state := .onSite
  entryLane := .one
  exitLane := none
  entry := oneWeighing .one 11200
  exit := none
  estimate := 0
  blocks := 0
  net := none
  flags := ⟨false, false, false, false, false, false, false⟩
  timer := 0
  approvalDue := false

/-- A collection and a delivery open under one number, the vehicle's tare of 9,500 kg far from the 26,000 kg with which
it stands at the exit. -/
def sharedNumber : State :=
  ((((State.reset.modPower fun p => { p with held := none, supply := .normal }).modTraffic fun t =>
    { t with visits := [siteVisit .collection, siteVisit .delivery] }).modIdent fun i =>
    { i with vehicles := [⟨10, 0, 2, .delivery, none, none, some ⟨9500, .loaded, 0⟩, none, false, .loaded, 0⟩] }).modLane
    .four fun l =>
      { l with
        state := .weighing, identity := some ⟨10, .exit, none, none, .deckReader⟩, visit := some 7
        heldWeighing := some (oneWeighing .four 26000) })

/-- Which of the visits are marked as weighed off their tare. -/
def tareMarks (o : Host.Outcome State Fault Refusal) : Option (List Bool) :=
  match o with
  | .next s => some (s.ret.traffic.visits.map fun v => v.flags.tareDeviation)
  | _ => none

/-- The model marks the delivery, which is the second of the two. -/
theorem tareMarks_sharedNumber : tareMarks (exec (.exitProcedure .four) sharedNumber) = some [false, true] := by decide

/-- Refutes O42: the statement judges every visit of the number by the kind of the first, a collection, and so marks
none of `sharedNumber`, while the model marks the delivery. -/
theorem not_vehicleLeaves : ¬ Obligations.VehicleLeaves := by
  unfold Obligations.VehicleLeaves
  intro h
  obtain ⟨-, -, hfound⟩ := h sharedNumber .four (oneWeighing .four 26000) ⟨10, .exit, none, none, .deckReader⟩
    (by decide) (by decide) (by decide) (by decide) (by decide) rfl
  obtain ⟨-, -, hleft⟩ := hfound (siteVisit .collection) (by decide) (by decide)
  have hmarks := congrArg tareMarks (hleft (by decide) (by decide))
  rw [tareMarks_sharedNumber] at hmarks
  exact absurd hmarks (by decide)

end Sys2Proof.Proofs
end

section
/-! O41: the admission procedure (R141 to R148), its items and what an admission writes. -/

namespace Sys2Proof.Proofs
open Sys2Proof Sys2Proof.Machine

variable {s u : State} {n : Lane} {v : Vehicle}

/-! ### The visit's number (R141) -/

/-- The number after another, 65,535 coming before 1. -/
def upNumber (c : Nat) : Nat := if c = 65535 then 1 else c + 1

theorem upNumber_iterate {c : Nat} (hc : c ≤ 65535) (j : Nat) :
    upNumber^[j] c = nextNumber^[j] c ∧ nextNumber^[j] c ≤ 65535 := by
  induction j with
  | zero => exact ⟨rfl, hc⟩
  | succ j ih =>
    obtain ⟨heq, hle⟩ := ih
    rw [Function.iterate_succ_apply', Function.iterate_succ_apply', heq]
    refine ⟨?_, (nextNumber_range _).2⟩
    rw [upNumber, nextNumber, Config.visitNumberMax]
    exact if_congr (by omega) rfl rfl

theorem takesNumber_nextVisit (hlen : s.ret.traffic.visits.length ≤ 64) (hcounter : s.ret.traffic.counter ≤ 65535) :
    s.takesNumber s.nextVisit := by
  obtain ⟨j, -, heq, hbefore⟩ := freeNumber_eq_iterate s.ret.traffic.visits (Config.visitMax + 1)
    (nextNumber s.ret.traffic.counter)
  have hnext (i : Nat) : upNumber^[i + 1] s.ret.traffic.counter = nextNumber^[i] (nextNumber s.ret.traffic.counter) :=
    (upNumber_iterate hcounter (i + 1)).1
  refine ⟨j, heq.trans (hnext j).symm, fun i hi => ?_, fun ⟨x, hx, hnum⟩ => (nextVisit_fresh hlen).2 x hx hnum⟩
  obtain ⟨x, hx, hnum⟩ := hbefore i hi
  exact ⟨x, hx, hnum.trans (hnext i).symm⟩

/-! ### The items of the admission (R142 to R146) -/

theorem maskAllows_eq : (!maskAllows v n) = true ↔ (v.mask.map fun m => m.get n) = some false := by
  rw [maskAllows]
  cases v.mask with
  | none => simp
  | some m => simp

theorem streamFor_eq (o : Option (Fin 8)) : s.streamFor v o = o.or (v.stream.or (s.account v.account).stream) := by
  unfold State.streamFor
  cases o with
  | some k => rfl
  | none => cases v.stream <;> rfl

/-- Items 2 to 7 without a stream to go to. -/
theorem itemsTwoToSeven_none {o : Option (Fin 8)} (h : s.streamFor v o = none) : s.itemsTwoToSeven n v o =
    if v.barred = true then some .barred
    else if (v.mask.map fun m => m.get n) = some false then some .laneNotPermitted
    else if (s.visitNaming v.token).isSome then some .visitOpen
    else if (s.account v.account).state ≠ .active then some .accountStopped
    else some .noStream := by
  rw [State.itemsTwoToSeven, h]
  simp only [firstFailure, maskAllows_eq, decide_eq_true_eq, Option.isNone_none, if_true]

/-- Items 2 to 7 with a stream. -/
theorem itemsTwoToSeven_some {o : Option (Fin 8)} {k : Fin 8} (h : s.streamFor v o = some k) : s.itemsTwoToSeven n v o =
    if v.barred = true then some .barred
    else if (v.mask.map fun m => m.get n) = some false then some .laneNotPermitted
    else if (s.visitNaming v.token).isSome then some .visitOpen
    else if (s.account v.account).state ≠ .active then some .accountStopped
    else if (s.streamSettings k).state = .closed then some .streamClosed
    else if 64 ≤ s.ret.traffic.visits.length then some .siteFull
    else none := by
  rw [State.itemsTwoToSeven, h, show Config.visitMax = 64 from rfl]
  simp only [firstFailure, maskAllows_eq, decide_eq_true_eq, Option.isNone_some, Bool.false_eq_true, if_false,
    State.streamClosed]

theorem overPermit_eq (b : Nat) : s.overPermit b = true ↔ (s.ret.settings.permitCap.map fun cap =>
    decide (cap < s.ret.traffic.accepted + 500 * s.totalReserved + 500 * b)) = some true := by
  rw [State.overPermit]
  cases s.ret.settings.permitCap with
  | none => simp
  | some cap => simp

theorem overAllowance_eq (a : Fin 256) (e : Nat) : s.overAllowance a e = true ↔
    ∃ lim, (s.account a).allowance = some lim ∧ lim < (s.account a).consumed + (s.account a).pending + e := by
  rw [State.overAllowance]
  cases (s.account a).allowance with
  | none => simp
  | some lim => simp

theorem itemsEightToEleven_eq (kind : Kind) (k : Fin 8) (e b : Nat) : s.itemsEightToEleven v kind k e b =
    if kind = .delivery ∧ 0 < b
        ∧ (s.streamSettings k).capacity < (s.streamTotals k).stock + 500 * ((s.streamTotals k).reserved + b) then
      some .streamCapacity
    else if kind = .delivery ∧ (s.ret.settings.permitCap.map fun cap =>
        decide (cap < s.ret.traffic.accepted + 500 * s.totalReserved + 500 * b)) = some true then some .permitCap
    else if (kind = .delivery ∧ ∃ lim, (s.account v.account).allowance = some lim
          ∧ lim < (s.account v.account).consumed + (s.account v.account).pending + e)
        ∧ (s.account v.account).limitKind = .hard then some .allowance
    else if (s.account v.account).approval = true ∧ s.link.live = false then some .linkLost
    else none := by
  simp only [State.itemsEightToEleven, State.overCapacity, firstFailure, Bool.and_eq_true,
    decide_eq_true_eq, Bool.not_eq_true', overPermit_eq, overAllowance_eq]

/-! ### What an admission writes (R147, R148) -/

/-- The site with a visit opened, the number given with it taken. -/
def opened (s : State) (x : Visit) : Retained :=
  { s.ret with
    traffic := { s.ret.traffic with
      visits := insertVisit x s.ret.traffic.visits, counter := x.number
      streams := s.ret.traffic.streams.set x.stream
        { s.streamTotals x.stream with reserved := (s.streamTotals x.stream).reserved + x.blocks } }
    ident := { s.ret.ident with
      accounts := s.ret.ident.accounts.set x.account
        { s.account x.account with pending := (s.account x.account).pending + x.estimate } } }

/-- The levels that its reservation crosses. -/
def openEvents (s : State) (x : Visit) : List Event :=
  s.levelEvents x.stream (committed (s.streamTotals x.stream))
    ((s.streamTotals x.stream).stock + 500 * ((s.streamTotals x.stream).reserved + x.blocks))

theorem createVisit_eq (x : Visit) : s.createVisit x = s.posted (openEvents s x) (s.storing (opened s x)) := by
  have hafter : (s.storing (opened s x)).streamTotals x.stream
      = { s.streamTotals x.stream with reserved := (s.streamTotals x.stream).reserved + x.blocks } :=
    (vector_get_set ..).trans (if_pos rfl)
  have hlevels : s.createVisit x
      = (s.storing (opened s x)).judgeLevels x.stream (committed (s.streamTotals x.stream)) := rfl
  rw [hlevels, State.judgeLevels, postCrossed_eq, hafter]
  rfl

/-- The lane from which a visit was admitted. -/
def admittedLane (l : LaneSeq) (k : Nat) : LaneSeq := { l with visit := some k, heldWeighing := none, postponed := false }

theorem letIn_approval {w : Weighing} {a : Admitted} (h : a.approval = true) : s.letIn n v w a =
    let x := admittedVisit s.nextVisit n v w a
    s.posted (openEvents s x ++ [s.heldEvent n (some x.number) .approval])
      { s.storing (opened s x) with lanes := s.lanes.set n ((admittedLane (s.lane n) x.number).heldFor .approval) } := by
  unfold State.letIn
  dsimp only
  rw [if_pos h, createVisit_eq, enterHeld_of_ne (by decide)]
  refine Eq.trans (posted_of_posts (s := s) (es := openEvents s (admittedVisit s.nextVisit n v w a)) rfl) ?_
  simp only [State.lane, State.modLane, State.posted, State.storing, Quad.upd, Quad.get_set_self, quad_set_set]
  rfl

theorem letIn_lets_go {w : Weighing} {a : Admitted} (h : a.approval = false) : s.letIn n v w a =
    let x := admittedVisit s.nextVisit n v w a
    State.letGo (s.posted (openEvents s x ++ [s.event .vehicleAdmitted (some n) (.visit x.number) (.blocks x.blocks)])
      { s.storing (opened s x) with lanes := s.lanes.set n (admittedLane (s.lane n) x.number) }) n := by
  unfold State.letIn
  dsimp only
  rw [if_neg (by rw [h]; nofun), createVisit_eq]
  exact congrArg (State.letGo · n) (posted_post (s := s)
    (u := { s.storing (opened s (admittedVisit s.nextVisit n v w a)) with
      lanes := s.lanes.set n (admittedLane (s.lane n) s.nextVisit) }) rfl ..)

theorem refuse_eq (t : Token) (r : Reason) : s.refuse n t r = s.posted [s.refusal n t r] (s.enterRefused n r) :=
  posted_enterRefused (s := s) (es := [s.refusal n t r]) (u := s)

/-- An admission with a stream is refused by its items, or lets the vehicle in. -/
theorem concludeEntry_none {w : Weighing} {i : Identity} {r : Reason} (hs : s.streamFor v i.stream = none)
    (h : s.itemsTwoToSeven n v i.stream = some r) : s.concludeEntry n v w i = s.refuse n i.token r := by
  rw [State.concludeEntry, State.decideEntry, hs, h]

theorem concludeEntry_early {w : Weighing} {i : Identity} {r : Reason}
    (h : s.itemsTwoToSeven n v i.stream = some r) : s.concludeEntry n v w i = s.refuse n i.token r := by
  rw [State.concludeEntry, State.decideEntry, h]

/-- What the admission procedure finds for a vehicle that passes items 2 to 7. -/
def admitted (s : State) (v : Vehicle) (w : Weighing) (i : Identity) (k : Fin 8) : Admitted :=
  let kind := i.kind.getD v.kind
  let e := if kind = .delivery then w.value - (v.tare.map fun x => x.value).getD (s.cls v.cls).tare else 0
  { stream := k, kind := kind, estimate := e, blocks := ceilDiv e 500
    overweight := decide (kind = .delivery) && decide (s.platedGross v.gross v.cls < w.value)
    exceeded := decide (kind = .delivery) && s.overAllowance v.account e
    approval := (s.account v.account).approval }

theorem estimateTare_eq : s.estimateTare v = (v.tare.map fun x => x.value).getD (s.cls v.cls).tare := by
  rw [State.estimateTare]
  cases v.tare <;> rfl

theorem concludeEntry_late {w : Weighing} {i : Identity} {k : Fin 8} (hs : s.streamFor v i.stream = some k)
    (h : s.itemsTwoToSeven n v i.stream = none) : s.concludeEntry n v w i =
    let a := admitted s v w i k
    match s.itemsEightToEleven v a.kind k a.estimate a.blocks with
    | some r => s.refuse n i.token r
    | none => s.letIn n v w a := by
  rw [State.concludeEntry, State.decideEntry, hs, h, estimateTare_eq]
  dsimp only [admitted]
  cases s.itemsEightToEleven v (i.kind.getD v.kind) k _ (ceilDiv _ 500) <;> rfl

theorem execAdmission_eq {w : Weighing} {i : Identity} (hheld : s.power.held = none)
    (hdue : s.dueDecision n .entry = some (w, i)) (hnormal : s.power.supply ≠ .warning) :
    exec (.admissionProcedure n) s = .next (s.admission n w i) :=
  (congrArg Host.Outcome.next (whileRunning_of_running hheld _)).trans
    (congrArg Host.Outcome.next (decides_due hdue hnormal))

/-- The vehicle of an admission, and the site it is judged in, which differs by the entry made for it alone. -/
theorem admission_resolved {w : Weighing} {i : Identity}
    (h : s.resolve n i.token = .found v ∧ u = s ∨ s.resolve n i.token = .creates v ∧ u = s.createEntry v) :
    s.admission n w i = u.concludeEntry n v w i := by
  rcases h with ⟨h, rfl⟩ | ⟨h, rfl⟩ <;> rw [State.admission, h]

theorem room_of_itemsTwoToSeven {o : Option (Fin 8)} (h : s.itemsTwoToSeven n v o = none) :
    s.ret.traffic.visits.length < 64 := by
  simp only [State.itemsTwoToSeven, firstFailure] at h
  split_ifs at h with _ _ _ _ _ _ hfull
  exact Nat.lt_of_not_le fun hle => hfull (decide_eq_true hle)

/-- The visit of an admission, its estimate and marks written out. -/
theorem admittedVisit_eq {number : Nat} {w : Weighing} {i : Identity} {k : Fin 8} :
    admittedVisit number n v w (admitted s v w i k) =
      let a := s.account v.account
      let load := i.kind.getD v.kind = .delivery
      let e := if load then w.value - (v.tare.map fun x => x.value).getD (s.cls v.cls).tare else 0
      { number := number, token := v.token, account := v.account, cls := v.cls, stream := k, kind := i.kind.getD v.kind
        state := if a.approval then .heldIn else .entering
        entryLane := n, exitLane := none, entry := w, exit := none, estimate := e, blocks := (e + 499) / 500, net := none
        flags :=
          { overweightIn := decide (load ∧ v.gross.getD (s.cls v.cls).gross < w.value)
            tareDeviation := false
            allowanceExceeded := decide (load ∧ ∃ lim, a.allowance = some lim ∧ lim < a.consumed + a.pending + e)
            negativeNet := false, stockUnderrun := false, timeUnset := w.unset, approvedIn := false }
        timer := 0, approvalDue := false } := by
  have hexceeds (p : Prop) [Decidable p] (a : Fin 256) (e : Nat) : (decide p && s.overAllowance a e) = decide (p
      ∧ ∃ lim, (s.account a).allowance = some lim ∧ lim < (s.account a).consumed + (s.account a).pending + e) := by
    rw [Bool.eq_iff_iff, Bool.and_eq_true, decide_eq_true_eq, decide_eq_true_eq, overAllowance_eq]
  have hover : (decide (i.kind.getD v.kind = .delivery) && decide (s.platedGross v.gross v.cls < w.value))
      = decide (i.kind.getD v.kind = .delivery ∧ v.gross.getD (s.cls v.cls).gross < w.value) :=
    (Bool.decide_and ..).symm
  dsimp only [admittedVisit, admitted]
  rw [hexceeds, hover]
  rfl

/-- Settles O41: the items in order, and what lets the vehicle in. -/
theorem vehicleIsAdmitted : Obligations.VehicleIsAdmitted := by
  intro s n w i hheld hst hw hp hi hd hcounter refused
  have hdue := dueDecision_due hst hw hp hi hd
  refine ⟨fun hwarning => ?_, fun r hnormal hr => ?_, fun v u hnormal hu => ?_⟩
  · exact (congrArg Host.Outcome.next (whileRunning_of_running hheld _)).trans
      (congrArg Host.Outcome.next (decides_warning hdue hwarning))
  · rw [execAdmission_eq hheld hdue hnormal, State.admission, hr]
    exact congrArg Host.Outcome.next (refuse_eq ..)
  · intro a stream kind load tare e b early
    have hexec : exec (.admissionProcedure n) s = .next (u.concludeEntry n v w i) := by
      rw [execAdmission_eq hheld hdue hnormal, admission_resolved hu]
    have hrefuse (r : Reason) : u.refuse n i.token r = refused u r := by
      rcases hu with ⟨-, rfl⟩ | ⟨-, rfl⟩ <;> exact refuse_eq ..
    have hstream : u.streamFor v i.stream = stream := by
      rcases hu with ⟨-, rfl⟩ | ⟨-, rfl⟩ <;> exact streamFor_eq _
    have hitems : u.itemsTwoToSeven n v i.stream = s.itemsTwoToSeven n v i.stream := by
      rcases hu with ⟨-, rfl⟩ | ⟨-, rfl⟩ <;> rfl
    have hsame : s.streamFor v i.stream = stream := streamFor_eq _
    have hearly : u.itemsTwoToSeven n v i.stream = early := by
      simp only [early]
      cases hk : stream with
      | none => exact hitems.trans (itemsTwoToSeven_none (hsame.trans hk))
      | some k => exact hitems.trans (itemsTwoToSeven_some (hsame.trans hk))
    rw [hexec]
    refine ⟨fun r hr => ?_, fun k hk hpasses => ?_⟩
    · rw [concludeEntry_early (hearly.trans hr), hrefuse]
    · intro t total past late
      have hlate : u.itemsEightToEleven v kind k e b = late := by
        rcases hu with ⟨-, rfl⟩ | ⟨-, rfl⟩ <;> exact itemsEightToEleven_eq ..
      have hadmitted : admitted u v w i k = admitted s v w i k := by
        rcases hu with ⟨-, rfl⟩ | ⟨-, rfl⟩ <;> rfl
      have hconclude := concludeEntry_late (w := w) (hstream.trans hk) (hearly.trans hpasses)
      rw [hadmitted] at hconclude
      dsimp only at hconclude
      rw [show u.itemsEightToEleven v (admitted s v w i k).kind k (admitted s v w i k).estimate
        (admitted s v w i k).blocks = late from hlate] at hconclude
      rw [hconclude]
      refine ⟨fun r hr => ?_, fun hpass => ?_⟩
      · rw [hr]
        exact congrArg Host.Outcome.next (hrefuse r)
      · rw [hpass]
        have hroom := room_of_itemsTwoToSeven (hitems.symm.trans (hearly.trans hpasses))
        refine ⟨s.nextVisit, takesNumber_nextVisit hroom.le hcounter, ?_⟩
        intro visit lane created levels
        have hvisit : admittedVisit u.nextVisit n v w (admitted s v w i k) = visit := by
          have hnumber : u.nextVisit = s.nextVisit := by rcases hu with ⟨-, rfl⟩ | ⟨-, rfl⟩ <;> rfl
          rw [hnumber]
          exact admittedVisit_eq
        have hopened : { u.storing (opened u visit) with lanes := u.lanes.set n (admittedLane (u.lane n) visit.number) }
            = created := by rcases hu with ⟨-, rfl⟩ | ⟨-, rfl⟩ <;> rfl
        have hposted (es : List Event) (x : State) : u.posted es x = s.posted es x := by
          rcases hu with ⟨-, rfl⟩ | ⟨-, rfl⟩ <;> rfl
        have hlevels : openEvents u visit = levels := by rcases hu with ⟨-, rfl⟩ | ⟨-, rfl⟩ <;> rfl
        by_cases hasks : a.approval = true
        · rw [if_pos hasks]
          refine congrArg Host.Outcome.next ((letIn_approval (a := admitted s v w i k) hasks).trans ?_)
          dsimp only
          rw [hvisit, hposted, hlevels, ← hopened]
          rcases hu with ⟨-, rfl⟩ | ⟨-, rfl⟩ <;> rfl
        · rw [if_neg hasks]
          refine congrArg Host.Outcome.next
            ((letIn_lets_go (a := admitted s v w i k) (Bool.eq_false_iff.mpr hasks)).trans ?_)
          dsimp only
          rw [hvisit, hposted, hlevels, hopened]
          rcases hu with ⟨-, rfl⟩ | ⟨-, rfl⟩ <;> rfl

end Sys2Proof.Proofs
end

section
/-! The fields of the table and SETUP records: what each reads, value by value (R126, R133, R204). -/

namespace Sys2Proof.Proofs
open Sys2Proof Sys2Proof.Machine

/-! ### One field -/

section
variable {b : Byte}

theorem ranged_eq_some {lo hi n k : Nat} : ranged lo hi n = some k ↔ n = k ∧ lo ≤ k ∧ k ≤ hi := by
  unfold ranged
  split
  · next h => exact ⟨fun heq => by cases heq; exact ⟨rfl, h⟩, fun ⟨heq, _⟩ => congrArg some heq⟩
  · next h => exact ⟨nofun, fun ⟨heq, hk⟩ => absurd (heq ▸ hk) h⟩

theorem flagOf_eq_some {x : Bool} : flagOf b = some x ↔ b.toNat = if x then 1 else 0 := by
  unfold flagOf
  cases x <;> split <;> simp_all

theorem kindOf_eq_some {x : Kind} : kindOf b = some x ↔ b.toNat = (match x with
    | .delivery => 1
    | .collection => 2) := by
  unfold kindOf
  cases x <;> split <;> simp_all

theorem openStateOf_eq_some {x : OpenState} : openStateOf b = some x ↔ b.toNat = (match x with
    | .opened => 1
    | .closed => 2) := by
  unfold openStateOf
  cases x <;> split <;> simp_all

theorem accountStateOf_eq_some {x : AccountState} : accountStateOf b = some x ↔ b.toNat = (match x with
    | .active => 1
    | .onStop => 2
    | .closed => 3) := by
  unfold accountStateOf
  cases x <;> split <;> simp_all

theorem limitKindOf_eq_some {x : LimitKind} : limitKindOf b = some x ↔ b.toNat = (match x with
    | .hard => 1
    | .soft => 2) := by
  unfold limitKindOf
  cases x <;> split <;> simp_all

theorem dirModeOf_eq_some {x : DirMode} : dirModeOf b = some x ↔ b.toNat = (match x with
    | .inward => 1
    | .outward => 2
    | .both => 3) := by
  unfold dirModeOf
  cases x <;> split <;> simp_all

theorem loopSideOf_eq_some {x : LoopSide} : loopSideOf b = some x ↔ b.toNat = (match x with
    | .entry => 1
    | .clear => 2) := by
  unfold loopSideOf
  cases x <;> split <;> simp_all

theorem classOf_eq_some {k : Fin 16} : classOf b = some k ↔ b.toNat = k.val := by
  unfold classOf
  split
  · simp [Fin.ext_iff]
  · next h => exact ⟨nofun, fun heq => absurd (heq ▸ k.isLt) h⟩

theorem streamOf_eq_some {k : Fin 8} : streamOf b = some k ↔ b.toNat = k.val + 1 := by
  have hk := k.isLt
  unfold streamOf
  split_ifs with h hzero
  · simp [hzero]
  · rw [Option.some.injEq, Fin.ext_iff]
    dsimp only
    omega
  · exact ⟨nofun, fun heq => by omega⟩

theorem optStreamOf_eq_some {o : Option (Fin 8)} :
    optStreamOf b = some o ↔ b.toNat = (o.map fun k => k.val + 1).getD 255 := by
  unfold optStreamOf
  split
  · next h =>
    cases o with
    | none => exact iff_of_true rfl h
    | some k => exact iff_of_false nofun fun hb => by have := k.isLt; simp at hb; omega
  · next h =>
    cases o with
    | none => exact iff_of_false (by simp) h
    | some k => simp [streamOf_eq_some]

theorem accountOf_val : (accountOf b).val = b.toNat := rfl

theorem accountOf_eq {a : Fin 256} : accountOf b = a ↔ a.val = b.toNat := by
  rw [Fin.ext_iff, accountOf_val, eq_comm]

theorem optRanged_eq_some {lo hi : Nat} (hhi : hi < 4294967295) {v : BitVec 32} {o : Option Nat} :
    optRanged lo hi v = some o ↔ v.toNat = o.getD 4294967295 ∧ ∀ a ∈ o, lo ≤ a ∧ a ≤ hi := by
  unfold optRanged
  split
  · next h =>
    cases o with
    | none => exact iff_of_true rfl ⟨h, nofun⟩
    | some k =>
      refine iff_of_false nofun fun ⟨hv, hk⟩ => ?_
      have := (hk k rfl).2
      simp at hv
      omega
  · next h =>
    cases o with
    | none => exact iff_of_false (by simp) fun hv => h hv.1
    | some k => simp [ranged_eq_some]

/-- The number of a lane mask, one bit to a lane. -/
def maskNumber (m : LaneMask) : Nat := (Lane.all.map fun n => if m.get n then 2 ^ (n.number - 1) else 0).sum

theorem maskNumber_reads (m : LaneMask) (hm : m ≠ Quad.fill false) :
    laneMaskOf (BitVec.ofNat 8 (maskNumber m)) = some (some m) ∧ 0 < maskNumber m ∧ maskNumber m < 16 := by
  obtain ⟨x, y, z, w⟩ := m
  revert x y z w
  decide

theorem maskNumber_surjective {k : Nat} (hlo : 0 < k) (hhi : k < 16) :
    ∃ m : LaneMask, m ≠ Quad.fill false ∧ maskNumber m = k := by
  refine ⟨⟨k.testBit 0, k.testBit 1, k.testBit 2, k.testBit 3⟩, ?_⟩
  interval_cases k <;> decide

theorem laneMaskOf_maskNumber {m : LaneMask} (hm : m ≠ Quad.fill false) (hb : b.toNat = maskNumber m) :
    laneMaskOf b = some (some m) := by
  rw [← (maskNumber_reads m hm).1, ← hb, BitVec.ofNat_toNat, BitVec.setWidth_eq]

theorem laneMaskOf_eq_some {o : Option LaneMask} :
    laneMaskOf b = some o ↔ b.toNat = (o.map maskNumber).getD 255 ∧ o ≠ some (Quad.fill false) := by
  constructor
  · intro h
    by_cases hmask : 0 < b.toNat ∧ b.toNat < 16
    · obtain ⟨m, hm, hb⟩ := maskNumber_surjective hmask.1 hmask.2
      rw [laneMaskOf_maskNumber hm hb.symm] at h
      cases h
      exact ⟨hb.symm, fun heq => hm (Option.some.inj heq)⟩
    · unfold laneMaskOf at h
      split_ifs at h with hall hout
      · cases h
        exact ⟨hall, nofun⟩
      · omega
  · rintro ⟨hb, hne⟩
    cases o with
    | none =>
      unfold laneMaskOf
      exact if_pos hb
    | some m => exact laneMaskOf_maskNumber (fun heq => hne (congrArg some heq)) hb

theorem tareChoiceOf_eq_some {v : BitVec 32} {x : TareChoice} : tareChoiceOf b v = some x ↔ (match x with
    | .value kg => b = 1 ∧ v.toNat = kg ∧ kg ≤ 150000
    | .absent => b = 2
    | .keep => b = 3) := by
  have hb (k : Nat) (hk : k < 256) : b.toNat = k ↔ b = BitVec.ofNat 8 k := by
    rw [← BitVec.toNat_inj, BitVec.toNat_ofNat, Nat.mod_eq_of_lt hk]
  unfold tareChoiceOf
  split
  · next h =>
    rw [hb 1 (by decide)] at h
    subst h
    cases x <;> simp [ranged_eq_some]
  · next h =>
    rw [hb 2 (by decide)] at h
    subst h
    cases x <;> simp
  · next h =>
    rw [hb 3 (by decide)] at h
    subst h
    cases x <;> simp
  · next h1 h2 h3 =>
    have h1 : ¬b = 1#8 := fun hh => h1 (congrArg BitVec.toNat hh)
    have h2 : ¬b = 2#8 := fun hh => h2 (congrArg BitVec.toNat hh)
    have h3 : ¬b = 3#8 := fun hh => h3 (congrArg BitVec.toNat hh)
    cases x <;> simp [h1, h2, h3]

theorem ofNumber_eq_some {k : Nat} {n : Lane} : Lane.ofNumber k = some n ↔ k = n.number := by
  unfold Lane.ofNumber
  cases n <;> split <;> simp_all [Lane.number]

end

/-! ### The fields of an item -/

theorem vehicleFields_eq_some {i : VehicleItem} {f : VehicleFields} : vehicleFields i = some f ↔
    f.token = i.token ∧ accountOf i.account = f.account ∧ classOf i.cls = some f.cls ∧ kindOf i.kind = some f.kind
      ∧ optStreamOf i.stream = some f.stream ∧ optRanged 1 150000 i.gross = some f.gross
      ∧ laneMaskOf i.mask = some f.mask ∧ flagOf i.barred = some f.barred
      ∧ tareChoiceOf i.tareChoice i.tare = some f.tare := by
  simp only [vehicleFields, Option.bind_eq_bind, Option.bind_eq_some_iff, Option.some.injEq]
  constructor
  · rintro ⟨_, hcls, _, hkind, _, hstream, _, hgross, _, hmask, _, hbarred, _, htare, rfl⟩
    exact ⟨rfl, rfl, hcls, hkind, hstream, hgross, hmask, hbarred, htare⟩
  · rintro ⟨htoken, haccount, hcls, hkind, hstream, hgross, hmask, hbarred, htare⟩
    refine ⟨_, hcls, _, hkind, _, hstream, _, hgross, _, hmask, _, hbarred, _, htare, ?_⟩
    rw [← htoken, haccount]

theorem accountFields_eq_some {i : AccountItem} {f : AccountFields} : accountFields i = some f ↔
    accountOf i.account = f.account ∧ accountStateOf i.state = some f.state
      ∧ optRanged 1 4000000000 i.allowance = some f.allowance ∧ limitKindOf i.limitKind = some f.limitKind
      ∧ flagOf i.approval = some f.approval ∧ optStreamOf i.stream = some f.stream := by
  simp only [accountFields, Option.bind_eq_bind, Option.bind_eq_some_iff, Option.some.injEq]
  constructor
  · rintro ⟨_, hstate, _, hallowance, _, hkind, _, happroval, _, hstream, rfl⟩
    exact ⟨rfl, hstate, hallowance, hkind, happroval, hstream⟩
  · rintro ⟨haccount, hstate, hallowance, hkind, happroval, hstream⟩
    refine ⟨_, hstate, _, hallowance, _, hkind, _, happroval, _, hstream, ?_⟩
    rw [haccount]

theorem classFields_eq_some {i : ClassItem} {k : Fin 16} {x : ClassEntry} : classFields i = some (k, x) ↔
    classOf i.cls = some k ∧ ranged 1 4 i.parts.toNat = some x.parts ∧ ranged 0 150000 i.tare.toNat = some x.tare
      ∧ ranged 1 150000 i.gross.toNat = some x.gross ∧ ranged 0 10000 i.tolerance.toNat = some x.tolerance
      ∧ flagOf i.learning = some x.learning := by
  simp only [classFields, Option.bind_eq_bind, Option.bind_eq_some_iff, Option.some.injEq, Prod.mk.injEq]
  constructor
  · rintro ⟨_, hcls, _, hparts, _, htare, _, hgross, _, htolerance, _, hlearning, rfl, rfl⟩
    exact ⟨hcls, hparts, htare, hgross, htolerance, hlearning⟩
  · rintro ⟨hcls, hparts, htare, hgross, htolerance, hlearning⟩
    exact ⟨_, hcls, _, hparts, _, htare, _, hgross, _, htolerance, _, hlearning, rfl, rfl⟩

theorem streamFields_eq_some {i : StreamItem} {k : Fin 8} {x : StreamSettings} : streamFields i = some (k, x) ↔
    streamOf i.stream = some k ∧ ranged 0 5000000 i.capacity.toNat = some x.capacity
      ∧ openStateOf i.state = some x.state ∧ optRanged 1 5000000 i.level1 = some x.levels.one
      ∧ optRanged 1 5000000 i.level2 = some x.levels.two ∧ optRanged 1 5000000 i.level3 = some x.levels.three
      ∧ optRanged 1 5000000 i.level4 = some x.levels.four ∧ x.capacity % 500 = 0 := by
  simp only [streamFields, Option.bind_eq_bind, Option.bind_eq_some_iff, Option.ite_none_right_eq_some,
    Option.some.injEq, Prod.mk.injEq]
  constructor
  · rintro ⟨_, hk, _, hcapacity, _, hstate, _, h1, _, h2, _, h3, _, h4, hwhole, rfl, rfl⟩
    exact ⟨hk, hcapacity, hstate, h1, h2, h3, h4, hwhole⟩
  · rintro ⟨hk, hcapacity, hstate, h1, h2, h3, h4, hwhole⟩
    exact ⟨_, hk, _, hcapacity, _, hstate, _, h1, _, h2, _, h3, _, h4, hwhole, rfl, rfl⟩

theorem policyFields_eq_some {i : PolicyItem} {x : Policy} : policyFields i = some x ↔
    dirModeOf i.direction = some x.direction ∧ flagOf i.admitting = some x.admitUnknown
      ∧ accountOf i.account = x.account ∧ classOf i.cls = some x.cls ∧ optStreamOf i.stream = some x.stream
      ∧ ranged 5 300 i.passTimeout.toNat = some x.passTimeout := by
  simp only [policyFields, Option.bind_eq_bind, Option.bind_eq_some_iff, Option.some.injEq]
  constructor
  · rintro ⟨_, hdirection, _, hadmitting, _, hcls, _, hstream, _, htimeout, rfl⟩
    exact ⟨hdirection, hadmitting, rfl, hcls, hstream, htimeout⟩
  · rintro ⟨hdirection, hadmitting, haccount, hcls, hstream, htimeout⟩
    refine ⟨_, hdirection, _, hadmitting, _, hcls, _, hstream, _, htimeout, ?_⟩
    rw [haccount]

theorem printerFields_eq_some {i : PrinterItem} {o : Option (Fin 8)} {first : Bool} :
    printerFields i = some (o, first) ↔ optStreamOf i.address = some o ∧ flagOf i.printFirst = some first := by
  simp only [printerFields, Option.bind_eq_bind, Option.bind_eq_some_iff, Option.some.injEq, Prod.mk.injEq]
  constructor
  · rintro ⟨_, ho, _, hfirst, rfl, rfl⟩
    exact ⟨ho, hfirst⟩
  · rintro ⟨ho, hfirst⟩
    exact ⟨_, ho, _, hfirst, rfl, rfl⟩

theorem loopFields_eq_some {i : LoopItem} {side : LoopSide} {x : LoopSettings} {relearn : Bool} :
    loopFields i = some (side, x, relearn) ↔ loopSideOf i.loop = some side
      ∧ ranged 10 20000 i.onThr.toNat = some x.onThr ∧ ranged 1 19999 i.offThr.toNat = some x.offThr
      ∧ ranged 0 3600 i.limit.toNat = some x.limit ∧ flagOf i.relearn = some relearn ∧ x.offThr < x.onThr := by
  simp only [loopFields, Option.bind_eq_bind, Option.bind_eq_some_iff, Option.ite_none_right_eq_some,
    Option.some.injEq, Prod.mk.injEq]
  constructor
  · rintro ⟨_, hside, _, hon, _, hoff, _, hlimit, _, hrelearn, hlt, rfl, rfl, rfl⟩
    exact ⟨hside, hon, hoff, hlimit, hrelearn, hlt⟩
  · rintro ⟨hside, hon, hoff, hlimit, hrelearn, hlt⟩
    exact ⟨_, hside, _, hon, _, hoff, _, hlimit, _, hrelearn, hlt, rfl, rfl, rfl⟩

theorem reprintFields_eq_some {i : ReprintItem} {k : Nat} {n : Lane} :
    reprintFields i = some (k, n) ↔ ticketOf i.ticket = some k ∧ Lane.ofNumber i.lane.toNat = some n := by
  simp only [reprintFields, Option.bind_eq_bind, Option.bind_eq_some_iff, Option.some.injEq, Prod.mk.injEq]
  constructor
  · rintro ⟨_, hk, _, hn, rfl, rfl⟩
    exact ⟨hk, hn⟩
  · rintro ⟨hk, hn⟩
    exact ⟨_, hk, _, hn, rfl, rfl⟩

theorem stockFields_eq_some {i : StockItem} {k : Fin 8} {kg : Nat} :
    stockFields i = some (k, kg) ↔ streamOf i.stream = some k ∧ ranged 0 4000000000 i.stock.toNat = some kg := by
  simp only [stockFields, Option.bind_eq_bind, Option.bind_eq_some_iff, Option.some.injEq, Prod.mk.injEq]
  constructor
  · rintro ⟨_, hk, _, hkg, rfl, rfl⟩
    exact ⟨hk, hkg⟩
  · rintro ⟨hk, hkg⟩
    exact ⟨_, hk, _, hkg, rfl, rfl⟩

/-! ### Guarded records taken -/

section
variable {s u : State} {h : RecHead} {n : Lane} {α β : Type} {a : α} {f : β} {read : α → Option β}

theorem takeSite_guarded {act : β → State → State × ResultCode} {code : ResultCode} {es : List Event}
    (ht : s.takes h .site) (hw : s.power.supply ≠ .warning) (hr : read a = some f) (ha : Acts (act f) s code es u) :
    s.takeSite h (State.guarded (.item a) read act) = s.recorded h (.result h.chan code) es u :=
  takeSite_acts ht fun p q => (guarded_ok (s := onPort s p q) hr (decide_eq_false hw)).trans (ha p q)

theorem takeSite_guarded_bad {act : β → State → State × ResultCode} (ht : s.takes h .site) (hr : read a = none) :
    s.takeSite h (State.guarded (.item a) read act) = s.refusedWith h .badArgument :=
  takeSite_refuses ht fun _ _ => guarded_bad (by rw [hr]; rfl)

theorem takeLane_guarded {act : Lane → β → State → State × ResultCode} {code : ResultCode} {es : List Event}
    (ht : s.takes h .lane) (hn : h.chan = .lane n) (hw : s.power.supply ≠ .warning) (hr : read a = some f)
    (ha : Acts (act n f) s code es u) : s.takeLane h (fun n => State.guarded (.item a) read (act n))
      = s.recorded h (.result h.chan code) es u :=
  takeLane_acts ht hn fun p q => (guarded_ok (s := onPort s p q) hr (decide_eq_false hw)).trans (ha p q)

theorem takeLane_guarded_bad {act : Lane → β → State → State × ResultCode} (ht : s.takes h .lane)
    (hn : h.chan = .lane n) (hr : read a = none) :
    s.takeLane h (fun n => State.guarded (.item a) read (act n)) = s.refusedWith h .badArgument :=
  takeLane_refuses ht hn fun _ _ => guarded_bad (by rw [hr]; rfl)

end

end Sys2Proof.Proofs
end

section
/-! O49: the SETUP records of the site (R3, R97, R123, R131, R160, R164, R195, R207). -/

namespace Sys2Proof.Proofs
open Sys2Proof Sys2Proof.Machine

variable {s u : State} {h : RecHead}

/-! ### What the records of the site read -/

theorem planFields_of {v : Vector Byte 16} (hv : ∀ i : Fin 16, (v.get i).toNat ≤ 4) :
    planFields v = some (Vector.ofFn fun i => Lane.ofNumber (v.get i).toNat) := by
  have hsome := planFields_isSome.mpr hv
  unfold planFields at hsome ⊢
  split_ifs at hsome ⊢
  · rfl
  · cases hsome

theorem planFields_none {v : Vector Byte 16} (hv : ¬∀ i : Fin 16, (v.get i).toNat ≤ 4) : planFields v = none :=
  Option.not_isSome_iff_eq_none.mp fun hh => hv (planFields_isSome.mp hh)

theorem forall_lane_iff {p : Lane → Prop} : (∃ n ∈ Lane.all, p n) ↔ p .one ∨ p .two ∨ p .three ∨ p .four := by
  simp [Lane.all]

theorem listFields_eq (i : ListItem) : listFields i =
    if i.age.toNat = 0 ∨ ∃ n ∈ Lane.all, 32 < (i.depths.get n).toNat then none
    else some (i.depths.map fun b => b.toNat, i.age.toNat) := by
  have hall : ((i.depths.map fun b => b.toNat).toList.all fun d => decide (d ≤ 32)) = true
      ↔ ¬∃ n ∈ Lane.all, 32 < (i.depths.get n).toNat := by
    rw [forall_lane_iff]
    simp [Quad.toList, Quad.map, Quad.get]
  have hage : ranged 1 255 i.age.toNat = if i.age.toNat = 0 then none else some i.age.toNat := by
    rw [ranged, ← ite_not]
    exact if_congr (by have := i.age.isLt; omega) rfl rfl
  unfold listFields
  dsimp only
  rw [hage]
  by_cases hd : ∃ n ∈ Lane.all, 32 < (i.depths.get n).toNat
  · rw [if_neg (fun hh => (hall.mp hh) hd), if_pos (.inr hd)]
  · rw [if_pos (hall.mpr hd)]
    by_cases hz : i.age.toNat = 0
    · rw [if_pos hz, if_pos (.inl hz)]
      rfl
    · rw [if_neg hz, if_neg (not_or.mpr ⟨hz, hd⟩)]
      rfl

theorem vehicleTableFields_eq (i : VehicleTableItem) : vehicleTableFields i =
    if 512 < i.learnLimit.toNat ∨ i.learnLimit.toNat % 64 ≠ 0 ∨ 365 < i.provAge.toNat ∨ 8760 < i.tareAge.toNat then none
    else some (i.learnLimit.toNat, i.provAge.toNat, i.tareAge.toNat) := by
  by_cases hbad : 512 < i.learnLimit.toNat ∨ i.learnLimit.toNat % 64 ≠ 0 ∨ 365 < i.provAge.toNat ∨ 8760 < i.tareAge.toNat
  · rw [if_pos hbad, ← Option.not_isSome_iff_eq_none, vehicleTableFields_isSome, within_zero, within_zero, within_zero]
    omega
  · have hreads {hi k : Nat} (hk : k ≤ hi) : ranged 0 hi k = some k := ranged_eq_some.mpr ⟨rfl, Nat.zero_le k, hk⟩
    have hwhole : i.learnLimit.toNat % 64 = 0 := by omega
    rw [if_neg hbad, vehicleTableFields, hreads (by omega), hreads (by omega), hreads (by omega)]
    exact if_pos hwhole

theorem admissionFields_eq (i : AdmissionItem) : admissionFields i =
    if i.cap.toNat = 4294967295 then some (min 600 (max 10 i.timeout.toNat), none)
    else if 1 ≤ i.cap.toNat ∧ i.cap.toNat ≤ 4000000000 then
      some (min 600 (max 10 i.timeout.toNat), some i.cap.toNat)
    else none := by
  have hadmission : admissionFields i
      = (optRanged 1 4000000000 i.cap).map fun o => (min 600 (max 10 i.timeout.toNat), o) := by
    rw [admissionFields, Config.tonnageMax]
    cases optRanged 1 4000000000 i.cap <;> rfl
  rw [hadmission, optRanged, ranged]
  split_ifs <;> rfl

theorem linkFields_eq (i : LinkItem) : linkFields i =
    if 64 ≤ i.replyLimit.toNat ∧ i.replyLimit.toNat ≤ 1024 then some (i.replyLimit.toNat, i.timeout.toNat)
    else none := by
  simp only [linkFields, ranged]
  split_ifs <;> rfl

theorem warnLevelOf_eq (b : Byte) : warnLevelOf b = if b.toNat < 19 ∨ 22 < b.toNat then none else some b.toNat := by
  rw [warnLevelOf, ranged, ← ite_not]
  exact if_congr (by omega) rfl rfl

/-! ### What the rules write -/

theorem settingsSet_acts (f : Settings → Settings) :
    Acts (State.settingsSet f) s .ok [] (s.storing { s.ret with settings := f s.ret.settings }) := fun _ _ => rfl

theorem listsSet_of {f : Quad Nat × Nat} (p : LinkPort) (q : EventQueue) : State.listsSet f (onPort s p q) =
    if 32 < (Lane.all.map fun n => f.1.get n).sum then (onPort s p q, .limit)
    else if ∃ n ∈ Lane.all, f.1.get n < (s.list n).length then (onPort s p q, .inUse)
    else (onPort (s.storing { s.ret with
      settings := { s.ret.settings with
        lanes := Quad.ofFn fun n => { s.laneSettings n with depth := f.1.get n }, listAge := f.2 } }) p q, .ok) := by
  have hany : (Lane.all.any fun n => decide (f.1.get n < ((onPort s p q).list n).length)) = true
      ↔ ∃ n ∈ Lane.all, f.1.get n < (s.list n).length := by
    rw [List.any_eq_true]
    exact exists_congr fun n => and_congr_right' decide_eq_true_iff
  rw [State.listsSet, if_congr hany rfl rfl]
  rfl

theorem warnLevelSet_keeps {mv level : Nat} (hmv : ¬(s.power.supply = .normal ∧ mv < level * 1000)) :
    Acts (State.warnLevelSet mv level) s .ok []
      (s.storing { s.ret with settings := { s.ret.settings with warnLevel := level } }) :=
  fun _ _ => congrArg (·, ResultCode.ok) (if_neg hmv)

/-- A warning level above the supply begins WARNING at once (R207). -/
theorem warnLevelSet_warns {mv level : Nat} (hmv : s.power.supply = .normal ∧ mv < level * 1000) :
    Acts (State.warnLevelSet mv level) s .ok
      (s.event .powerWarning none .none (.warning true) :: Lane.all.filterMap fun n =>
        (s.deck n).op.map fun op => s.event .calAborted (some n) .none (.calAborted op.sub .warning))
      { s.storing { s.ret with settings := { s.ret.settings with warnLevel := level } } with
        power := { s.power with supply := .warning }
        decks := Quad.ofFn fun n => abortedDeck s.now .warning (s.deck n) } := by
  intro p q
  refine congrArg (·, ResultCode.ok) ((if_pos hmv).trans ?_)
  exact posted_abortAll (s := onPort s p q) (es := [s.event .powerWarning none .none (.warning true)])
    (u := onPort { s.storing { s.ret with settings := { s.ret.settings with warnLevel := level } } with
      power := { s.power with supply := .warning } } p q) rfl .warning

/-- Settles O49: what each record reads, and what it writes. -/
theorem siteSettingsWritten : Obligations.SiteSettingsWritten := by
  refine ⟨fun i k x => ?_, fun i k x => ?_, fun s h ht hw => ?_⟩
  · rw [classFields_eq_some, classOf_eq_some, ranged_eq_some, ranged_eq_some, ranged_eq_some, ranged_eq_some,
      flagOf_eq_some]
    simp only [Nat.zero_le, true_and, and_assoc]
  · have hlevel {o : Option Nat} {v : BitVec 32} : optRanged 1 5000000 v = some o ↔
        v.toNat = o.getD 4294967295 ∧ ∀ a ∈ o, 1 ≤ a ∧ a ≤ 5000000 := optRanged_eq_some (by decide)
    rw [streamFields_eq_some, streamOf_eq_some, ranged_eq_some, openStateOf_eq_some, hlevel, hlevel, hlevel, hlevel]
    have hlist (p : Nat → Prop) : (∀ l, some l ∈ x.levels.toList → p l) ↔ (∀ a ∈ x.levels.one, p a)
        ∧ (∀ a ∈ x.levels.two, p a) ∧ (∀ a ∈ x.levels.three, p a) ∧ ∀ a ∈ x.levels.four, p a := by
      simp [Quad.toList, Option.mem_def, or_imp, forall_and, eq_comm]
    rw [hlist]
    simp only [Quad.toList, List.map_cons, List.map_nil, List.cons.injEq, and_true, Nat.zero_le, true_and]
    constructor
    · rintro ⟨hk, ⟨hcapacity, hle⟩, hstate, ⟨h1, r1⟩, ⟨h2, r2⟩, ⟨h3, r3⟩, ⟨h4, r4⟩, hwhole⟩
      exact ⟨hk, hcapacity, hle, hwhole, hstate, ⟨h1, h2, h3, h4⟩, r1, r2, r3, r4⟩
    · rintro ⟨hk, hcapacity, hle, hwhole, hstate, ⟨h1, h2, h3, h4⟩, r1, r2, r3, r4⟩
      exact ⟨hk, ⟨hcapacity, hle⟩, hstate, ⟨h1, r1⟩, ⟨h2, r2⟩, ⟨h3, r3⟩, ⟨h4, r4⟩, hwhole⟩
  · intro c written set bad
    refine ⟨fun v => ?_, fun i => ?_, fun i => ?_, fun i k x hr => ?_, fun i k x hr => ?_, fun i => ?_, fun i => ?_,
      fun b mv => ?_⟩
    · by_cases hv : ∀ i : Fin 16, (v.get i).toNat ≤ 4
      · rw [if_pos hv]
        exact congrArg Host.Outcome.next (takeSite_guarded ht hw (planFields_of hv) (settingsSet_acts _))
      · rw [if_neg hv]
        exact congrArg Host.Outcome.next (takeSite_guarded_bad ht (planFields_none hv))
    · by_cases hbad : i.age.toNat = 0 ∨ ∃ n ∈ Lane.all, 32 < (i.depths.get n).toNat
      · rw [if_pos hbad]
        exact congrArg Host.Outcome.next (takeSite_guarded_bad ht ((listFields_eq i).trans (if_pos hbad)))
      · have hr := (listFields_eq i).trans (if_neg hbad)
        have hdepth (n : Lane) : (i.depths.map fun b => b.toNat).get n = (i.depths.get n).toNat := by cases n <;> rfl
        rw [if_neg hbad]
        by_cases hpool : 32 < (Lane.all.map fun n => (i.depths.get n).toNat).sum
        · rw [if_pos hpool]
          refine congrArg Host.Outcome.next (takeSite_guarded (es := []) (u := s) ht hw hr fun p q => ?_)
          exact (listsSet_of p q).trans (if_pos hpool)
        · rw [if_neg hpool]
          by_cases huse : ∃ n ∈ Lane.all, (i.depths.get n).toNat < (s.list n).length
          · rw [if_pos huse]
            refine congrArg Host.Outcome.next (takeSite_guarded (es := []) (u := s) ht hw hr fun p q => ?_)
            refine (listsSet_of p q).trans ((if_neg hpool).trans (if_pos ?_))
            simpa only [hdepth] using huse
          · rw [if_neg huse]
            refine congrArg Host.Outcome.next (takeSite_guarded ht hw hr fun p q => ?_)
            refine (listsSet_of p q).trans ((if_neg hpool).trans ((if_neg ?_).trans ?_))
            · simpa only [hdepth] using huse
            · rfl
    · by_cases hbad : 512 < i.learnLimit.toNat ∨ i.learnLimit.toNat % 64 ≠ 0 ∨ 365 < i.provAge.toNat
          ∨ 8760 < i.tareAge.toNat
      · rw [if_pos hbad]
        exact congrArg Host.Outcome.next (takeSite_guarded_bad ht ((vehicleTableFields_eq i).trans (if_pos hbad)))
      · have hr := (vehicleTableFields_eq i).trans (if_neg hbad)
        rw [if_neg hbad]
        by_cases huse : i.learnLimit.toNat < s.ret.ident.provisional
        · rw [if_pos huse]
          exact congrArg Host.Outcome.next (takeSite_guarded (es := []) (u := s) ht hw hr fun p q => if_pos huse)
        · rw [if_neg huse]
          exact congrArg Host.Outcome.next (takeSite_guarded ht hw hr fun p q => if_neg huse)
    · exact congrArg Host.Outcome.next (takeSite_guarded ht hw hr (settingsSet_acts _))
    · exact congrArg Host.Outcome.next (takeSite_guarded ht hw hr (settingsSet_acts _))
    · dsimp only
      split_ifs with habsent hcap
      · exact congrArg Host.Outcome.next (takeSite_guarded ht hw
          ((admissionFields_eq i).trans (if_pos habsent)) (settingsSet_acts _))
      · exact congrArg Host.Outcome.next (takeSite_guarded ht hw
          ((admissionFields_eq i).trans ((if_neg habsent).trans (if_pos hcap))) (settingsSet_acts _))
      · exact congrArg Host.Outcome.next (takeSite_guarded_bad ht
          ((admissionFields_eq i).trans ((if_neg habsent).trans (if_neg hcap))))
    · split_ifs with hlimit
      · exact congrArg Host.Outcome.next (takeSite_guarded ht hw
          ((linkFields_eq i).trans (if_pos hlimit)) (settingsSet_acts _))
      · exact congrArg Host.Outcome.next (takeSite_guarded_bad ht ((linkFields_eq i).trans (if_neg hlimit)))
    · refine congrArg Host.Outcome.next ?_
      split_ifs with hbad hwarns
      · exact takeSite_guarded_bad ht ((warnLevelOf_eq b).trans (if_pos hbad))
      · exact takeSite_guarded ht hw ((warnLevelOf_eq b).trans (if_neg hbad)) (warnLevelSet_warns hwarns)
      · exact takeSite_guarded ht hw ((warnLevelOf_eq b).trans (if_neg hbad)) (warnLevelSet_keeps hwarns)

end Sys2Proof.Proofs
end

section
/-! A deck that becomes INVALID or VALID: the deck, its lane and the events, as one change (R13, R14, R64). -/

namespace Sys2Proof.Proofs
open Sys2Proof Sys2Proof.Machine

variable {s u : State} {n : Lane}

/-! ### A deck that becomes INVALID -/

/-- The lane of a deck that has become INVALID. -/
def fallenLane (l : LaneSeq) : LaneSeq :=
  match l.state with
  | .idle => { l with state := .suspended }
  | .weighing => { l with capture := clearedParts l.capture }
  | _ => l

theorem fallenLane_idle {l : LaneSeq} (h : l.state = .idle) : fallenLane l = { l with state := .suspended } := by
  unfold fallenLane
  rw [h]

theorem fallenLane_weighing {l : LaneSeq} (h : l.state = .weighing) :
    fallenLane l = { l with capture := clearedParts l.capture } := by
  unfold fallenLane
  split
  · next hidle => cases h.symm.trans hidle
  · rfl
  · next hno => exact absurd h hno

theorem fallenLane_elsewhere {l : LaneSeq} (hidle : l.state ≠ .idle) (hweighing : l.state ≠ .weighing) :
    fallenLane l = l := by
  unfold fallenLane
  split
  · next h => exact absurd h hidle
  · next h => exact absurd h hweighing
  · rfl

theorem occupancyChanged_elsewhere (hidle : (s.lane n).state ≠ .idle) (hempty : (s.deck n).occupancy ≠ .empty) :
    s.occupancyChanged n = s := by
  unfold State.occupancyChanged
  split
  · next h => exact absurd h hidle
  · next h => exact absurd h hempty
  · next h => exact absurd h hempty
  · next h => exact absurd h hempty
  · rfl

theorem occupancyChanged_idle (hidle : (s.lane n).state = .idle) : s.occupancyChanged n = s.laneSettle n := by
  unfold State.occupancyChanged
  rw [hidle]

/-- An occupancy that leaves EMPTY out changes the deck alone, but in IDLE. -/
theorem setOccupancy_neither (hidle : (s.lane n).state ≠ .idle) : s.setOccupancy n .neither =
    { s with decks := s.decks.set n { s.deck n with occupancy := .neither } } := by
  unfold State.setOccupancy
  split
  · next h => rw [← h]; exact (setDeck_self rfl).symm
  · exact occupancyChanged_elsewhere hidle (by simp [State.deck, State.modDeck])

theorem laneSettle_suspended_of_cause (hst : (s.lane n).state ≠ .idle) (h : s.suspendCause n = true) :
    s.laneSettle n = s := laneSettle_not_idle_of_cause hst h

/-- The deck as it becomes INVALID. -/
def fallenState (s : State) (n : Lane) : State :=
  { s with decks := s.decks.set n (invalidDeck (s.deck n)), lanes := s.lanes.set n (fallenLane (s.lane n)) }

theorem dropParts_elsewhere (h : (s.lane n).state ≠ .weighing) : s.dropParts n = s := if_neg h

theorem dropParts_weighing (h : (s.lane n).state = .weighing) : s.dropParts n =
    s.posted (s.droppedEvents n)
      { s with lanes := s.lanes.set n { s.lane n with capture := clearedParts (s.lane n).capture } } := by
  unfold State.dropParts State.droppedEvents
  dsimp only
  rw [if_pos h]
  split
  · next hparts =>
    rw [if_neg fun hh => hh.2 hparts]
    rfl
  · next hparts =>
    rw [if_pos ⟨h, hparts⟩]
    rfl

theorem droppedEvents_elsewhere (h : (s.lane n).state ≠ .weighing) : s.droppedEvents n = [] := if_neg fun hh => h hh.1

/-- The monitor reset on a deck, as its lane sees it: moved, where a LOCKED deck is being weighed on. -/
theorem setSettling_eq (m : Settling) : s.setSettling n m =
    { s with
      decks := s.decks.set n { s.deck n with settling := m }
      lanes := s.lanes.set n { s.lane n with
        capture := { (s.lane n).capture with
          moved := (s.lane n).capture.moved
            || decide ((s.deck n).settling.state = .locked ∧ m.state ≠ .locked ∧ (s.lane n).state = .weighing) } } } := by
  unfold State.setSettling
  dsimp only
  split
  · next h =>
    rw [decide_eq_true h, Bool.or_true]
    rfl
  · next h =>
    rw [decide_eq_false h, Bool.or_false]
    exact (setLane_self rfl).symm

/-- The deck emptied of its history and reading, its monitor cleared. -/
def clearedDeck (d : Deck) : Deck := { d with history := [], reading := none, settling := clearedSettling }

theorem cleared_eq (hst : (s.lane n).state ≠ .weighing) :
    (s.modDeck n fun d => { d with history := [], reading := none }).setSettling n clearedSettling =
      { s with decks := s.decks.set n (clearedDeck (s.deck n)) } := by
  refine (setSettling_elsewhere (s := s.modDeck n fun d => { d with history := [], reading := none }) hst _).trans ?_
  simp only [State.modDeck, Quad.upd, State.deck, Quad.get_set_self, quad_set_set]
  rfl

theorem cleared_weighing (hst : (s.lane n).state = .weighing) :
    ((s.modDeck n fun d => { d with history := [], reading := none }).setSettling n clearedSettling).dropParts n =
      s.posted (s.droppedEvents n)
        { s with
          decks := s.decks.set n (clearedDeck (s.deck n))
          lanes := s.lanes.set n { s.lane n with capture := clearedParts (s.lane n).capture } } := by
  rw [setSettling_eq, dropParts_weighing]
  · simp only [State.droppedEvents, State.modDeck, Quad.upd, State.deck, State.lane, Quad.get_set_self, quad_set_set]
    rfl
  · simpa [State.lane] using hst

theorem reasons_cleared {ls : Quad LaneSeq} {d : Deck} (hslots : d.noSlots = (s.deck n).noSlots)
    (hsaturated : d.saturated = (s.deck n).saturated) (hexcitation : d.excitation = (s.deck n).excitation) :
    State.reasons { s with decks := s.decks.set n d, lanes := ls } n = s.reasons n := by
  simp only [State.reasons, State.deck, Quad.get_set_self] at *
  rw [hslots, hsaturated, hexcitation]
  rfl

/-- A cause of suspension stays one while the deck's reasons stay what they are. -/
theorem suspendCause_congr (hreasons : u.reasons n = s.reasons n)
    (hbarriers : u.barriers = s.barriers) (hloops : u.loops = s.loops) : u.suspendCause n = s.suspendCause n := by
  simp only [State.suspendCause, State.barrierFaulted, State.deckValid, State.barrier, State.loop, hreasons, hbarriers,
    hloops]
  rfl

theorem suspendCause_deck {ls : Quad LaneSeq} {d : Deck} (hd : d.noSlots = (s.deck n).noSlots
      ∧ d.saturated = (s.deck n).saturated ∧ d.excitation = (s.deck n).excitation) :
    State.suspendCause { s with decks := s.decks.set n d, lanes := ls } n = s.suspendCause n :=
  suspendCause_congr (reasons_cleared hd.1 hd.2.1 hd.2.2) rfl rfl

/-- A lane that is not WEIGHING, as the occupancy of its deck goes. -/
theorem occupancy_falls (hcause : s.suspendCause n = true) (hweighing : (s.lane n).state ≠ .weighing) :
    (s.setOccupancy n .neither).laneSettle n = { s with
      decks := s.decks.set n { s.deck n with occupancy := .neither }
      lanes := s.lanes.set n (fallenLane (s.lane n)) } := by
  have hcauses (ls : Quad LaneSeq) : State.suspendCause
      { s with decks := s.decks.set n { s.deck n with occupancy := .neither }, lanes := ls } n = true :=
    (suspendCause_deck (d := { s.deck n with occupancy := .neither }) ⟨rfl, rfl, rfl⟩).trans hcause
  by_cases hidle : (s.lane n).state = .idle
  · have hfallen := fallenLane_idle hidle
    have hsuspends : State.laneSettle { s with decks := s.decks.set n { s.deck n with occupancy := .neither } } n
        = { s with
          decks := s.decks.set n { s.deck n with occupancy := .neither }
          lanes := s.lanes.set n (fallenLane (s.lane n)) } := by
      rw [hfallen]
      exact laneSettle_idle_of_cause hidle (hcauses s.lanes)
    by_cases hnone : (s.deck n).occupancy = .neither
    · have hsame : { s with decks := s.decks.set n { s.deck n with occupancy := .neither } } = s := by
        rw [← hnone]
        exact setDeck_self rfl
      rw [show s.setOccupancy n .neither = s from if_pos hnone]
      rwa [hsame] at hsuspends
    · have hchanges : s.setOccupancy n .neither
          = State.laneSettle { s with decks := s.decks.set n { s.deck n with occupancy := .neither } } n :=
        (if_neg hnone).trans (occupancyChanged_idle hidle)
      have hstate : (State.lane { s with
          decks := s.decks.set n { s.deck n with occupancy := .neither }
          lanes := s.lanes.set n (fallenLane (s.lane n)) } n).state = .suspended := by
        rw [hfallen]
        simp [State.lane]
      rw [hchanges, hsuspends, laneSettle_not_idle_of_cause (by rw [hstate]; nofun) (hcauses _)]
  · rw [setOccupancy_neither hidle, fallenLane_elsewhere hidle hweighing, laneSettle_not_idle_of_cause
      (s := { s with decks := s.decks.set n { s.deck n with occupancy := .neither } }) hidle
      (hcauses s.lanes)]
    exact (setLane_self (s := { s with decks := s.decks.set n { s.deck n with occupancy := .neither } }) rfl).symm

/-- A deck that becomes INVALID, its lane with it (R13). -/
theorem becomeInvalid_eq (hcause : s.suspendCause n = true) : s.becomeInvalid n =
    s.posted (s.droppedEvents n ++ [s.event .deckInvalid (some n) .none (.reasons (s.reasons n))])
      (fallenState s n) := by
  unfold State.becomeInvalid
  dsimp only
  rw [← posted_post (s := s) (u := fallenState s n) rfl]
  refine congrArg (fun t : State => t.post .deckInvalid (some n) .none (.reasons (s.reasons n))) ?_
  by_cases hw : (s.lane n).state = .weighing
  · have hfallen := fallenLane_weighing hw
    have hstate : ((s.lanes.set n { s.lane n with capture := clearedParts (s.lane n).capture }).get n).state
        = .weighing := by rwa [Quad.get_set_self]
    rw [cleared_weighing hw, setOccupancy_neither, laneSettle_elsewhere]
    · rw [fallenState, hfallen]
      simp only [State.posted, State.deck, Quad.get_set_self, quad_set_set]
      rfl
    all_goals exact fun h => nomatch hstate.symm.trans h
  · have hcleared : State.suspendCause { s with decks := s.decks.set n (clearedDeck (s.deck n)) } n = true :=
      (suspendCause_deck (d := clearedDeck (s.deck n)) ⟨rfl, rfl, rfl⟩).trans hcause
    rw [cleared_eq hw, dropParts_elsewhere (s := { s with decks := s.decks.set n (clearedDeck (s.deck n)) }) hw,
      droppedEvents_elsewhere hw, occupancy_falls hcleared hw]
    simp only [State.deck, Quad.get_set_self, quad_set_set]
    rfl

/-! ### A change of a deck's reasons -/

theorem postInvalid_eq (k : Nat) : s.postInvalid n k =
    s.posted (List.replicate k (s.event .deckInvalid (some n) .none (.reasons (s.reasons n)))) s := by
  induction k generalizing s with
  | zero => rfl
  | succ k ih =>
    refine (ih (s := s.post .deckInvalid (some n) .none (.reasons (s.reasons n)))).trans ?_
    rfl

/-- The end of a capture in flight, where a fault joins. -/
def endedState (s : State) (n : Lane) (joins : Bool) : State :=
  if joins then { s with decks := s.decks.set n (abortedDeck s.now .invalid (s.deck n)) } else s

/-- The events of that end. -/
def endedEvents (s : State) (n : Lane) (joins : Bool) : List Event :=
  if joins then abortEvents s n .invalid (s.deck n) else []

theorem abortOp_posted {es : List Event} (hnow : u.now = s.now) (hdeck : (u.deck n).op = (s.deck n).op) (joins : Bool) :
    (if joins then (s.posted es u).abortOp n .invalid else s.posted es u)
      = s.posted (es ++ endedEvents s n joins) (endedState u n joins) := by
  cases joins with
  | false => exact congrArg (s.posted · u) (List.append_nil es).symm
  | true =>
    have hevents : abortEvents s n .invalid (u.deck n) = endedEvents s n true := by
      rw [endedEvents, if_pos rfl, abortEvents, abortEvents, hdeck]
    rw [if_pos rfl, posted_abortOp hnow, hevents, endedState, if_pos rfl, hnow]

/-- A VALID deck that a reason joins. -/
theorem afterReasons_falls {before : ReasonSet} (hb : before.isEmpty = true) (ha : s.deckValid n = false) :
    s.afterReasons n before = s.posted
      (s.droppedEvents n ++ [s.event .deckInvalid (some n) .none (.reasons (s.reasons n))]
        ++ endedEvents s n (before.faultJoined (s.reasons n)))
      (endedState (fallenState s n) n (before.faultJoined (s.reasons n))) := by
  have ha' : (s.reasons n).isEmpty = false := ha
  have hcause : s.suspendCause n = true := suspendCause_iff.mpr (.inr (.inl ha))
  unfold State.afterReasons
  dsimp only
  rw [hb, ha', if_pos (by decide : (true && !false) = true), becomeInvalid_eq hcause]
  refine abortOp_posted (s := s) (u := fallenState s n) rfl ?_ _
  simp [fallenState, State.deck, invalidDeck]

/-- An INVALID deck that a reason joins, or a deck whose reasons stay as they are. -/
theorem afterReasons_stays {before : ReasonSet} (h : before.isEmpty = true ↔ s.deckValid n = true) :
    s.afterReasons n before = s.posted
      (List.replicate (before.joined (s.reasons n)) (s.event .deckInvalid (some n) .none (.reasons (s.reasons n)))
        ++ endedEvents s n (before.faultJoined (s.reasons n)))
      (endedState s n (before.faultJoined (s.reasons n))) := by
  have hsame : before.isEmpty = (s.reasons n).isEmpty := Bool.eq_iff_iff.mpr h
  unfold State.afterReasons
  dsimp only
  rw [hsame, Bool.and_not_self, Bool.not_and_self, if_neg Bool.false_ne_true, if_neg Bool.false_ne_true,
    postInvalid_eq]
  exact abortOp_posted (s := s) (u := s) rfl rfl _

theorem posted_laneSettle {es : List Event} : (s.posted es u).laneSettle n = s.posted es (u.laneSettle n) := by
  have hstate : ((s.posted es u).lane n).state = (u.lane n).state := rfl
  have hcause : (s.posted es u).suspendCause n = u.suspendCause n := rfl
  unfold State.laneSettle
  rw [hstate, hcause]
  split
  · split
    · rfl
    · exact (apply_ite (s.posted es) ((u.deck n).occupancy = .occupied) (u.setLaneState n .occupied) u).symm
  · split
    · rfl
    · exact posted_enterIdle
  · rfl

/-- A deck that the last reason leaves. -/
theorem afterReasons_rises {before : ReasonSet} (hb : before.isEmpty = false) (ha : s.deckValid n = true) :
    s.afterReasons n before
      = s.posted [s.event .deckValid (some n) .none .none] (s.laneSettle n) := by
  have ha' : (s.reasons n).isEmpty = true := ha
  have hno : before.faultJoined (s.reasons n) = false := by
    simp only [ReasonSet.isEmpty, Bool.and_eq_true, Bool.not_eq_true'] at ha'
    simp [ReasonSet.faultJoined, ha']
  unfold State.afterReasons
  dsimp only
  rw [hb, ha', hno, if_neg Bool.false_ne_true, if_neg (by decide : ¬(false && !true) = true),
    if_pos (by decide : (!false && true) = true), post_eq, posted_laneSettle]

end Sys2Proof.Proofs
end

section
/-! O50: the SETUP records of a lane, and a loop learned again (R5, R25, R35, R44, R50, R75, R86, R94, R173). -/

namespace Sys2Proof.Proofs
open Sys2Proof Sys2Proof.Machine

variable {s u : State} {h : RecHead} {n : Lane} {side : LoopSide}

/-! ### The cells of a deck (R5) -/

/-- The deck's settings and marks with another number of cells. -/
def recelled (s : State) (n : Lane) (count : Nat) : Retained :=
  { s.ret with
    settings := { s.ret.settings with decks := s.ret.settings.decks.set n { s.deckSettings n with cells := count } }
    cal := s.ret.cal.set n { s.cal n with zeroDone := false, spanDone := false } }

theorem recelled_reasons {count : Nat} :
    (s.storing (recelled s n count)).reasons n = { s.reasons n with uncalibrated := true } := by
  simp only [State.reasons, State.cal, State.storing, recelled, Quad.get_set_self]
  rfl

theorem faultJoined_uncalibrated (r : ReasonSet) : r.faultJoined { r with uncalibrated := true } = false := by
  simp [ReasonSet.faultJoined]

theorem joined_uncalibrated (r : ReasonSet) :
    r.joined { r with uncalibrated := true } = if r.uncalibrated then 0 else 1 := by
  cases h : r.uncalibrated <;> simp [ReasonSet.joined, h]

/-- A deck that loses its calibration marks, on a CLOSED lane. -/
theorem recelled_turns {count : Nat} {p : LinkPort} {q : EventQueue} (hst : (s.lane n).state = .closed) :
    (onPort (s.storing (recelled s n count)) p q).afterReasons n (s.reasons n) = (onPort s p q).posted
      (if (s.reasons n).uncalibrated then []
        else [s.event .deckInvalid (some n) .none (.reasons { s.reasons n with uncalibrated := true })])
      (onPort { s.storing (recelled s n count) with
        decks := if s.deckValid n then s.decks.set n (invalidDeck (s.deck n)) else s.decks } p q) := by
  have hreasons : (onPort (s.storing (recelled s n count)) p q).reasons n
      = { s.reasons n with uncalibrated := true } := recelled_reasons
  have hinvalid : (onPort (s.storing (recelled s n count)) p q).deckValid n = false := by
    rw [State.deckValid, hreasons]
    rfl
  by_cases hvalid : s.deckValid n = true
  · have hcal : (s.reasons n).uncalibrated = false := by
      simp only [State.deckValid, ReasonSet.isEmpty, Bool.and_eq_true, Bool.not_eq_true'] at hvalid
      exact hvalid.1.1.1
    have hlane : s.lanes.set n (fallenLane (s.lane n)) = s.lanes := by
      rw [fallenLane_elsewhere (by rw [hst]; nofun) (by rw [hst]; nofun), State.lane, quad_set_get]
    rw [afterReasons_falls hvalid hinvalid, hreasons, faultJoined_uncalibrated, hcal, if_pos hvalid,
      droppedEvents_elsewhere (s := onPort (s.storing (recelled s n count)) p q)
        (show (s.lane n).state ≠ .weighing by rw [hst]; nofun)]
    exact congrArg (fun ls => (onPort s p q).posted _ (onPort { s.storing (recelled s n count) with
      decks := s.decks.set n (invalidDeck (s.deck n)), lanes := ls } p q)) hlane
  · have hb : (s.reasons n).isEmpty = true ↔ (onPort (s.storing (recelled s n count)) p q).deckValid n = true :=
      iff_of_false hvalid (by rw [hinvalid]; nofun)
    rw [afterReasons_stays hb, hreasons, faultJoined_uncalibrated, joined_uncalibrated, if_neg hvalid]
    cases (s.reasons n).uncalibrated <;> rfl

theorem cellsSet_acts {count : Nat} (hst : (s.lane n).state = .closed) (hop : (s.deck n).op = none)
    (hne : (s.deckSettings n).cells ≠ count) : Acts (State.cellsSet n count) s .ok
      (if (s.reasons n).uncalibrated then []
        else [s.event .deckInvalid (some n) .none (.reasons { s.reasons n with uncalibrated := true })])
      { s.storing (recelled s n count) with
        decks := if s.deckValid n then s.decks.set n (invalidDeck (s.deck n)) else s.decks } := by
  intro p q
  refine (if_neg (not_not.mpr hst)).trans ((if_neg (by rw [onPort_deck, hop]; exact Bool.false_ne_true)).trans
    ((if_neg hne).trans (congrArg (·, ResultCode.ok) ?_)))
  exact recelled_turns hst

/-! ### A loop learned again (R75) -/

theorem laneSettle_lane_eq : (s.laneSettle n).lane n = (match (s.lane n).state with
    | .idle =>
      { s.lane n with
        state := if s.suspendCause n then .suspended
          else if (s.deck n).occupancy = .occupied then .occupied else .idle }
    | .suspended =>
      if s.suspendCause n then s.lane n else s.idled n false (decide ((s.deck n).occupancy = .occupied))
    | _ => s.lane n) := by
  cases hst : (s.lane n).state with
  | idle =>
    dsimp only
    unfold State.laneSettle
    rw [hst]
    dsimp only
    split_ifs
    · exact Quad.get_set_self ..
    · exact Quad.get_set_self ..
    · rw [← hst]
  | suspended =>
    rw [laneSettle_lane_of_not_idle (by rw [hst]; nofun)]
    cases hcause : s.suspendCause n <;> simp [hst]
  | _ =>
    rw [laneSettle_elsewhere] <;> rw [hst] <;> nofun

theorem laneSettle_barriers_of (h : (s.lane n).state ≠ .suspended) : (s.laneSettle n).barriers = s.barriers := by
  unfold State.laneSettle
  split
  · split_ifs <;> rfl
  · next hs => exact absurd hs h
  · rfl

theorem enterIdle_laneSettings : (s.enterIdle n).laneSettings n
    = { s.laneSettings n with closed := ((s.enterIdle n).laneSettings n).closed } := by
  rw [enterIdle_eq]
  split
  · simp only [State.laneSettings, State.storing, Quad.get_set_self]
  · rfl

theorem laneSettle_laneSettings : (s.laneSettle n).laneSettings n
    = { s.laneSettings n with closed := ((s.laneSettle n).laneSettings n).closed } := by
  unfold State.laneSettle
  split
  · split_ifs <;> rfl
  · split
    · rfl
    · exact enterIdle_laneSettings
  · rfl

/-- What OUT_OF_HOURS a loop that begins to learn posts. -/
def hoursEvents (s : State) (n : Lane) (side : LoopSide) (before : LoopReport) : List Event :=
  if before = .free ∧ s.ret.settings.siteMode = .closed then [s.event .outOfHours (some n) .none (.loop side)] else []

/-- The state with a loop sent to START. -/
def restarted (s : State) (n : Lane) (side : LoopSide) : State := s.modLoop n side relearnedLoop

theorem restarted_loop : (restarted s n side).loop n side = relearnedLoop (s.loop n side) := modLoop_loop_same _

theorem restarted_report : ((restarted s n side).loop n side).report = .occupied := by
  rw [restarted_loop]
  rfl

theorem restarted_other : (restarted s n side).loop n (otherLoop side) = s.loop n (otherLoop side) :=
  modLoop_loop_other (.inr (by cases side <;> nofun))

theorem restarted_uncycled : uncycledState (restarted s n side) n side
    = { s with loops := (restarted s n side).loops, lanes := s.lanes.set n (uncycled side (s.lane n)) } := by
  cases side <;> rfl

theorem restarted_uncycled_eq : uncycledState (restarted s n side) n side = { s with
    loops := (restarted s n side).loops
    lanes := match side with
      | .entry => s.lanes
      | .clear => s.lanes.set n { s.lane n with cycle := none } } := by
  rw [restarted_uncycled]
  cases side with
  | entry => exact setLane_self (s := { s with loops := (restarted s n .entry).loops }) rfl
  | clear => rfl

theorem restarted_suspendCause : (restarted s n side).suspendCause n = (isFault (s.barrier n).state || !s.deckValid n
    || decide ((s.loop n (otherLoop side)).report = .faulted)) := by
  have hbarrier : (restarted s n side).barrier n = s.barrier n := by cases side <;> rfl
  have hdeck : (restarted s n side).deckValid n = s.deckValid n := by cases side <;> rfl
  have hsides := suspendCause_eq_sides (s := restarted s n side) (n := n) side
  rw [restarted_report, restarted_other, hbarrier, hdeck] at hsides
  cases hcause : (restarted s n side).suspendCause n with
  | false =>
    obtain ⟨hb, hd, _, ho⟩ := hsides.mp hcause
    rw [hb, hd, decide_eq_false ho]
    rfl
  | true =>
    by_contra hno
    have hno := Bool.eq_false_iff.mpr (Ne.symm hno)
    simp only [Bool.or_eq_false_iff, Bool.not_eq_false', decide_eq_false_iff_not] at hno
    rw [hsides.mpr ⟨hno.1.1, hno.1.2, nofun, hno.2⟩] at hcause
    cases hcause

theorem posted_barrierHears {es : List Event} : (s.posted es u).barrierHears n = s.posted es (u.barrierHears n) := by
  have hbarrier : (s.posted es u).barrier n = u.barrier n := rfl
  have hreport : (s.posted es u).clearReport n = u.clearReport n := rfl
  unfold State.barrierHears
  rw [hbarrier, hreport]
  split
  · rfl
  · rfl
  · rfl
  · rw [seek_eq, seek_eq]
    rfl
  · rfl

/-- A clear loop that begins to learn ends its lane's cycle. -/
theorem followCycle_of_start {before : LoopReport} (hc : (s.loop n .clear).condition = .start) :
    s.followCycle n before = s.setCycle n none := by
  have hr : (s.loop n .clear).report = .occupied := by rw [Loop.report, hc]
  unfold State.followCycle
  rw [hr, hc]
  cases before <;> rfl

theorem restarted_hours (hne : (s.loop n side).report ≠ .occupied) :
    (restarted s n side).loopOutOfHours n side (s.loop n side).report
      = s.posted (hoursEvents s n side (s.loop n side).report) (restarted s n side) := by
  have hevents : hoursEvents s n side (s.loop n side).report = if s.ret.settings.siteMode = .closed
      ∧ (s.loop n side).report = .free ∧ LoopReport.occupied = .occupied then
        [s.event .outOfHours (some n) .none (.loop side)] else [] :=
    if_congr (by tauto) rfl rfl
  rw [loopOutOfHours_eq, restarted_report, hevents]
  cases side <;> rfl

/-- A report that becomes that of a loop in START: the hour, the end of the cycle, the lane's turn, and the barrier of a
clear loop. -/
theorem relearn_eq (hne : (s.loop n side).report ≠ .occupied) : s.relearn n side =
    s.posted (hoursEvents s n side (s.loop n side).report) (match side with
      | .entry => (uncycledState (restarted s n side) n side).laneSettle n
      | .clear => (((uncycledState (restarted s n side) n side).laneSettle n).barrierHears n).setCycle n none) := by
  have hours := restarted_hours hne
  have hreport := restarted_report (s := s) (n := n) (side := side)
  cases side with
  | entry =>
    have hrelearn : s.relearn n .entry
        = (restarted s n .entry).reportChanged n .entry (s.loop n .entry).report := rfl
    have huncycled : uncycledState (restarted s n .entry) n .entry = restarted s n .entry := setLane_self rfl
    rw [hrelearn, reportChanged_entry (by rw [hreport]; exact hne.symm), hours, State.laneHears, huncycled]
    refine Eq.trans (congrArg (State.laneSettle · n) (if_neg ?_)) posted_laneSettle
    exact fun hfree => nomatch hreport.symm.trans hfree
  | clear =>
    have hrelearn : s.relearn n .clear
        = ((restarted s n .clear).reportChanged n .clear (s.loop n .clear).report).setCycle n none := rfl
    rw [hrelearn, reportChanged_clear (by rw [hreport]; exact hne.symm), heardClear, hours, followCycle_of_start]
    · rw [show State.setCycle (s.posted _ (restarted s n .clear)) n none
        = s.posted (hoursEvents s n .clear (s.loop n .clear).report) (uncycledState (restarted s n .clear) n .clear)
        from rfl, posted_laneSettle, posted_barrierHears]
      rfl
    · exact congrArg Loop.condition (restarted_loop (s := s) (n := n) (side := .clear))

theorem relearn_loops : (s.relearn n side).loops = (restarted s n side).loops := by
  cases side <;> exact reportChanged_loops

/-- A loop that already reports OCCUPIED has its lane's cycle ended alone. -/
theorem relearn_occupied (h : (s.loop n side).report = .occupied) :
    s.relearn n side = uncycledState (restarted s n side) n side := by
  have hreport := restarted_report (s := s) (n := n) (side := side)
  have hsame := reportChanged_same (hreport.trans h.symm)
  cases side with
  | entry => exact hsame.trans (setLane_self rfl).symm
  | clear => exact congrArg (State.setCycle · n none) hsame

/-- The lane of a loop that has begun to learn: a fault that ends so may let it go, and an INVALID deck or another fault
keeps it. -/
def relearnedLane (s : State) (n : Lane) (cause : Bool) : LaneSeq :=
  let occupied := decide ((s.deck n).occupancy = .occupied)
  match (s.lane n).state with
  | .idle => { s.lane n with state := if cause then .suspended else if occupied then .occupied else .idle }
  | .suspended => if cause then s.lane n else s.idled n false occupied
  | _ => s.lane n

theorem loop_congr {m : Lane} (h : u.loops = s.loops) : u.loop m side = s.loop m side := by
  cases side <;> simp only [State.loop, h]

theorem uncycledState_settles {t : State} (hlane : t.lane n = uncycled side (s.lane n)) (hdeck : t.deck n = s.deck n)
    (hsettings : t.ret.settings = s.ret.settings) :
    (t.laneSettle n).lane n = uncycled side (relearnedLane s n (t.suspendCause n)) := by
  have hstate : (t.lane n).state = (s.lane n).state := by rw [hlane]; cases side <;> rfl
  have hidled (o : Bool) : t.idled n false o = uncycled side (s.idled n false o) := by
    unfold State.idled
    rw [hlane, hsettings]
    cases side <;> rfl
  rw [laneSettle_lane_eq, relearnedLane, hstate, hdeck]
  cases hst : (s.lane n).state with
  | idle =>
    dsimp only
    rw [hlane]
    simp only [decide_eq_true_eq]
    cases side <;> rfl
  | suspended =>
    dsimp only
    rw [hidled, hlane, apply_ite (uncycled side)]
  | _ => exact hlane

theorem uncycled_idem (l : LaneSeq) : uncycled side (uncycled side l) = uncycled side l := by cases side <;> rfl

theorem relearn_lane (hne : (s.loop n side).report ≠ .occupied) : (s.relearn n side).lane n
    = uncycled side (relearnedLane s n ((restarted s n side).suspendCause n)) := by
  have hsettles := uncycledState_settles (s := s) (n := n) (side := side) (t := uncycledState (restarted s n side) n side)
    (by rw [restarted_uncycled]; exact Quad.get_set_self ..) (by cases side <;> rfl) (by cases side <;> rfl)
  rw [uncycledState_suspendCause] at hsettles
  rw [relearn_eq hne]
  cases side with
  | entry => exact hsettles
  | clear =>
    refine (Quad.get_set_self ..).trans ?_
    exact (congrArg (uncycled .clear) ((lane_congr (barrierHears_keeps.lanes rfl) n).trans hsettles)).trans
      (uncycled_idem _)

theorem relearn_laneSettings : (s.relearn n side).laneSettings n
    = { s.laneSettings n with closed := ((s.relearn n side).laneSettings n).closed } := by
  by_cases hocc : (s.loop n side).report = .occupied
  · rw [relearn_occupied hocc]
    cases side <;> rfl
  · rw [relearn_eq hocc]
    cases side with
    | entry => exact laneSettle_laneSettings
    | clear =>
      have hkeeps : (State.barrierHears (State.laneSettle (uncycledState (restarted s n .clear) n .clear) n) n).ret.settings
          = (State.laneSettle (uncycledState (restarted s n .clear) n .clear) n).ret.settings :=
        barrierHears_keeps.settings rfl
      have hsettings : ((State.laneSettle (uncycledState (restarted s n .clear) n .clear) n).barrierHears n).laneSettings n
          = (State.laneSettle (uncycledState (restarted s n .clear) n .clear) n).laneSettings n := by
        rw [State.laneSettings, hkeeps]
        rfl
      exact hsettings.trans (laneSettle_laneSettings.trans
        (congrArg (fun x : LaneSettings => { s.laneSettings n with closed := x.closed }) hsettings.symm))

theorem barrierHears_occupied (h : s.clearReport n = .occupied) : (s.barrierHears n).barrier n =
    if (s.barrier n).state = .lowering then
      { s.barrier n with state := .reversing, duty := 0, direction := none, motionMs := none, blanked := false }
    else s.barrier n := by
  unfold State.barrierHears
  rw [h]
  split
  · next hfree => cases hfree
  · next hst _ =>
    rw [if_pos hst]
    exact Quad.get_set_self ..
  · next hfaulted => cases hfaulted
  · next hfree _ => cases hfree
  · next hno _ => rw [if_neg fun hst => hno hst rfl]

/-- The barrier of a lane whose loop has begun to learn: over a clear loop a lowering reverses. -/
def relearnedBarrier (side : LoopSide) (b : Barrier) : Barrier :=
  match side with
  | .entry => b
  | .clear =>
    if b.state = .lowering then
      { b with state := .reversing, duty := 0, direction := none, motionMs := none, blanked := false }
    else b

theorem relearn_barrier (hne : (s.loop n side).report ≠ .occupied) (hst : (s.lane n).state ≠ .suspended) :
    (s.relearn n side).barrier n = relearnedBarrier side (s.barrier n) := by
  have hlane : ((uncycledState (restarted s n side) n side).lane n).state = (s.lane n).state := by
    rw [restarted_uncycled]
    refine (congrArg LaneSeq.state (Quad.get_set_self ..)).trans ?_
    cases side <;> rfl
  have hsettled : (State.laneSettle (uncycledState (restarted s n side) n side) n).barriers = s.barriers :=
    (laneSettle_barriers_of (by rw [hlane]; exact hst)).trans (by cases side <;> rfl)
  have hloops : (State.laneSettle (uncycledState (restarted s n side) n side) n).loops = (restarted s n side).loops :=
    laneSettle_loops
  rw [relearn_eq hne]
  cases side with
  | entry => exact barrier_congr hsettled n
  | clear =>
    have hreport : State.clearReport (State.laneSettle (uncycledState (restarted s n .clear) n .clear) n) n
        = .occupied := by
      refine Eq.trans ?_ (restarted_report (s := s) (n := n) (side := .clear))
      rw [State.clearReport, State.loop, State.loop, hloops]
    refine (barrierHears_occupied hreport).trans ?_
    rw [barrier_congr hsettled]
    rfl

/-! ### The records of a lane's settings -/

theorem deckSettingsSet_acts (f : DeckSettings → DeckSettings) : Acts (State.deckSettingsSet n f) s .ok []
    (s.storing { s.ret with
      settings := { s.ret.settings with decks := s.ret.settings.decks.set n (f (s.deckSettings n)) } }) := fun _ _ => rfl

theorem laneSettingsSet_acts (f : LaneSettings → LaneSettings) : Acts (State.laneSettingsSet n f) s .ok []
    (s.storing { s.ret with
      settings := { s.ret.settings with lanes := s.ret.settings.lanes.set n (f (s.laneSettings n)) } }) := fun _ _ => rfl

theorem depthOf_eq (b : Byte) : depthOf b = if b.toNat ∈ [1, 2, 4, 8, 16] then some b.toNat else none :=
  if_congr (by simp) rfl rfl

theorem ranged_byte {lo : Nat} {b : Byte} (h : lo ≤ b.toNat) : ranged lo 255 b.toNat = some b.toNat :=
  ranged_eq_some.mpr ⟨rfl, within_byte.mpr h⟩

theorem settlingFields_eq (i : SettlingItem) : settlingFields i =
    if 1 ≤ i.band.toNat ∧ i.band.toNat ≤ 5000 ∧ 1 ≤ i.tTent.toNat ∧ 1 ≤ i.tSettle.toNat ∧ 1 ≤ i.tLock.toNat
        ∧ 1 ≤ i.tDrop.toNat then
      some fun d => { d with
        band := i.band.toNat, tTent := i.tTent.toNat, tSettle := i.tSettle.toNat, tLock := i.tLock.toNat
        tDrop := i.tDrop.toNat }
    else none := by
  split
  · next hgood =>
    obtain ⟨hlo, hhi, htent, hsettle, hlock, hdrop⟩ := hgood
    rw [settlingFields, ranged_byte htent, ranged_byte hsettle, ranged_byte hlock, ranged_byte hdrop,
      ranged_eq_some.mpr ⟨rfl, hlo, hhi⟩]
    rfl
  · next hbad =>
    rw [← Option.not_isSome_iff_eq_none, settlingFields_isSome, within_byte, within_byte, within_byte, within_byte]
    exact fun ⟨⟨hlo, hhi⟩, htent, hsettle, hlock, hdrop⟩ => hbad ⟨hlo, hhi, htent, hsettle, hlock, hdrop⟩

theorem barrierFields_eq (i : BarrierItem) : barrierFields i =
    if 1 ≤ i.start.toNat ∧ i.start.toNat ≤ i.run.toNat ∧ 1 ≤ i.step.toNat ∧ 1 ≤ i.travel.toNat
        ∧ i.travel.toNat ≤ 30 then
      some ⟨i.start.toNat, i.run.toNat, i.step.toNat, i.travel.toNat⟩
    else none := by
  split
  · next hgood =>
    obtain ⟨hstart, hrun, hstep, hlo, hhi⟩ := hgood
    rw [barrierFields, ranged_byte hstart, ranged_byte hstep, ranged_eq_some.mpr ⟨rfl, hlo, hhi⟩]
    exact congrArg (· >>= fun run => some (BarrierSettings.mk i.start.toNat run i.step.toNat i.travel.toNat))
      (ranged_byte hrun)
  · next hbad =>
    rw [← Option.not_isSome_iff_eq_none, barrierFields_isSome, within_byte, within_byte, within_byte]
    exact fun ⟨hstart, hrun, hstep, hlo, hhi⟩ => hbad ⟨hstart, hrun, hstep, hlo, hhi⟩

theorem takeLane_guarded_takes {α β : Type} {a : α} {f : β} {read : α → Option β}
    {act : Lane → β → State → State × ResultCode} (ht : s.takes h .lane) (hn : h.chan = .lane n)
    (hw : s.power.supply ≠ .warning) (hr : read a = some f) :
    s.takeLane h (fun n => State.guarded (.item a) read (act n))
      = (act n f (s.receive h)).1.answer h (act n f (s.receive h)).2 := by
  rw [takeLane_takes ht hn, guarded_ok hr]
  rw [receive_onPort]
  exact decide_eq_false hw

theorem loopSet_keeps (side : LoopSide) (cfg : LoopSettings) : Acts (State.loopSet n (side, cfg, false)) s .ok []
    (s.storing { s.ret with
      settings := { s.ret.settings with
        lanes := s.ret.settings.lanes.set n (setLoopSettings side cfg (s.laneSettings n)) } }) := fun _ _ => rfl

/-- Settles O50: what each record reads, what it writes, and the loop learned again. -/
theorem laneSettingsWritten : Obligations.LaneSettingsWritten := by
  refine ⟨fun i p => ?_, fun i o first => ?_, fun i side x relearn => ?_, fun s h n ht hn hw => ?_⟩
  · rw [policyFields_eq_some, dirModeOf_eq_some, flagOf_eq_some, accountOf_eq, classOf_eq_some, optStreamOf_eq_some,
      ranged_eq_some, eq_comm (a := p.account.val)] <;> exact Iff.rfl
  · rw [printerFields_eq_some, optStreamOf_eq_some, flagOf_eq_some]
  · rw [loopFields_eq_some, loopSideOf_eq_some, ranged_eq_some, ranged_eq_some, ranged_eq_some, flagOf_eq_some]
    constructor
    · rintro ⟨hside, ⟨hon, hlo, hhi⟩, ⟨hoff, hoff1, _⟩, ⟨hlimit, _, hmax⟩, hrelearn, hlt⟩
      exact ⟨hside, hon, hlo, hhi, hoff, hoff1, hlt, hlimit, hmax, hrelearn⟩
    · rintro ⟨hside, hon, hlo, hhi, hoff, hoff1, hlt, hlimit, hmax, hrelearn⟩
      exact ⟨hside, ⟨hon, hlo, hhi⟩, ⟨hoff, hoff1, by omega⟩, ⟨hlimit, Nat.zero_le _, hmax⟩, hrelearn, hlt⟩
  · intro deck lane setDeck decks lanes bad
    refine ⟨fun b => ?_, fun b => ?_, fun i => ?_, fun v => ?_, fun v => ?_, fun i => ?_, fun i p hr => ?_,
      fun i o first hr => ?_, fun i side cfg relearn hr => ?_⟩
    · intro after
      refine congrArg Host.Outcome.next ?_
      by_cases hrange : b.toNat = 0 ∨ 8 < b.toNat
      · rw [if_pos hrange]
        exact takeLane_guarded_bad ht hn (if_neg (by omega))
      have hread : ranged 1 8 b.toNat = some b.toNat := if_pos (by omega)
      rw [if_neg hrange]
      by_cases hclosed : (s.lane n).state ≠ .closed
      · rw [if_pos hclosed]
        exact takeLane_guarded (es := []) (u := s) ht hn hw hread fun p q => if_pos hclosed
      rw [if_neg hclosed]
      by_cases hbusy : (s.deck n).op ≠ none
      · rw [if_pos hbusy]
        refine takeLane_guarded (es := []) (u := s) ht hn hw hread fun p q => ?_
        exact (if_neg hclosed).trans (if_pos (Option.isSome_iff_ne_none.mpr hbusy))
      rw [if_neg hbusy]
      by_cases hsame : deck.cells = b.toNat
      · rw [if_pos hsame]
        refine takeLane_guarded (es := []) (u := s) ht hn hw hread fun p q => ?_
        exact (if_neg hclosed).trans ((if_neg fun hh => hbusy (Option.isSome_iff_ne_none.mp hh)).trans (if_pos hsame))
      · rw [if_neg hsame]
        exact takeLane_guarded ht hn hw hread (cellsSet_acts (not_not.mp hclosed) (not_not.mp hbusy) hsame)
    · refine congrArg Host.Outcome.next ?_
      split_ifs with hdepth
      · exact takeLane_guarded ht hn hw ((depthOf_eq b).trans (if_pos hdepth)) (deckSettingsSet_acts _)
      · exact takeLane_guarded_bad ht hn ((depthOf_eq b).trans (if_neg hdepth))
    · refine congrArg Host.Outcome.next ?_
      split_ifs with hgood
      · exact takeLane_guarded ht hn hw ((settlingFields_eq i).trans (if_pos hgood)) (deckSettingsSet_acts _)
      · exact takeLane_guarded_bad ht hn ((settlingFields_eq i).trans (if_neg hgood))
    · exact congrArg Host.Outcome.next (takeLane_guarded ht hn hw rfl (laneSettingsSet_acts _))
    · refine congrArg Host.Outcome.next ?_
      split_ifs with hgood
      · exact takeLane_guarded ht hn hw (if_pos hgood) (laneSettingsSet_acts _)
      · exact takeLane_guarded_bad ht hn (if_neg hgood)
    · refine congrArg Host.Outcome.next ?_
      split_ifs with hgood
      · exact takeLane_guarded ht hn hw ((barrierFields_eq i).trans (if_pos hgood)) (laneSettingsSet_acts _)
      · exact takeLane_guarded_bad ht hn ((barrierFields_eq i).trans (if_neg hgood))
    · exact congrArg Host.Outcome.next (takeLane_guarded ht hn hw hr (laneSettingsSet_acts _))
    · exact congrArg Host.Outcome.next (takeLane_guarded ht hn hw hr (laneSettingsSet_acts _))
    · intro x old loop
      refine ⟨fun hno => ?_, fun hyes => ?_⟩
      · subst hno
        exact congrArg Host.Outcome.next (takeLane_guarded ht hn hw hr (loopSet_keeps side cfg))
      · subst hyes
        have htakes := takeLane_guarded_takes (act := State.loopSet) ht hn hw hr
        have hset : (s.receive h).modLaneSettings n (setLoopSettings side cfg)
            = onPort (lanes x) (s.receive h).link (s.eventsAfter s.restored) := by
          rw [receive_onPort]
          cases side <;> rfl
        have hact : (State.loopSet n (side, cfg, true) (s.receive h)).1
            = (onPort (lanes x) (s.receive h).link (s.eventsAfter s.restored)).relearn n side :=
          congrArg (State.relearn · n side) hset
        refine ⟨_, congrArg Host.Outcome.next (htakes.trans (congrArg (State.answer · h .ok) hact)), ?_⟩
        generalize hv : onPort (lanes x) (s.receive h).link (s.eventsAfter s.restored) = v
        have hold : v.loop n side = old := by rw [← hv]; cases side <;> rfl
        have hlink : (v.relearn n side).link = (s.receive h).link :=
          ((keeps_relearn (p := { loops := true, events := true, lanes := true, settings := true, barriers := true })
            rfl rfl rfl rfl rfl).link rfl).trans (by rw [← hv]; rfl)
        refine ⟨?_, answered_of hlink, ?_, fun hocc => ?_, fun hne => ?_⟩
        · exact (loop_congr relearn_loops).trans (restarted_loop.trans (congrArg relearnedLoop hold))
        · have hx : v.laneSettings n = x := by
            rw [← hv]
            exact Quad.get_set_self ..
          rw [← hx]
          exact relearn_laneSettings
        · have hrelearn := relearn_occupied (s := v) (n := n) (side := side) (by rw [hold]; exact hocc)
          refine answer_recorded hlink ?_ ?_
          · rw [hrelearn, List.append_nil, ← hv]
            cases side <;> rfl
          · have hloops : (State.answer (v.relearn n side) h .ok).loops = (restarted v n side).loops := relearn_loops
            rw [hloops, hrelearn, restarted_uncycled_eq, ← hv]
            cases side <;> rfl
        · intro seq occupied other cause settled
          have hne' : (v.loop n side).report ≠ .occupied := by rw [hold]; exact hne
          have hcause : (restarted v n side).suspendCause n = cause := by
            rw [restarted_suspendCause, ← hv]
            cases side <;> rfl
          have hsettled : relearnedLane v n cause = settled := by
            rw [← hv]
            rfl
          refine ⟨?_, ?_, fun hside hsus => ?_, fun hside hsus => ?_⟩
          · have hhours : hoursEvents v n side old.report
                = if old.report = .free ∧ s.ret.settings.siteMode = .closed then
                  [s.event .outOfHours (some n) .none (.loop side)] else [] := by
              rw [← hv]
              rfl
            have hevents : (v.relearn n side).events = v.eventsAfter (hoursEvents v n side old.report) := by
              rw [relearn_eq hne', hold]
              rfl
            refine hevents.trans ?_
            rw [hhours, eventsAfter_append, ← hv]
            rfl
          · refine (relearn_lane hne').trans ?_
            rw [hcause, hsettled]
            cases side <;> rfl
          · have hb := relearn_barrier hne' (show (v.lane n).state ≠ .suspended by rw [← hv]; exact hsus)
            refine hb.trans ?_
            rw [← hv, hside]
            rfl
          · have hb := relearn_barrier hne' (show (v.lane n).state ≠ .suspended by rw [← hv]; exact hsus)
            refine hb.trans ?_
            rw [← hv, hside]
            rfl

end Sys2Proof.Proofs
end

section
/-! O48: the VEHICLE, ACCOUNT, TICKETS and STOCK records, and the levels of a stream (R124 to R126, R133, R135, R162,
R171, R175). -/

namespace Sys2Proof.Proofs
open Sys2Proof Sys2Proof.Machine

variable {s u : State} {h : RecHead} {n : Lane}

/-! ### The levels crossed (R135) -/

theorem insertLevel_eq (l : Nat) (ls : List Nat) : insertLevel l ls = ls.orderedInsert (· ≤ ·) l := by
  induction ls with
  | nil => rfl
  | cons m ms ih => rw [insertLevel, ih, List.orderedInsert_cons]

theorem sortedLevels_eq (levels : Quad (Option Nat)) :
    sortedLevels levels = (levels.toList.filterMap id).insertionSort (· ≤ ·) := by
  rw [sortedLevels, List.insertionSort, show insertLevel = List.orderedInsert (· ≤ ·) from
    funext fun l => funext fun ls => insertLevel_eq l ls]

theorem mem_sortedLevels {levels : Quad (Option Nat)} {l : Nat} :
    l ∈ sortedLevels levels ↔ some l ∈ levels.toList := by
  rw [sortedLevels_eq, (List.perm_insertionSort ..).mem_iff]
  simp

theorem sortedLevels_pairwise (levels : Quad (Option Nat)) : (sortedLevels levels).Pairwise (· ≤ ·) := by
  rw [sortedLevels_eq]
  exact List.pairwise_insertionSort ..

theorem mem_crossedLevels {levels : Quad (Option Nat)} {before after l : Nat} {up : Bool} :
    (l, up) ∈ crossedLevels levels before after ↔
      some l ∈ levels.toList ∧ if up then before < l ∧ l ≤ after else after < l ∧ l ≤ before := by
  cases up <;> simp [crossedLevels, mem_sortedLevels]

theorem crossedLevels_pairwise (levels : Quad (Option Nat)) (before after : Nat) :
    (crossedLevels levels before after).Pairwise fun x y => x.2 = y.2 ∧ if x.2 then x.1 ≤ y.1 else y.1 ≤ x.1 := by
  have hsorted := sortedLevels_pairwise levels
  rw [crossedLevels, List.pairwise_append]
  refine ⟨?_, ?_, ?_⟩
  · rw [List.pairwise_map]
    exact (hsorted.filter _).imp fun hle => ⟨rfl, hle⟩
  · rw [List.pairwise_map]
    exact ((List.pairwise_reverse.mpr hsorted).filter _).imp fun hle => ⟨rfl, hle⟩
  · intro x hx y hy
    simp only [List.mem_map, List.mem_filter, Bool.and_eq_true, decide_eq_true_eq] at hx hy
    obtain ⟨a, ⟨-, hlo, hhi⟩, -⟩ := hx
    obtain ⟨b, ⟨-, hlo', hhi'⟩, -⟩ := hy
    omega

/-! ### The journal released (R171) -/

theorem splitJournal_none {k : Nat} {ts : List Ticket} (hts : ∀ x ∈ ts, x.number ≠ k) : splitJournal k ts = none := by
  induction ts with
  | nil => rfl
  | cons t ts ih =>
    rw [splitJournal, if_neg (hts t List.mem_cons_self), ih fun x hx => hts x (List.mem_cons_of_mem _ hx)]
    rfl

theorem splitJournal_some {k : Nat} {gone : List Ticket} {last : Ticket} (kept : List Ticket) (hlast : last.number = k)
    (hgone : ∀ x ∈ gone, x.number ≠ k) : splitJournal k (gone ++ last :: kept) = some (gone ++ [last], kept) := by
  induction gone with
  | nil => exact if_pos hlast
  | cons t ts ih =>
    rw [List.cons_append, splitJournal, if_neg (hgone t List.mem_cons_self),
      ih fun x hx => hgone x (List.mem_cons_of_mem _ hx)]
    rfl

theorem ticketInUse_iff {k : Nat} : s.ticketInUse k = true ↔ (∃ j ∈ s.printing.queue, j.ticket = k)
    ∨ ∃ n ∈ Lane.all, (s.lane n).state = .held .print ∧ (s.lane n).heldTicket = some k := by
  simp only [State.ticketInUse, Bool.or_eq_true, List.any_eq_true, beq_iff_eq, Quad.toList, Lane.all, Bool.and_eq_true,
    decide_eq_true_eq, List.mem_cons, List.not_mem_nil, or_false, exists_eq_or_imp, exists_eq_left]
  rfl

theorem heldClose_elsewhere (hst : (s.lane n).state ≠ .held .journal) : s.heldClose n = s := by
  cases hv : s.laneVisit n with
  | none => rw [State.heldClose, hv]
  | some v => rw [heldClose_eq hv, if_neg fun hh => hst hh.1]

theorem heldClose_power (m : Lane) : (s.heldClose m).power = s.power :=
  (keeps_heldClose (p :=
    { traffic := true, ident := true, tickets := true, printing := true, journalOrder := true, lanes := true
      barriers := true, events := true }) rfl rfl rfl rfl rfl rfl rfl rfl).power rfl

theorem withLink_heldClose {p : LinkPort} (m : Lane) : (withLink s p).heldClose m = withLink (s.heldClose m) p := by
  have hvisit : (withLink s p).laneVisit m = s.laneVisit m := rfl
  cases hv : s.laneVisit m with
  | none => rw [State.heldClose, hvisit.trans hv, State.heldClose, hv]
  | some v =>
    rw [heldClose_eq (hvisit.trans hv), heldClose_eq hv, apply_ite (withLink · p), withLink_closeVisit]
    rfl

theorem withLink_heldCloses {p : LinkPort} (ms : List Lane) :
    ms.foldl State.heldClose (withLink s p) = withLink (ms.foldl State.heldClose s) p := by
  induction ms generalizing s with
  | nil => rfl
  | cons m ms ih => rw [List.foldl_cons, withLink_heldClose, ih, List.foldl_cons]

/-- A CLOSE at a lane held for the journal. -/
theorem execClose_held (hheld : s.power.held = none) (hst : (s.lane n).state = .held .journal) :
    exec (.close n) s = .next (s.heldClose n) := by
  have hdue : s.dueDecision n .exit = none := dueDecision_none (.inl (by rw [hst]; nofun))
  refine congrArg Host.Outcome.next ((whileRunning_of_running hheld _).trans ?_)
  unfold State.takeClose
  rw [hdue]

/-- A CLOSE for each lane in turn that is held for the journal. -/
def closeNext (o : Host.Outcome State Fault Refusal) (m : Lane) : Host.Outcome State Fault Refusal :=
  match o with
  | .next u => if (u.lane m).state = .held .journal then exec (.close m) u else .next u
  | .fault f => .fault f
  | .refused r => .refused r

theorem closeNext_eq (hheld : s.power.held = none) (m : Lane) : closeNext (.next s) m = .next (s.heldClose m) := by
  by_cases hst : (s.lane m).state = .held .journal
  · exact (if_pos hst).trans (execClose_held hheld hst)
  · exact (if_neg hst).trans (by rw [heldClose_elsewhere hst])

theorem closeNext_foldl (hheld : s.power.held = none) (ms : List Lane) :
    ms.foldl closeNext (.next s) = .next (ms.foldl State.heldClose s) := by
  induction ms generalizing s with
  | nil => rfl
  | cons m ms ih =>
    rw [List.foldl_cons, closeNext_eq hheld, ih (by rw [heldClose_power]; exact hheld), List.foldl_cons]

/-! ### The records -/

/-- The PROVISIONAL count without an entry. -/
def fewerProvisional (s : State) (o : Option Vehicle) : Nat :=
  if o.map (fun v => v.origin) = some .provisional then s.ret.ident.provisional - 1 else s.ret.ident.provisional

theorem writtenVehicle_eq (f : VehicleFields) (now : SiteTime) (old : Option Tare) : writtenVehicle f now old =
    { token := f.token, account := f.account, cls := f.cls, kind := f.kind, stream := f.stream
      gross := f.gross, mask := f.mask, barred := f.barred, origin := .loaded, lastUse := now
      tare := match f.tare with
        | .value kg => some ⟨kg, .loaded, now⟩
        | .absent => none
        | .keep => old } := by
  unfold writtenVehicle writtenTare
  cases f.tare <;> rfl

theorem vehicleWrites_full {f : VehicleFields}
    (hfull : s.vehicleOf f.token = none ∧ 512 ≤ s.ret.ident.vehicles.length) : s.vehicleWrites f = (s, .full) := by
  rw [State.vehicleWrites, hfull.1]
  exact if_pos hfull.2

theorem vehicleWrites_writes {f : VehicleFields}
    (hroom : ¬(s.vehicleOf f.token = none ∧ 512 ≤ s.ret.ident.vehicles.length)) : s.vehicleWrites f =
    (s.storing { s.ret with ident := { s.ret.ident with
      provisional := fewerProvisional s (s.vehicleOf f.token)
      vehicles := putVehicle (writtenVehicle f s.now ((s.vehicleOf f.token).bind fun v => v.tare))
        s.ret.ident.vehicles } }, .ok) := by
  rw [State.vehicleWrites]
  cases hold : s.vehicleOf f.token with
  | none => exact if_neg fun hh => hroom ⟨hold, hh⟩
  | some old =>
    dsimp only
    rw [fewerProvisional, Option.map_some, if_congr Option.some_inj rfl rfl]
    rfl

theorem vehicleDeletes_notFound {t : Token} (h : s.vehicleOf t = none) : s.vehicleDeletes t = (s, .notFound) := by
  rw [State.vehicleDeletes, h]

/-- A vehicle is in use while an open visit or a lane's identity names it. -/
theorem vehicleUsed_iff {t : Token} : ((s.visitNaming t).isSome || s.isIdentity t) = true ↔
    (∃ v ∈ s.ret.traffic.visits, v.token = t)
      ∨ ∃ n ∈ Lane.all, (s.lane n).identity.map (fun i => i.token) = some t := by
  rw [Bool.or_eq_true, isIdentity_eq]
  refine or_congr ?_ ?_
  · simp [State.visitNaming, List.find?_isSome]
  · simp

theorem vehicleDeletes_inUse {t : Token} (h : s.vehicleOf t ≠ none)
    (huse : (∃ v ∈ s.ret.traffic.visits, v.token = t)
      ∨ ∃ n ∈ Lane.all, (s.lane n).identity.map (fun i => i.token) = some t) : s.vehicleDeletes t = (s, .inUse) := by
  obtain ⟨v, hv⟩ := Option.ne_none_iff_exists'.mp h
  rw [State.vehicleDeletes, hv]
  exact if_pos (vehicleUsed_iff.mpr huse)

theorem vehicleDeletes_deletes {t : Token} (h : s.vehicleOf t ≠ none)
    (huse : ¬((∃ v ∈ s.ret.traffic.visits, v.token = t)
      ∨ ∃ n ∈ Lane.all, (s.lane n).identity.map (fun i => i.token) = some t)) : s.vehicleDeletes t =
    ({ s.storing { s.ret with ident := { s.ret.ident with
        provisional := fewerProvisional s (s.vehicleOf t)
        vehicles := s.ret.ident.vehicles.filter fun v => v.token != t } } with
      lists := s.lists.map fun es => es.filter fun e => e.token != t }, .ok) := by
  obtain ⟨v, hv⟩ := Option.ne_none_iff_exists'.mp h
  rw [State.vehicleDeletes, hv]
  refine (if_neg fun hh => huse (vehicleUsed_iff.mp hh)).trans ?_
  rw [fewerProvisional, Option.map_some, if_congr Option.some_inj rfl rfl]
  rfl

theorem ticketReprints_notFound {k : Nat} (h : s.ticketNumbered k = none) :
    s.ticketReprints (k, n) = (s, .notFound) := by
  unfold State.ticketReprints
  rw [h]

theorem ticketReprints_wrongState {k : Nat} {x : Ticket} (h : s.ticketNumbered k = some x)
    (hp : (s.laneSettings n).printer = none) : s.ticketReprints (k, n) = (s, .wrongState) := by
  unfold State.ticketReprints
  rw [h, hp]

theorem ticketReprints_queues {k : Nat} {x : Ticket} {address : Fin 8} (h : s.ticketNumbered k = some x)
    (hp : (s.laneSettings n).printer = some address) : s.ticketReprints (k, n) =
      if 255 ≤ x.copies then (s, .limit)
      else if 8 ≤ s.printing.queue.length ∨ 4 ≤ (s.printing.queue.filter fun j => j.copy).length then (s, .full)
      else ({ s with
        printing := { s.printing with
          queue := granted (s.printing.queue ++ [⟨k, n, address, true, .queued⟩]) } }, .ok) := by
  have hroom : s.noCopyRoom = true
      ↔ 8 ≤ s.printing.queue.length ∨ 4 ≤ (s.printing.queue.filter fun j => j.copy).length := by
    rw [State.noCopyRoom, Bool.or_eq_true, decide_eq_true_eq, decide_eq_true_eq, List.countP_eq_length_filter]
    exact Iff.rfl
  unfold State.ticketReprints
  rw [h, hp]
  exact if_congr Iff.rfl rfl (if_congr hroom rfl rfl)

/-- A stock set, and the levels that it crosses. -/
theorem stockSet_acts {k : Fin 8} {kg : Nat} : Acts (State.stockSet (k, kg)) s .ok
    (s.levelEvents k (committed (s.streamTotals k)) (kg + 500 * (s.streamTotals k).reserved))
    (s.storing { s.ret with
      traffic := { s.ret.traffic with
        streams := s.ret.traffic.streams.set k { s.streamTotals k with stock := kg } } }) := by
  intro p q
  refine congrArg (·, ResultCode.ok) ?_
  have hafter : ((onPort s p q).modTraffic fun t => t.modStream k fun r => { r with stock := kg }).streamTotals k
      = { s.streamTotals k with stock := kg } := (vector_get_set ..).trans (if_pos rfl)
  rw [State.judgeLevels, postCrossed_eq, hafter]
  rfl

/-- Settles O48: what each record reads and writes, the levels crossed, and the closes that a release makes. -/
theorem tableRecordsCarriedOut : Obligations.TableRecordsCarriedOut := by
  refine ⟨fun i f => ?_, fun i f => ?_, fun i k n => ?_, fun i k kg => ?_,
    fun levels before after l up => ⟨mem_crossedLevels, crossedLevels_pairwise ..⟩, fun s h ht hw => ?_⟩
  · rw [vehicleFields_eq_some, accountOf_eq, classOf_eq_some, kindOf_eq_some, optStreamOf_eq_some,
      optRanged_eq_some (by decide), laneMaskOf_eq_some, flagOf_eq_some, tareChoiceOf_eq_some,
      eq_comm (a := i.cls.toNat)]
    constructor
    · rintro ⟨htoken, haccount, hcls, hkind, hstream, ⟨hgross, hin⟩, ⟨hmask, hne⟩, hbarred, htare⟩
      exact ⟨htoken, haccount, hcls, hkind, hstream, hgross, hin, hmask, hne, hbarred, htare⟩
    · rintro ⟨htoken, haccount, hcls, hkind, hstream, hgross, hin, hmask, hne, hbarred, htare⟩
      exact ⟨htoken, haccount, hcls, hkind, hstream, ⟨hgross, hin⟩, ⟨hmask, hne⟩, hbarred, htare⟩
  · rw [accountFields_eq_some, accountOf_eq, accountStateOf_eq_some, optRanged_eq_some (by decide),
      limitKindOf_eq_some, flagOf_eq_some, optStreamOf_eq_some, and_assoc] <;> exact Iff.rfl
  · rw [reprintFields_eq_some, ofNumber_eq_some, ticketOf, ranged_eq_some, and_assoc, and_assoc] <;> exact Iff.rfl
  · rw [stockFields_eq_some, streamOf_eq_some, ranged_eq_some]
    simp only [Nat.zero_le, true_and]
  · intro ident old fewer
    refine ⟨fun i f hr => ?_, fun t => ?_, fun i f hr => ?_, fun v => ⟨fun a ha => ?_, fun ha => ?_⟩, fun v hv => ?_,
      fun v hlo hhi => ⟨fun hnone => ?_, fun gone last kept hjournal hlast hgone => ?_⟩, fun i k n hr => ?_,
      fun i k kg hr => ?_⟩
    · refine congrArg Host.Outcome.next ?_
      by_cases hfull : old f.token = none ∧ 512 ≤ s.ret.ident.vehicles.length
      · rw [if_pos hfull]
        exact takeSite_guarded (es := []) (u := s) ht hw hr fun p q => vehicleWrites_full hfull
      · rw [if_neg hfull]
        refine takeSite_guarded ht hw hr fun p q => (vehicleWrites_writes (s := onPort s p q) hfull).trans ?_
        rw [writtenVehicle_eq]
        rfl
    · refine congrArg Host.Outcome.next ?_
      by_cases hnone : old t = none
      · rw [if_pos hnone]
        exact takeSite_guarded (es := []) (u := s) ht hw rfl fun p q => vehicleDeletes_notFound hnone
      · rw [if_neg hnone]
        by_cases huse : (∃ v ∈ s.ret.traffic.visits, v.token = t)
            ∨ ∃ n ∈ Lane.all, (s.lane n).identity.map (fun i => i.token) = some t
        · rw [if_pos huse]
          exact takeSite_guarded (es := []) (u := s) ht hw rfl fun p q => vehicleDeletes_inUse hnone huse
        · rw [if_neg huse]
          exact takeSite_guarded ht hw rfl fun p q => vehicleDeletes_deletes (s := onPort s p q) hnone huse
    · exact congrArg Host.Outcome.next (takeSite_guarded ht hw hr fun p q => rfl)
    · have hr : periodAccounts v = some (some a) := by
        have hlt := a.isLt
        rw [periodAccounts, if_neg (by omega), dif_pos (by omega)]
        exact congrArg (fun x => some (some x)) (Fin.ext ha)
      exact congrArg Host.Outcome.next (takeSite_guarded ht hw hr fun p q => rfl)
    · exact congrArg Host.Outcome.next (takeSite_guarded ht hw (if_pos ha) fun p q => rfl)
    · exact congrArg Host.Outcome.next (takeSite_guarded_bad ht (if_neg (by rw [Config.ticketMax]; omega)))
    · refine congrArg Host.Outcome.next (takeSite_guarded (es := []) (u := s) ht hw (if_pos ⟨hlo, hhi⟩) fun p q => ?_)
      unfold State.ticketsReleased
      rw [onPort_ret, splitJournal_none hnone]
      rfl
    · intro used released closes
      have hr : ticketOf v = some v.toNat := if_pos ⟨hlo, hhi⟩
      have hsplit := splitJournal_some kept hlast hgone
      have hused : ((gone ++ [last]).any fun x => s.ticketInUse x.number) = true ↔ used := by
        simp only [List.any_eq_true, ticketInUse_iff]
        exact Iff.rfl
      refine ⟨fun hyes => ?_, fun hno => ⟨(released.journalOrder).foldl State.heldClose released, ?_, ?_⟩⟩
      · refine congrArg Host.Outcome.next (takeSite_guarded (es := []) (u := s) ht hw hr fun p q => ?_)
        unfold State.ticketsReleased
        rw [onPort_ret, hjournal, hsplit]
        exact if_pos (hused.mpr hyes)
      · exact closeNext_foldl (s := released) ht.1 _
      · refine congrArg Host.Outcome.next (takeSite_acknowledges ht fun p => ?_)
        refine (guarded_ok (s := withLink s.heard p) hr (decide_eq_false hw)).trans ?_
        unfold State.ticketsReleased
        rw [show (withLink s.heard p).ret = s.ret from rfl, hjournal, hsplit]
        refine (if_neg fun hh => hno (hused.mp hh)).trans (congrArg (·, ResultCode.ok) ?_)
        exact withLink_heldCloses (s := released) _
    · refine congrArg Host.Outcome.next ?_
      cases hx : s.ticketNumbered k with
      | none =>
        exact takeSite_guarded (es := []) (u := s) ht hw hr fun p q => ticketReprints_notFound hx
      | some x =>
        cases hp : (s.laneSettings n).printer with
        | none =>
          exact takeSite_guarded (es := []) (u := s) ht hw hr fun p q => ticketReprints_wrongState hx hp
        | some address =>
          dsimp only
          by_cases hlimit : 255 ≤ x.copies
          · rw [if_pos hlimit]
            refine takeSite_guarded (es := []) (u := s) ht hw hr fun p q => ?_
            exact (ticketReprints_queues (s := onPort s p q) hx hp).trans (if_pos hlimit)
          rw [if_neg hlimit]
          by_cases hroom : 8 ≤ s.printing.queue.length ∨ 4 ≤ (s.printing.queue.filter fun j => j.copy).length
          · rw [if_pos hroom]
            refine takeSite_guarded (es := []) (u := s) ht hw hr fun p q => ?_
            exact (ticketReprints_queues (s := onPort s p q) hx hp).trans ((if_neg hlimit).trans (if_pos hroom))
          · rw [if_neg hroom]
            refine takeSite_guarded ht hw hr fun p q => ?_
            exact (ticketReprints_queues (s := onPort s p q) hx hp).trans ((if_neg hlimit).trans (if_neg hroom))
    · exact congrArg Host.Outcome.next (takeSite_guarded ht hw hr stockSet_acts)

end Sys2Proof.Proofs
end

section
/-! A restart: what befalls the open visits (R163), and how the lanes begin again by their closed flags (R117, R212). -/

namespace Sys2Proof.Proofs
open Sys2Proof Sys2Proof.Machine

variable {s t u : State} {n : Lane} {v : Visit}

/-! ### The open visits at a restart (R163) -/

/-- A visit that stays open, as a restart leaves it. -/
def treatedVisit (v : Visit) : Visit :=
  match v.state with
  | .entering => { v with state := .onSite }
  | .heldOut => returnedVisit v
  | .overweight => returnedVisit v
  | .heldIn => v
  | .onSite => v

/-- A change of the one visit of a number, among others of other numbers. -/
theorem changeVisit_split {f : Visit → Visit} {done rest : List Visit} (hdone : ∀ u ∈ done, u.number ≠ v.number)
    (hrest : ∀ u ∈ rest, u.number ≠ v.number) :
    changeVisit v.number f (done ++ v :: rest) = done ++ f v :: rest := by
  rw [changeVisit, List.map_append, List.map_cons, if_pos rfl]
  congr 1
  · exact (List.map_congr_left fun u hu => if_neg (hdone u hu)).trans (List.map_id' _)
  · congr 1
    exact (List.map_congr_left fun u hu => if_neg (hrest u hu)).trans (List.map_id' _)

theorem dropVisit_split {done rest : List Visit} (hdone : ∀ u ∈ done, u.number ≠ v.number)
    (hrest : ∀ u ∈ rest, u.number ≠ v.number) : dropVisit v.number (done ++ v :: rest) = done ++ rest := by
  have hkeep {us : List Visit} (hus : ∀ u ∈ us, u.number ≠ v.number) : dropVisit v.number us = us :=
    List.filter_eq_self.mpr fun u hu => by simpa using hus u hu
  have happend (us ws : List Visit) : dropVisit v.number (us ++ ws) = dropVisit v.number us ++ dropVisit v.number ws :=
    List.filter_append ..
  have hcons : dropVisit v.number (v :: rest) = dropVisit v.number rest := List.filter_cons_of_neg (by simp)
  rw [happend, hkeep hdone, hcons, hkeep hrest]

theorem treatVisit_visits {done rest : List Visit} (hvisits : s.ret.traffic.visits = done ++ v :: rest)
    (hdone : ∀ u ∈ done, u.number ≠ v.number) (hrest : ∀ u ∈ rest, u.number ≠ v.number) :
    (s.treatVisit v).ret.traffic.visits = done ++ (if v.state = .heldIn then [] else [treatedVisit v]) ++ rest := by
  have hchange (f : Visit → Visit) : (s.modVisit v.number f).ret.traffic.visits = done ++ f v :: rest :=
    (congrArg (changeVisit v.number f) hvisits).trans (changeVisit_split hdone hrest)
  unfold State.treatVisit treatedVisit
  cases hst : v.state with
  | heldIn =>
    rw [if_pos rfl, List.append_nil]
    rw [cancelVisit_visits, hvisits, dropVisit_split hdone hrest]
  | onSite => rw [if_neg nofun, List.append_assoc]; exact hvisits
  | _ => rw [if_neg nofun, List.append_assoc]; exact hchange _

theorem treatVisits_visits : ∀ (vs : List Visit) (s : State) (done : List Visit),
    s.ret.traffic.visits = done ++ vs → ((done ++ vs).map (·.number)).Pairwise (· ≠ ·) →
    (s.treatVisits vs).ret.traffic.visits
      = done ++ (vs.filter fun v => v.state != .heldIn).map treatedVisit
  | [], s, done, hvisits, _ => hvisits
  | v :: vs, s, done, hvisits, hpairs => by
    have hnums := hpairs
    rw [List.map_append, List.map_cons, List.pairwise_append, List.pairwise_cons] at hnums
    obtain ⟨hdones, ⟨hhead, htail⟩, hacross⟩ := hnums
    have hdone : ∀ u ∈ done, u.number ≠ v.number := fun u hu =>
      hacross _ (List.mem_map_of_mem hu) _ List.mem_cons_self
    have hrest : ∀ u ∈ vs, u.number ≠ v.number := fun u hu => (hhead _ (List.mem_map_of_mem hu)).symm
    have hstep := treatVisit_visits hvisits hdone hrest
    have hnumber : (treatedVisit v).number = v.number := by unfold treatedVisit; cases v.state <;> rfl
    have hkept : ((done ++ (if v.state = .heldIn then [] else [treatedVisit v]) ++ vs).map (·.number)).Pairwise (· ≠ ·) := by
      refine hpairs.sublist ?_
      split
      · simp
      · simp [hnumber]
    refine (treatVisits_visits vs (s.treatVisit v) _ hstep hkept).trans ?_
    by_cases hst : v.state = .heldIn
    · simp [hst]
    · simp [hst]

/-- What the treatment of the visits keeps in retained memory: all but the visits themselves and the sums of their
reservations. -/
structure Treats (r q : Retained) : Prop where
  vehicles : q.ident.vehicles = r.ident.vehicles
  provisional : q.ident.provisional = r.ident.provisional
  accounts : ∀ a : Fin 256, q.ident.accounts.get a
    = { r.ident.accounts.get a with pending := (q.ident.accounts.get a).pending }
  streams : ∀ k : Fin 8, q.traffic.streams.get k
    = { r.traffic.streams.get k with reserved := (q.traffic.streams.get k).reserved }
  counter : q.traffic.counter = r.traffic.counter
  accepted : q.traffic.accepted = r.traffic.accepted
  lastTime : q.traffic.lastTime = r.traffic.lastTime

theorem Treats.refl (r : Retained) : Treats r r := ⟨rfl, rfl, fun _ => rfl, fun _ => rfl, rfl, rfl, rfl⟩

theorem Treats.trans {r q x : Retained} (h : Treats r q) (g : Treats q x) : Treats r x where
  vehicles := g.vehicles.trans h.vehicles
  provisional := g.provisional.trans h.provisional
  accounts a := (g.accounts a).trans (by rw [h.accounts a])
  streams k := (g.streams k).trans (by rw [h.streams k])
  counter := g.counter.trans h.counter
  accepted := g.accepted.trans h.accepted
  lastTime := g.lastTime.trans h.lastTime

theorem treats_cancelled : Treats s.ret (s.cancelled v) where
  vehicles := rfl
  provisional := rfl
  accounts a := by
    refine (vector_get_set ..).trans (Eq.trans ?_
      (congrArg (fun x : Account => { s.ret.ident.accounts.get a with pending := x.pending }) (vector_get_set ..)).symm)
    split
    · next h => subst h; rfl
    · rfl
  streams k := by
    refine (vector_get_set ..).trans (Eq.trans ?_
      (congrArg (fun x : StreamTotals => { s.ret.traffic.streams.get k with reserved := x.reserved })
        (vector_get_set ..)).symm)
    split
    · next h => subst h; rfl
    · rfl
  counter := rfl
  accepted := rfl
  lastTime := rfl

theorem treats_treatVisit (s : State) (v : Visit) : Treats s.ret (s.treatVisit v).ret := by
  have hchange (f : Visit → Visit) : Treats s.ret (s.modVisit v.number f).ret :=
    ⟨rfl, rfl, fun _ => rfl, fun _ => rfl, rfl, rfl, rfl⟩
  unfold State.treatVisit
  cases v.state with
  | heldIn =>
    dsimp only
    rw [cancelVisit_eq]
    exact treats_cancelled
  | onSite => exact .refl _
  | _ => exact hchange _

theorem treats_treatVisits : ∀ (vs : List Visit) (s : State), Treats s.ret (s.treatVisits vs).ret
  | [], s => .refl s.ret
  | v :: vs, s => (treats_treatVisit s v).trans (treats_treatVisits vs (s.treatVisit v))

/-! ### What the treatment posts -/

/-- A level of a stream crossed, as an event. -/
def levelEvent (s : State) (x : Fin 8 × Nat × Bool) : Event :=
  s.event .streamLevel none (.stream x.1) (.level x.2.1 x.2.2)

/-- The levels that the cancellations of the held visits cross, in the order of the visits. -/
def releasedLevels (s : State) (vs : List Visit) : List (Fin 8 × Nat × Bool) :=
  levelsReleased (fun k => (s.streamSettings k).levels) s.ret.traffic.streams (vs.filter fun v => v.state == .heldIn)

theorem treatVisit_frame (s : State) (v : Visit) :
    Keeps { traffic := true, ident := true, events := true } s (s.treatVisit v) := keeps_treatVisit rfl rfl rfl

theorem treatVisit_streams_kept (h : v.state ≠ .heldIn) :
    (s.treatVisit v).ret.traffic.streams = s.ret.traffic.streams ∧ (s.treatVisit v).events = s.events := by
  unfold State.treatVisit
  cases hst : v.state with
  | heldIn => exact absurd hst h
  | _ => exact ⟨rfl, rfl⟩

theorem treatVisits_events : ∀ (vs : List Visit) (s : State),
    (s.treatVisits vs).events = s.eventsAfter ((releasedLevels s vs).map (levelEvent s))
  | [], s => rfl
  | v :: vs, s => by
    have hframe := treatVisit_frame s v
    have hlevels : (fun k => ((s.treatVisit v).streamSettings k).levels) = fun k => (s.streamSettings k).levels :=
      funext fun k => by rw [State.streamSettings, State.streamSettings, hframe.settings rfl]
    have hnow : levelEvent (s.treatVisit v) = levelEvent s := funext fun x => by
      rw [levelEvent, levelEvent, State.event, State.event, State.now, State.now, hframe.clock rfl]
    refine (treatVisits_events vs (s.treatVisit v)).trans ?_
    by_cases hst : v.state = .heldIn
    · have hcancel : s.treatVisit v = s.posted (s.cancelEvents v) (s.storing (s.cancelled v)) := by
        rw [State.treatVisit, hst]
        exact cancelVisit_eq v
      have hstreams : (s.treatVisit v).ret.traffic.streams = s.ret.traffic.streams.set v.stream
          { s.streamTotals v.stream with reserved := (s.streamTotals v.stream).reserved - v.blocks } := by
        rw [hcancel]
        rfl
      have hevents : (s.treatVisit v).events = s.eventsAfter (s.cancelEvents v) := by
        rw [hcancel]
        rfl
      have hfirst : releasedLevels s (v :: vs) = (crossedLevels (s.streamSettings v.stream).levels
          (committed (s.streamTotals v.stream)) ((s.streamTotals v.stream).stock
            + 500 * ((s.streamTotals v.stream).reserved - v.blocks))).map (fun x => (v.stream, x))
          ++ releasedLevels (s.treatVisit v) vs := by
        rw [releasedLevels, releasedLevels, hlevels, hstreams, List.filter_cons_of_pos (by simpa using hst)]
        rfl
      have hposted : s.cancelEvents v = ((crossedLevels (s.streamSettings v.stream).levels
          (committed (s.streamTotals v.stream)) ((s.streamTotals v.stream).stock
            + 500 * ((s.streamTotals v.stream).reserved - v.blocks))).map (fun x => (v.stream, x))).map (levelEvent s) := by
        rw [List.map_map]
        rfl
      rw [hnow, hfirst, List.map_append, ← hposted, eventsAfter_append, ← hevents]
      rfl
    · obtain ⟨hstreams, hevents⟩ := treatVisit_streams_kept (s := s) hst
      rw [hnow, State.eventsAfter, hevents, releasedLevels, hlevels, hstreams, releasedLevels,
        List.filter_cons_of_neg (by simpa using hst)]
      rfl

/-! ### Every lane in turn -/

/-- What an operation makes of a lane, from what it reads of that lane, when the same operation on the other lanes leaves
both alone. -/
theorem eachLane_out {α β : Type} {f : State → Lane → State} (reads : State → Lane → β) (out : State → Lane → α)
    (make : β → α) (hself : ∀ s n, out (f s n) n = make (reads s n))
    (hout : ∀ s m n, m ≠ n → out (f s m) n = out s n) (hreads : ∀ s m n, m ≠ n → reads (f s m) n = reads s n)
    (s : State) (n : Lane) : out (s.eachLane f) n = make (reads s n) := by
  unfold State.eachLane
  cases n with
  | one =>
    rw [hout _ _ _ (by decide), hout _ _ _ (by decide), hout _ _ _ (by decide), hself]
  | two =>
    rw [hout _ _ _ (by decide), hout _ _ _ (by decide), hself, hreads _ _ _ (by decide)]
  | three =>
    rw [hout _ _ _ (by decide), hself, hreads _ _ _ (by decide), hreads _ _ _ (by decide)]
  | four =>
    rw [hself, hreads _ _ _ (by decide), hreads _ _ _ (by decide), hreads _ _ _ (by decide)]

theorem eachLane_keeps {α : Type} {f : State → Lane → State} (view : State → α)
    (hf : ∀ s n, view (f s n) = view s) (s : State) : view (s.eachLane f) = view s := by
  unfold State.eachLane
  rw [hf, hf, hf, hf]

/-! ### How a lane begins again (R117, R212) -/

/-- What a lane's restart reads of its site and its yard. -/
structure LaneStart where
  cfg : LaneSettings
  siteClosed : Bool
  cause : Bool
  occupied : Bool
  barrier : Barrier
  clear : LoopReport

/-- What the restart of a lane reads. -/
def laneStart (s : State) (n : Lane) : LaneStart :=
  ⟨s.laneSettings n, s.siteClosed, s.suspendCause n, decide ((s.deck n).occupancy = .occupied), s.barrier n,
    s.clearReport n⟩

/-- The state a lane begins again in. -/
def LaneStart.state (x : LaneStart) : LaneState :=
  if x.cfg.closed || x.siteClosed then .closed else if x.cause then .suspended else if x.occupied then .occupied else .idle

/-- A lane as its restart leaves it, with its settings and its barrier. -/
def LaneStart.restarted (x : LaneStart) : LaneSeq × LaneSettings × Barrier :=
  (startLane x.state, { x.cfg with closed := x.cfg.closed || x.siteClosed },
    if x.cfg.closed || x.siteClosed then Barrier.obeyed x.cfg.barrier x.clear .down x.barrier else x.barrier)

theorem restartLane_closed (h : ((s.laneSettings n).closed || s.siteClosed) = true) : s.restartLane n =
    { s.storing { s.ret with
        settings := { s.ret.settings with
          lanes := s.ret.settings.lanes.set n { s.laneSettings n with closed := true } } } with
      lanes := s.lanes.set n (startLane .closed), barriers := s.obeying n .down } := by
  refine (if_pos h).trans (enterClosed_eq.trans ?_)
  simp only [State.modLane, Quad.upd, State.lane, Quad.get_set_self, quad_set_set]
  rfl

theorem restartLane_opens (h : ((s.laneSettings n).closed || s.siteClosed) = false) : s.restartLane n =
    { s with lanes := s.lanes.set n (startLane (laneStart s n).state) } := by
  have hcloses : ¬(((s.modLane n fun _ => startLane .idle).lane n).closePending = true
      ∨ s.ret.settings.siteMode = .closed) := by
    rw [Bool.or_eq_false_iff] at h
    rintro (hpending | hsite)
    · rw [State.lane, State.modLane, Quad.get_upd_self] at hpending
      cases hpending
    · exact Bool.false_ne_true (h.2.symm.trans (decide_eq_true hsite))
  have hstate : (laneStart s n).state = if s.suspendCause n = true then .suspended
      else if (s.deck n).occupancy = .occupied then .occupied else .idle := by
    unfold LaneStart.state laneStart
    dsimp only
    rw [if_neg (Bool.eq_false_iff.mp h)]
    simp only [decide_eq_true_eq]
  refine (if_neg (Bool.eq_false_iff.mp h)).trans (enterIdle_eq.trans ((if_neg hcloses).trans ?_))
  simp only [State.modLane, Quad.upd, State.lane, Quad.get_set_self, quad_set_set]
  rw [hstate]
  rfl

/-- What a restart leaves of a lane. -/
def laneOut (s : State) (n : Lane) : LaneSeq × LaneSettings × Barrier := (s.lane n, s.laneSettings n, s.barrier n)

theorem restarted_of_closes {x : LaneStart} (h : (x.cfg.closed || x.siteClosed) = true) : x.restarted =
    (startLane .closed, { x.cfg with closed := true }, Barrier.obeyed x.cfg.barrier x.clear .down x.barrier) := by
  unfold LaneStart.restarted LaneStart.state
  rw [h]
  rfl

theorem restarted_of_opens {x : LaneStart} (h : (x.cfg.closed || x.siteClosed) = false) :
    x.restarted = (startLane x.state, x.cfg, x.barrier) := by
  have hclosed : x.cfg.closed = false := (Bool.or_eq_false_iff.mp h).1
  unfold LaneStart.restarted
  rw [h]
  exact congrArg (fun c => (startLane x.state, { x.cfg with closed := c }, x.barrier)) hclosed.symm

theorem restartLane_out (s : State) (n : Lane) : laneOut (s.restartLane n) n = (laneStart s n).restarted := by
  cases h : (s.laneSettings n).closed || s.siteClosed with
  | true =>
    rw [restartLane_closed h, restarted_of_closes h]
    exact Prod.ext (Quad.get_set_self ..) (Prod.ext (Quad.get_set_self ..) (Quad.get_upd_self ..))
  | false =>
    rw [restartLane_opens h, restarted_of_opens h]
    exact congrArg (·, s.laneSettings n, s.barrier n) (Quad.get_set_self ..)

theorem suspendCause_at (hreasons : u.reasons n = s.reasons n) (hbarrier : u.barrier n = s.barrier n)
    (hloops : u.loops = s.loops) : u.suspendCause n = s.suspendCause n := by
  simp only [State.suspendCause, State.barrierFaulted, State.deckValid, State.loop, hreasons, hbarrier, hloops]
  rfl

/-- The restart of another lane. -/
theorem restartLane_others (s : State) (m n : Lane) (hne : m ≠ n) :
    laneOut (s.restartLane m) n = laneOut s n ∧ laneStart (s.restartLane m) n = laneStart s n := by
  have hset {α : Type} (q : Quad α) (a : α) : (q.set m a).get n = q.get n := Quad.get_set_ne _ _ _ _ hne.symm
  cases h : (s.laneSettings m).closed || s.siteClosed with
  | true =>
    have hbarrier : (s.obeying m .down).get n = s.barrier n := hset ..
    have hcause : (s.restartLane m).suspendCause n = s.suspendCause n := by
      rw [restartLane_closed h]
      exact suspendCause_at (s := s) rfl hbarrier rfl
    have hsettings : (s.ret.settings.lanes.set m { s.laneSettings m with closed := true }).get n = s.laneSettings n :=
      hset ..
    unfold laneStart
    rw [hcause, restartLane_closed h]
    refine ⟨Prod.ext (hset ..) (Prod.ext hsettings hbarrier), ?_⟩
    exact congrArg₂ (fun c b => LaneStart.mk c s.siteClosed (s.suspendCause n)
      (decide ((s.deck n).occupancy = .occupied)) b (s.clearReport n)) hsettings hbarrier
  | false =>
    rw [restartLane_opens h]
    exact ⟨congrArg (·, s.laneSettings n, s.barrier n) (hset ..), rfl⟩

theorem restartLanes_out (s : State) (n : Lane) :
    laneOut (s.eachLane State.restartLane) n = (laneStart s n).restarted :=
  eachLane_out laneStart laneOut LaneStart.restarted restartLane_out
    (fun s m n hne => (restartLane_others s m n hne).1) (fun s m n hne => (restartLane_others s m n hne).2) s n

/-- The settings of the site, but for the closed flags of the lanes. -/
def siteSettings (s : State) : Settings := { s.ret.settings with lanes := Quad.fill (factoryLane 0) }

theorem restartLane_siteSettings (s : State) (n : Lane) : siteSettings (s.restartLane n) = siteSettings s := by
  cases h : (s.laneSettings n).closed || s.siteClosed with
  | true =>
    rw [restartLane_closed h]
    rfl
  | false =>
    rw [restartLane_opens h]
    rfl

theorem restartLanes_settings (s : State) : (s.eachLane State.restartLane).ret.settings
    = { s.ret.settings with lanes := (s.eachLane State.restartLane).ret.settings.lanes } :=
  congrArg (fun x : Settings => { x with lanes := (s.eachLane State.restartLane).ret.settings.lanes })
    (eachLane_keeps siteSettings restartLane_siteSettings s)

theorem restartLanes_frame (s : State) :
    Keeps { lanes := true, settings := true, barriers := true } s (s.eachLane State.restartLane) :=
  Keeps.eachLane (fun _ _ => keeps_restartLane rfl rfl rfl) s

end Sys2Proof.Proofs
end

section
/-! O47: the SITE, DAY, TIME and RESET records (R117, R163, R199, R212). -/

namespace Sys2Proof.Proofs
open Sys2Proof Sys2Proof.Machine

variable {s t u : State} {h : RecHead} {n : Lane}

/-! ### The site closes -/

/-- A state of which the lanes, their settings and their barriers alone have changed, and whose checks are formed. -/
theorem state_of_lanes (hkeeps : Keeps { lanes := true, settings := true, barriers := true } s t)
    (hchecks : t.checks = t.ret.checks) (hcopy : t.copy = .empty) {cfg : Settings} {ls : Quad LaneSeq}
    {bs : Quad Barrier} (hcfg : t.ret.settings = cfg) (hls : t.lanes = ls) (hbs : t.barriers = bs) :
    t = { s.storing { s.ret with settings := cfg } with lanes := ls, barriers := bs } := by
  obtain ⟨hcal, _, hident, htraffic, htickets, hacq, hdecks, hloops, _, hreaders, hlists, _, hjournal, hclock, hlink,
    hevents, hprinting, hpower, _, _, hpending⟩ := hkeeps
  have hret : t.ret = { s.ret with settings := cfg } :=
    retained_ext (hcal rfl) hcfg (hident rfl) (htraffic rfl) (htickets rfl)
  rw [hret] at hchecks
  rcases t with ⟨ret, checks, copy, acq, decks, loops, barriers, readers, lists, lanes, journalOrder, clock, link, events,
    printing, power, pending⟩
  dsimp only at *
  rw [hret, hchecks, hcopy, hacq rfl, hdecks rfl, hloops rfl, hbs, hreaders rfl, hlists rfl, hls, hjournal rfl,
    hclock rfl, hlink rfl, hevents rfl, hprinting rfl, hpower rfl, hpending]
  rfl

/-- What a lane's part in the site's closing reads: the lane, its settings, its barrier and its clear loop. -/
def closeReads (s : State) (n : Lane) : LaneSeq × LaneSettings × Barrier × LoopReport :=
  (s.lane n, s.laneSettings n, s.barrier n, s.clearReport n)

/-- A lane as the site's closing leaves it, with its settings and its barrier. -/
def closedBySite (x : LaneSeq × LaneSettings × Barrier × LoopReport) : LaneSeq × LaneSettings × Barrier :=
  match x.1.state with
  | .idle =>
    ({ x.1 with state := .closed }, { x.2.1 with closed := true },
      Barrier.obeyed x.2.1.barrier x.2.2.2 .down x.2.2.1)
  | .closed => (x.1, x.2.1, x.2.2.1)
  | _ => ({ x.1 with closePending := true }, x.2.1, x.2.2.1)

theorem siteClosesLane_idle (hst : (s.lane n).state = .idle) : s.siteClosesLane n = s.enterClosed n := by
  unfold State.siteClosesLane
  rw [hst]

theorem siteClosesLane_closed (hst : (s.lane n).state = .closed) : s.siteClosesLane n = s := by
  unfold State.siteClosesLane
  rw [hst]

theorem siteClosesLane_busy (hidle : (s.lane n).state ≠ .idle) (hclosed : (s.lane n).state ≠ .closed) :
    s.siteClosesLane n = s.modLane n fun l => { l with closePending := true } := by
  unfold State.siteClosesLane
  split
  · next h => exact absurd h hidle
  · next h => exact absurd h hclosed
  · rfl

theorem closedBySite_idle {x : LaneSeq × LaneSettings × Barrier × LoopReport} (hidle : x.1.state = .idle) :
    closedBySite x = ({ x.1 with state := .closed }, { x.2.1 with closed := true },
      Barrier.obeyed x.2.1.barrier x.2.2.2 .down x.2.2.1) := by
  unfold closedBySite
  split
  · rfl
  · next h => cases hidle.symm.trans h
  · next h _ => exact absurd hidle h

theorem closedBySite_busy {x : LaneSeq × LaneSettings × Barrier × LoopReport} (hidle : x.1.state ≠ .idle)
    (hclosed : x.1.state ≠ .closed) : closedBySite x = ({ x.1 with closePending := true }, x.2.1, x.2.2.1) := by
  unfold closedBySite
  split
  · next h => exact absurd h hidle
  · next h => exact absurd h hclosed
  · rfl

theorem siteClosesLane_out (s : State) (n : Lane) : laneOut (s.siteClosesLane n) n = closedBySite (closeReads s n) := by
  by_cases hidle : (s.lane n).state = .idle
  · rw [siteClosesLane_idle hidle, enterClosed_eq, closedBySite_idle hidle]
    exact Prod.ext (Quad.get_set_self ..) (Prod.ext (Quad.get_set_self ..) (Quad.get_upd_self ..))
  · by_cases hclosed : (s.lane n).state = .closed
    · rw [siteClosesLane_closed hclosed]
      unfold closedBySite closeReads
      dsimp only
      rw [hclosed]
      rfl
    · rw [siteClosesLane_busy hidle hclosed, closedBySite_busy hidle hclosed]
      exact congrArg (·, s.laneSettings n, s.barrier n) (Quad.get_upd_self ..)

theorem siteClosesLane_others (s : State) (m n : Lane) (hne : m ≠ n) :
    closeReads (s.siteClosesLane m) n = closeReads s n := by
  have hset {α : Type} (q : Quad α) (a : α) : (q.set m a).get n = q.get n := Quad.get_set_ne _ _ _ _ hne.symm
  by_cases hidle : (s.lane m).state = .idle
  · rw [siteClosesLane_idle hidle, enterClosed_eq]
    exact Prod.ext (hset ..) (Prod.ext (hset ..) (Prod.ext (hset ..) rfl))
  · by_cases hclosed : (s.lane m).state = .closed
    · rw [siteClosesLane_closed hclosed]
    · rw [siteClosesLane_busy hidle hclosed]
      exact congrArg (·, s.laneSettings n, s.barrier n, s.clearReport n) (hset ..)

theorem siteClosesLanes_out (s : State) (n : Lane) :
    laneOut (s.eachLane State.siteClosesLane) n = closedBySite (closeReads s n) := by
  refine eachLane_out closeReads laneOut closedBySite siteClosesLane_out (fun s m n hne => ?_)
    siteClosesLane_others s n
  have hsame := siteClosesLane_others s m n hne
  exact congrArg (fun x : LaneSeq × LaneSettings × Barrier × LoopReport => (x.1, x.2.1, x.2.2.1)) hsame

/-- The settings as the site's closing leaves them. -/
def siteClosedSettings (s : State) : Settings :=
  { s.ret.settings with
    siteMode := .closed
    lanes := Quad.ofFn fun n =>
      { s.laneSettings n with closed := (s.laneSettings n).closed || decide ((s.lane n).state = .idle) } }

theorem siteClosesLane_siteSettings (s : State) (n : Lane) : siteSettings (s.siteClosesLane n) = siteSettings s := by
  by_cases hidle : (s.lane n).state = .idle
  · rw [siteClosesLane_idle hidle, enterClosed_eq]
    rfl
  · by_cases hclosed : (s.lane n).state = .closed
    · rw [siteClosesLane_closed hclosed]
    · rw [siteClosesLane_busy hidle hclosed]
      rfl

/-- The settings after the site's closing, on a state whose mode is written already. -/
theorem siteClosesLanes_settings (s : State) : (s.eachLane State.siteClosesLane).ret.settings
    = { s.ret.settings with
        lanes := Quad.ofFn fun n =>
          { s.laneSettings n with closed := (s.laneSettings n).closed || decide ((s.lane n).state = .idle) } } := by
  refine (congrArg (fun x : Settings => { x with lanes := (s.eachLane State.siteClosesLane).ret.settings.lanes })
    (eachLane_keeps siteSettings siteClosesLane_siteSettings s)).trans ?_
  refine congrArg (fun q => { s.ret.settings with lanes := q }) (Quad.ext_get fun n => ?_)
  have hout := congrArg (fun x : LaneSeq × LaneSettings × Barrier => x.2.1) (siteClosesLanes_out s n)
  refine (show _ = _ from hout).trans (Eq.trans ?_ (Quad.get_ofFn ..).symm)
  unfold closedBySite closeReads
  dsimp only
  cases hst : (s.lane n).state <;> simp

theorem siteClosesLanes_lanes (s : State) : (s.eachLane State.siteClosesLane).lanes = s.lanes.map fun l =>
    match l.state with
    | .idle => { l with state := .closed }
    | .closed => l
    | _ => { l with closePending := true } := by
  refine Quad.ext_get fun n => ?_
  have hout := congrArg (fun x : LaneSeq × LaneSettings × Barrier => x.1) (siteClosesLanes_out s n)
  refine (show _ = _ from hout).trans (Eq.trans ?_ (Quad.get_map ..).symm)
  unfold closedBySite closeReads State.lane
  dsimp only
  cases hst : (s.lanes.get n).state <;> rfl

theorem siteClosesLanes_barriers (s : State) : (s.eachLane State.siteClosesLane).barriers = Quad.ofFn fun n =>
    if (s.lane n).state = .idle then (s.obeying n .down).get n else s.barrier n := by
  refine Quad.ext_get fun n => ?_
  have hout := congrArg (fun x : LaneSeq × LaneSettings × Barrier => x.2.2) (siteClosesLanes_out s n)
  have hobeying : (s.obeying n .down).get n
      = Barrier.obeyed (s.laneSettings n).barrier (s.clearReport n) .down (s.barrier n) := Quad.get_upd_self ..
  refine (show _ = _ from hout).trans (Eq.trans ?_ (Quad.get_ofFn ..).symm)
  rw [hobeying]
  unfold closedBySite closeReads
  dsimp only
  cases hst : (s.lane n).state <;> rfl

theorem siteClosesLanes_stored (s : State) : Stored s (s.eachLane State.siteClosesLane) :=
  (Upholds.eachLane (c := ⟨fun _ => True, fun _ => True, True, True⟩)
    (fun _ _ => upholds_siteClosesLane trivial) s).stored

/-- Checks formed at a last update stay formed. -/
theorem Stored.formed (h : Stored s t) (hchecks : s.checks = s.ret.checks) (hcopy : s.copy = .empty) :
    t.checks = t.ret.checks ∧ t.copy = .empty := by
  rcases h with ⟨hret, hsame, hempty⟩ | hformed
  · exact ⟨hsame.trans (hchecks.trans (congrArg Retained.checks hret.symm)), hempty.trans hcopy⟩
  · exact hformed

theorem siteCloses_acts : Acts State.siteCloses s .ok []
    { s.storing { s.ret with settings := siteClosedSettings s } with
      lanes := s.lanes.map fun l =>
        match l.state with
        | .idle => { l with state := .closed }
        | .closed => l
        | _ => { l with closePending := true }
      barriers := Quad.ofFn fun n =>
        if (s.lane n).state = .idle then (s.obeying n .down).get n else s.barrier n } := by
  intro p q
  refine congrArg (·, ResultCode.ok) ?_
  obtain ⟨hchecks, hcopy⟩ : _ ∧ _ := (siteClosesLanes_stored
    ((onPort s p q).modSettings fun t => { t with siteMode := .closed })).formed rfl rfl
  exact state_of_lanes (Keeps.eachLane (fun _ _ => keeps_siteClosesLane rfl rfl rfl) _) hchecks hcopy
    (siteClosesLanes_settings _) (siteClosesLanes_lanes _) (siteClosesLanes_barriers _)

/-! ### The restart of the lanes -/

theorem laneStart_congr (hcal : t.ret.cal = s.ret.cal) (hsettings : t.ret.settings = s.ret.settings)
    (hdecks : t.decks = s.decks) (hloops : t.loops = s.loops) (hbarriers : t.barriers = s.barriers) (n : Lane) :
    laneStart t n = laneStart s n := by
  have hbarrier : t.barrier n = s.barrier n := barrier_congr hbarriers n
  have hreasons : t.reasons n = s.reasons n := by
    simp only [State.reasons, State.cal, State.deck, hcal, hdecks]
  have hclear : t.clearReport n = s.clearReport n := by
    rw [State.clearReport, State.clearReport, State.loop, State.loop, hloops]
  have hsite : t.siteClosed = s.siteClosed := by rw [State.siteClosed, State.siteClosed, hsettings]
  unfold laneStart
  rw [State.laneSettings, hsettings, State.deck, hdecks, suspendCause_at hreasons hbarrier hloops, hbarrier, hclear,
    hsite]
  rfl

theorem commands_frame (d : Toward) (s : State) :
    Keeps { barriers := true } s (s.eachLane fun t n => t.command n d) := Keeps.eachLane (fun _ _ => keeps_command rfl) s

theorem obeyed_idem (cfg : BarrierSettings) (clear : LoopReport) (d : Toward) (b : Barrier) :
    Barrier.obeyed cfg clear d (Barrier.obeyed cfg clear d b) = Barrier.obeyed cfg clear d b := by
  have hsought (b : Barrier) : (Barrier.sought cfg clear b).target = b.target := by
    unfold Barrier.sought
    split <;> (try split) <;> rfl
  have htarget : (Barrier.obeyed cfg clear d b).target = d := by
    unfold Barrier.obeyed
    split
    · assumption
    · split
      · rfl
      · exact hsought _
  exact if_pos htarget

/-- Each barrier commanded in turn. -/
theorem commands_barrier (d : Toward) (s : State) (n : Lane) : (s.eachLane fun t n => t.command n d).barrier n
    = Barrier.obeyed (s.laneSettings n).barrier (s.clearReport n) d (s.barrier n) := by
  refine eachLane_out (fun s n => ((s.laneSettings n).barrier, s.clearReport n, s.barrier n)) State.barrier
    (fun x => Barrier.obeyed x.1 x.2.1 d x.2.2) (fun s n => ?_) (fun s m n hne => ?_) (fun s m n hne => ?_) s n
  · rw [command_eq]
    exact Quad.get_upd_self ..
  · rw [command_eq]
    exact Quad.get_set_ne _ _ _ _ hne.symm
  · rw [command_eq]
    exact congrArg (((s.laneSettings n).barrier, s.clearReport n, ·)) (Quad.get_set_ne _ _ _ _ hne.symm)

/-! ### RESET LANES -/

/-- The state of a RESET LANES before its lanes begin again: STARTED posted, the open visits treated, the readers and
the lists begun again. -/
def lanesCleared (s : State) : State :=
  { s.startedAndTreated .record SectionSet.none with
    readers := Quad.fill ⟨startReader, startReader⟩, lists := Quad.fill [], journalOrder := [] }

theorem resetLanes_eq : s.resetLanes
    = ((lanesCleared s).eachLane State.restartLane).eachLane fun t n => t.command n .down := rfl

theorem lanesCleared_frame (s : State) :
    Keeps { traffic := true, ident := true, events := true, readers := true, lists := true, journalOrder := true } s
      (lanesCleared s) := (keeps_startedAndTreated rfl rfl rfl).trans (keeps_restarted rfl rfl rfl)

theorem laneStart_lanesCleared (s : State) (n : Lane) : laneStart (lanesCleared s) n = laneStart s n :=
  have hframe := lanesCleared_frame s
  laneStart_congr (hframe.cal rfl) (hframe.settings rfl) (hframe.decks rfl) (hframe.loops rfl) (hframe.barriers rfl) n

/-- What RESET LANES leaves alone after the treatment of the visits. -/
theorem resetLanes_frame (s : State) :
    Keeps { lanes := true, settings := true, barriers := true } (lanesCleared s) s.resetLanes := by
  rw [resetLanes_eq]
  exact (restartLanes_frame (lanesCleared s)).trans (Keeps.eachLane (fun _ _ => keeps_command rfl) _)

theorem settings_but_lanes {a b c d : Settings} (hab : b = a) (hbc : c = { b with lanes := c.lanes }) (hcd : d = c) :
    d = { a with lanes := d.lanes } := by
  rw [hcd, ← hab]
  exact hbc

theorem resetLanes_settings (s : State) :
    s.resetLanes.ret.settings = { s.ret.settings with lanes := s.resetLanes.ret.settings.lanes } :=
  settings_but_lanes ((lanesCleared_frame s).settings rfl) (restartLanes_settings (lanesCleared s))
    ((commands_frame .down _).settings rfl)

/-- A lane that has begun again, and whose barrier is then lowered. -/
theorem lowered_out {x : LaneStart} (hout : laneOut s n = x.restarted) (hclear : s.clearReport n = x.clear) :
    laneOut (s.eachLane fun t n => t.command n .down) n =
      (startLane x.state, { x.cfg with closed := x.cfg.closed || x.siteClosed },
        Barrier.obeyed x.cfg.barrier x.clear .down x.barrier) := by
  have hframe := commands_frame .down s
  have hlane : s.lane n = startLane x.state := congrArg Prod.fst hout
  have hcfg : s.laneSettings n = { x.cfg with closed := x.cfg.closed || x.siteClosed } :=
    congrArg (fun y : LaneSeq × LaneSettings × Barrier => y.2.1) hout
  have hbarrier : s.barrier n = if x.cfg.closed || x.siteClosed then Barrier.obeyed x.cfg.barrier x.clear .down x.barrier
      else x.barrier := congrArg (fun y : LaneSeq × LaneSettings × Barrier => y.2.2) hout
  have hlowered : Barrier.obeyed (s.laneSettings n).barrier (s.clearReport n) .down (s.barrier n)
      = Barrier.obeyed x.cfg.barrier x.clear .down x.barrier := by
    rw [hclear, hcfg, hbarrier]
    split
    · exact obeyed_idem ..
    · rfl
  exact Prod.ext ((lane_congr (hframe.lanes rfl) n).trans hlane) (Prod.ext
    ((congrArg (fun c : Settings => c.lanes.get n) (hframe.settings rfl)).trans hcfg)
    ((commands_barrier .down s n).trans hlowered))

/-- What a lane of RESET LANES begins again as, the barrier lowered whether the lane is closed or not. -/
theorem resetLanes_out (s : State) (n : Lane) : laneOut s.resetLanes n =
    (startLane (laneStart s n).state,
      { s.laneSettings n with closed := (s.laneSettings n).closed || s.siteClosed }, (s.obeying n .down).get n) := by
  have hloops := ((restartLanes_frame (lanesCleared s)).loops rfl).trans ((lanesCleared_frame s).loops rfl)
  have hclear : ((lanesCleared s).eachLane State.restartLane).clearReport n = s.clearReport n :=
    congrArg (fun q : Quad LoopPair => (q.get n).clear.report) hloops
  have hobeying : (s.obeying n .down).get n
      = Barrier.obeyed (s.laneSettings n).barrier (s.clearReport n) .down (s.barrier n) := Quad.get_upd_self ..
  rw [resetLanes_eq, lowered_out (restartLanes_out (lanesCleared s) n)
    (hclear.trans (congrArg LaneStart.clear (laneStart_lanesCleared s n)).symm), laneStart_lanesCleared, hobeying]
  rfl

/-- The state as its open visits begin to be treated, STARTED posted. -/
def startedState (s : State) : State :=
  s.post .started none .none (.started .record SectionSet.none (unconfirmedEntries s.ret.traffic.visits))

theorem resetLanes_treats (s : State) : Treats s.ret s.resetLanes.ret := by
  have htreats : Treats s.ret (lanesCleared s).ret := treats_treatVisits s.ret.traffic.visits (startedState s)
  have hframe := resetLanes_frame s
  have hkept : Treats (lanesCleared s).ret s.resetLanes.ret := by
    constructor <;> simp only [hframe.ident rfl, hframe.traffic rfl, implies_true]
  exact htreats.trans hkept

theorem resetLanes_visits (hvisits : s.ret.VisitsAccounted) : s.resetLanes.ret.traffic.visits
    = (s.ret.traffic.visits.filter fun v => v.state != .heldIn).map treatedVisit := by
  obtain ⟨-, hsorted, -⟩ := hvisits
  rw [(resetLanes_frame s).traffic rfl]
  exact treatVisits_visits s.ret.traffic.visits (startedState s) [] rfl (hsorted.imp Nat.ne_of_lt)

theorem unconfirmedEntries_eq (vs : List Visit) :
    unconfirmedEntries vs = vs.countP fun v => v.state == .entering := List.countP_eq_length_filter.symm

theorem resetLanes_posts (s : State) : s.posts s.resetLanes
    (s.event .started none .none
        (.started .record SectionSet.none (s.ret.traffic.visits.countP fun v => v.state == .entering))
      :: (releasedLevels s s.ret.traffic.visits).map (levelEvent s)) := by
  rw [← unconfirmedEntries_eq]
  exact ((resetLanes_frame s).events rfl).trans (treatVisits_events s.ret.traffic.visits (startedState s))

theorem resetLanes_link (s : State) : s.resetLanes.link = s.link :=
  ((resetLanes_frame s).link rfl).trans ((lanesCleared_frame s).link rfl)

/-- The lane that begins again, its state read from its settings, its site and what suspends it. -/
theorem laneStart_state (s : State) (n : Lane) : (laneStart s n).state =
    if (s.laneSettings n).closed = true ∨ s.ret.settings.siteMode = .closed then .closed
    else if s.suspendCause n = true then .suspended
    else if (s.deck n).occupancy = .occupied then .occupied else .idle := by
  simp only [LaneStart.state, laneStart, State.siteClosed, Bool.or_eq_true, decide_eq_true_eq]

/-- The readers and the lists as a restart leaves them. -/
theorem resetLanes_cleared (s : State) : s.resetLanes.readers = Quad.fill ⟨⟨[], none, 10⟩, ⟨[], none, 10⟩⟩
    ∧ s.resetLanes.lists = Quad.fill [] ∧ s.resetLanes.journalOrder = [] := by
  have hframe := resetLanes_frame s
  rw [hframe.readers rfl, hframe.lists rfl, hframe.journalOrder rfl]
  exact ⟨rfl, rfl, rfl⟩

/-- A port that is to pass its transmission over answers as it did before. -/
theorem allResets_answer (s : State) (h : RecHead) (code : ResultCode) :
    s.allResets.1.answer h code = (s.answer h code).allResets.1 := by
  refine congrArg (fun p => { s with link := p }) ?_
  unfold State.allResets State.answer State.modLink LinkPort.flush LinkPort.reply
  dsimp only
  split <;> rfl

theorem startedEvents_receive (s : State) (h : RecHead) :
    levelEvent (s.receive h) = levelEvent s ∧ releasedLevels (s.receive h) = releasedLevels s := by
  rw [receive_onPort]
  exact ⟨rfl, rfl⟩

theorem exec_resetLanes (ht : s.takes h .site) :
    exec (.resetLanes h) s = .next ((s.receive h).resetLanes.answer h .ok) := by
  have hexec : exec (.resetLanes h) s = .next (s.takeSite h State.lanesReset) := rfl
  rw [hexec, takeSite_takes ht]
  unfold State.lanesReset
  dsimp only

/-- Settles O47. -/
theorem siteRecordsCarriedOut : Obligations.SiteRecordsCarriedOut := by
  intro s h ht mode returned
  refine ⟨congrArg Host.Outcome.next (takeSite_acts ht fun p q => rfl),
    congrArg Host.Outcome.next (takeSite_acts ht siteCloses_acts),
    congrArg Host.Outcome.next (takeSite_acts ht fun p q => rfl),
    congrArg Host.Outcome.next (takeSite_refuses ht fun p q => rfl),
    fun x => congrArg Host.Outcome.next (takeSite_acts ht fun p q => rfl), ?_, ?_, fun hvisits => ?_⟩
  · refine congrArg Host.Outcome.next ((takeSite_takes ht).trans ?_)
    rw [receive_eq]
    rfl
  · refine congrArg Host.Outcome.next ((takeSite_takes ht).trans ?_)
    have hanswer : (s.receive h).answer h .ok = s.recorded h (.result h.chan .ok) [] s := by
      rw [receive_onPort]
      exact answer_recorded rfl (congrArg s.eventsAfter (List.append_nil _).symm) rfl
    refine ((allResets_answer ..).trans (congrArg (fun u : State => u.allResets.1) hanswer)).trans ?_
    rw [State.recorded, List.append_nil]
    rfl
  · obtain ⟨v, hv⟩ : ∃ v, v = s.receive h := ⟨_, rfl⟩
    have hret : v.ret = s.ret := by rw [hv, receive_ret]
    have hkeptChecks : v.checks = s.checks := by rw [hv, receive_eq]
    have haccounted : v.ret.VisitsAccounted := by rw [hret]; exact hvisits
    have hupholds : Upholds (fullScope v) v v.resetLanes := upholds_resetLanes (fun _ => trivial) id
    have htreats := resetLanes_treats v
    have hvisits' := resetLanes_visits haccounted
    have hsettings := resetLanes_settings v
    rw [hret] at htreats hvisits' hsettings
    obtain ⟨hreaders, hlists, hjournal⟩ := resetLanes_cleared v
    have hexec : exec (.resetLanes h) s = .next (v.resetLanes.answer h .ok) := by
      rw [hv]
      exact exec_resetLanes ht
    have hlink : v.resetLanes.link = (s.receive h).link := by rw [resetLanes_link, hv]
    have hout := resetLanes_out v
    have hposts := resetLanes_posts v
    generalize v.resetLanes = w at *
    refine ⟨w.answer h .ok, hexec, answered_of hlink, hreaders, hlists, hjournal, hupholds.visits haccounted haccounted,
      ?_, htreats.vehicles, htreats.provisional, htreats.accounts, htreats.streams, htreats.counter, htreats.accepted,
      htreats.lastTime, hsettings, hvisits', fun n => ?_, ?_⟩
    · intro hchecks
      rcases hupholds.stored with ⟨hkept, hsame, -⟩ | ⟨hformed, -⟩
      · rw [answer_ret, hkept, hret, ← hchecks]
        exact hsame.trans hkeptChecks
      · exact hformed
    · have hout := hout n
      have hreads : laneStart v n = laneStart s n ∧ v.laneSettings n = s.laneSettings n ∧ v.siteClosed = s.siteClosed
          ∧ (v.obeying n .down).get n = (s.obeying n .down).get n := by
        rw [hv, receive_onPort]
        exact ⟨rfl, rfl, rfl, rfl⟩
      obtain ⟨hstart, hcfg, hsite, hobeying⟩ := hreads
      rw [hstart, hcfg, hsite, hobeying, laneStart_state] at hout
      refine ⟨congrArg Prod.fst hout, Eq.trans
        (congrArg (fun y : LaneSeq × LaneSettings × Barrier => y.2.1) hout) ?_,
        congrArg (fun y : LaneSeq × LaneSettings × Barrier => y.2.2) hout⟩
      have hclosed : ((s.laneSettings n).closed || s.siteClosed)
          = decide ((s.laneSettings n).closed = true ∨ s.ret.settings.siteMode = .closed) := by
        simp only [State.siteClosed, Bool.decide_or, Bool.decide_eq_true]
      exact congrArg (fun c => { s.laneSettings n with closed := c }) hclosed
    · obtain ⟨hevent, hlevels⟩ := startedEvents_receive s h
      rw [hret] at hposts
      rw [hv] at hposts
      rw [hevent, hlevels] at hposts
      have hstarted (k : EventKind) (d : Detail) : (s.receive h).event k none .none d = s.event k none .none d := by
        rw [receive_onPort]
        rfl
      rw [hstarted] at hposts
      exact posts_trans receive_posts hposts

end Sys2Proof.Proofs
end

section
/-! O59: the start-up (R209 to R212). -/

namespace Sys2Proof.Proofs
open Sys2Proof Sys2Proof.Machine

variable {s t u w : State} {n : Lane}

/-! ### What follows the volatile reset, whatever it left -/

/-- A barrier found in FAULT, as an event. -/
def startFault (s : State) (n : Lane) : List Event :=
  match (s.barrier n).state with
  | .fault r => [s.event .barrierFault (some n) .none (.barrierFault r)]
  | _ => []

theorem postStartFault_eq (s : State) (n : Lane) : s.postStartFault n = s.posted (startFault s n) s := by
  unfold State.postStartFault startFault
  cases (s.barrier n).state <;> rfl

theorem posts_refl_posted (s u : State) (es : List Event) : s.posts (s.posted es u) es := rfl

theorem postStartFault_posted (s : State) (es : List Event) (n : Lane) :
    (s.posted es s).postStartFault n = s.posted (es ++ startFault s n) s := by
  have hposts : s.posts (s.posted es s) es := posts_refl_posted ..
  rw [postStartFault_eq, posted_of_posts hposts]
  rfl

theorem postStartFaults_eq (s : State) :
    s.eachLane State.postStartFault = s.posted (Lane.all.flatMap (startFault s)) s := by
  rw [State.eachLane, postStartFault_eq s, postStartFault_posted, postStartFault_posted, postStartFault_posted]
  simp only [Lane.all, List.flatMap_cons, List.flatMap_nil, List.append_nil, List.append_assoc]

/-- The supply judged at a start-up: its state, and the warning as an event. -/
def startSupplyState (s : State) (mv : Nat) : SupplyState :=
  if mv < s.ret.settings.warnLevel * 1000 then .warning else s.power.supply

def startWarning (s : State) (mv : Nat) : List Event :=
  if mv < s.ret.settings.warnLevel * 1000 then [s.event .powerWarning none .none (.warning true)] else []

theorem startSupply_posted (s : State) (es : List Event) (mv : Nat) : (s.posted es s).startSupply mv =
    s.posted (es ++ startWarning s mv) { s with power := { s.power with supply := startSupplyState s mv } } := by
  have hsettings : (s.posted es s).ret.settings.warnLevel = s.ret.settings.warnLevel := rfl
  unfold State.startSupply startWarning startSupplyState
  rw [hsettings]
  split
  · have hposts : s.posts (s.posted es s) es := posts_refl_posted ..
    exact posted_of_posts (fs := [s.event .powerWarning none .none (.warning true)])
      (v := { s with power := { s.power with supply := .warning } }) hposts
  · rw [List.append_nil]

/-- The lanes begun again after the visits are treated. -/
def lanesStarted (u : State) (cause : StartCause) (failed : SectionSet) : State :=
  (u.startedAndTreated cause failed).eachLane State.restartLane

/-- What a start-up does after its volatile reset. -/
def startedOn (u : State) (cause : StartCause) (failed : SectionSet) (mv : Nat) : State :=
  ((lanesStarted u cause failed).eachLane State.postStartFault).startSupply mv

variable {cause : StartCause} {failed : SectionSet} {mv : Nat}

theorem startedOn_eq (u : State) (cause : StartCause) (failed : SectionSet) (mv : Nat) :
    startedOn u cause failed mv = (lanesStarted u cause failed).posted
      (Lane.all.flatMap (startFault (lanesStarted u cause failed)) ++ startWarning (lanesStarted u cause failed) mv)
      { lanesStarted u cause failed with
        power := { (lanesStarted u cause failed).power with
          supply := startSupplyState (lanesStarted u cause failed) mv } } := by
  rw [startedOn, postStartFaults_eq, startSupply_posted]

theorem treated_frame (u : State) (cause : StartCause) (failed : SectionSet) :
    Keeps { traffic := true, ident := true, events := true } u (u.startedAndTreated cause failed) :=
  keeps_startedAndTreated rfl rfl rfl

theorem lanesStarted_frame (u : State) (cause : StartCause) (failed : SectionSet) :
    Keeps { lanes := true, settings := true, barriers := true } (u.startedAndTreated cause failed)
      (lanesStarted u cause failed) := restartLanes_frame _

/-- The start of the lanes, as the state stood before the visits were treated. -/
theorem lanesStarted_out (u : State) (cause : StartCause) (failed : SectionSet) (n : Lane) :
    laneOut (lanesStarted u cause failed) n = (laneStart u n).restarted := by
  have hframe := treated_frame u cause failed
  refine (restartLanes_out _ n).trans (congrArg LaneStart.restarted ?_)
  exact laneStart_congr (hframe.cal rfl) (hframe.settings rfl) (hframe.decks rfl) (hframe.loops rfl)
    (hframe.barriers rfl) n

theorem lanesStarted_settings (u : State) (cause : StartCause) (failed : SectionSet) :
    (lanesStarted u cause failed).ret.settings
      = { u.ret.settings with lanes := (lanesStarted u cause failed).ret.settings.lanes } :=
  settings_but_lanes ((treated_frame u cause failed).settings rfl) (restartLanes_settings _) rfl

theorem lanesStarted_treats (u : State) (cause : StartCause) (failed : SectionSet) :
    Treats u.ret (lanesStarted u cause failed).ret := by
  have htreats : Treats u.ret (u.startedAndTreated cause failed).ret :=
    treats_treatVisits u.ret.traffic.visits
      (u.post .started none .none (.started cause failed (unconfirmedEntries u.ret.traffic.visits)))
  have hframe := lanesStarted_frame u cause failed
  have hkept : Treats (u.startedAndTreated cause failed).ret (lanesStarted u cause failed).ret := by
    constructor <;> simp only [hframe.ident rfl, hframe.traffic rfl, implies_true]
  exact htreats.trans hkept

theorem lanesStarted_visits (hvisits : u.ret.VisitsAccounted) : (lanesStarted u cause failed).ret.traffic.visits
    = (u.ret.traffic.visits.filter fun v => v.state != .heldIn).map treatedVisit := by
  obtain ⟨-, hsorted, -⟩ := hvisits
  rw [(lanesStarted_frame u cause failed).traffic rfl]
  exact treatVisits_visits u.ret.traffic.visits
    (u.post .started none .none (.started cause failed (unconfirmedEntries u.ret.traffic.visits))) [] rfl
    (hsorted.imp Nat.ne_of_lt)

theorem lanesStarted_posts (u : State) (cause : StartCause) (failed : SectionSet) :
    u.posts (lanesStarted u cause failed)
      (u.event .started none .none
          (.started cause failed (u.ret.traffic.visits.countP fun v => v.state == .entering))
        :: (releasedLevels u u.ret.traffic.visits).map (levelEvent u)) := by
  rw [← unconfirmedEntries_eq]
  exact ((lanesStarted_frame u cause failed).events rfl).trans (treatVisits_events u.ret.traffic.visits
    (u.post .started none .none (.started cause failed (unconfirmedEntries u.ret.traffic.visits))))

/-- A barrier whose target is down already stays as it is when its lane begins again. -/
theorem lanesStarted_barrier (hdown : (u.barrier n).target = .down) :
    (lanesStarted u cause failed).barrier n = u.barrier n := by
  have hout : (lanesStarted u cause failed).barrier n = (laneStart u n).restarted.2.2 :=
    congrArg (fun y : LaneSeq × LaneSettings × Barrier => y.2.2) (lanesStarted_out u cause failed n)
  have hbarrier : (laneStart u n).restarted.2.2 = (laneStart u n).barrier := by
    refine ite_eq_right_iff.mpr fun _ => ?_
    exact if_pos hdown
  exact hout.trans hbarrier

/-- The invariants hold of what a start-up leaves. -/
theorem upholds_startedOn (hv : u.ret.VisitsAccounted) : Upholds (fullScope u) u (startedOn u cause failed mv) :=
  (((upholds_startedAndTreated fun _ => hv).trans (.eachLane (fun _ _ => upholds_restartLane trivial) _)).trans
    (.eachLane (fun _ _ => upholds_postStartFault) _)).trans upholds_startSupply


theorem startedOn_frame (u : State) (cause : StartCause) (failed : SectionSet) (mv : Nat) :
    Keeps { traffic := true, ident := true, events := true, lanes := true, settings := true, barriers := true,
            power := true } u (startedOn u cause failed mv) :=
  (((keeps_startedAndTreated rfl rfl rfl).trans (Keeps.eachLane (fun _ _ => keeps_restartLane rfl rfl rfl) _)).trans
    (Keeps.eachLane (fun _ _ => keeps_postStartFault rfl) _)).trans (keeps_startSupply rfl rfl)

/-- What the restart of the lanes leaves, but for the supply and the events. -/
theorem startedOn_parts (u : State) (cause : StartCause) (failed : SectionSet) (mv : Nat) :
    (startedOn u cause failed mv).ret = (lanesStarted u cause failed).ret
      ∧ (startedOn u cause failed mv).lanes = (lanesStarted u cause failed).lanes
      ∧ (startedOn u cause failed mv).barriers = (lanesStarted u cause failed).barriers := by
  rw [startedOn_eq]
  exact ⟨rfl, rfl, rfl⟩

theorem lanesStarted_warnLevel (u : State) (cause : StartCause) (failed : SectionSet) :
    (lanesStarted u cause failed).ret.settings.warnLevel = u.ret.settings.warnLevel :=
  (congrArg Settings.warnLevel (lanesStarted_settings u cause failed)).trans rfl

theorem lanesStarted_kept (u : State) (cause : StartCause) (failed : SectionSet) :
    (lanesStarted u cause failed).power = u.power ∧ (lanesStarted u cause failed).clock = u.clock := by
  have htreated := treated_frame u cause failed
  have hlanes := lanesStarted_frame u cause failed
  exact ⟨(hlanes.power rfl).trans (htreated.power rfl), (hlanes.clock rfl).trans (htreated.clock rfl)⟩

theorem startedOn_power (u : State) (cause : StartCause) (failed : SectionSet) (mv : Nat) :
    (startedOn u cause failed mv).power = { u.power with supply := startSupplyState u mv } := by
  obtain ⟨hpower, -⟩ := lanesStarted_kept u cause failed
  have hwarn := lanesStarted_warnLevel u cause failed
  rw [startedOn_eq]
  unfold startSupplyState
  generalize lanesStarted u cause failed = w at *
  rw [hwarn, ← hpower]
  rfl

/-- The events of a start-up, whose barriers are to go down. -/
theorem startedOn_posts (hdown : ∀ n, (u.barrier n).target = .down) : u.posts (startedOn u cause failed mv)
    (u.event .started none .none
        (.started cause failed (u.ret.traffic.visits.countP fun v => v.state == .entering))
      :: (releasedLevels u u.ret.traffic.visits).map (levelEvent u) ++ Lane.all.flatMap (startFault u)
      ++ startWarning u mv) := by
  obtain ⟨-, hclock⟩ := lanesStarted_kept u cause failed
  have hwarn := lanesStarted_warnLevel u cause failed
  have hposts := lanesStarted_posts u cause failed
  have hbarrier := fun n => lanesStarted_barrier (cause := cause) (failed := failed) (hdown n)
  have hevent : State.event (lanesStarted u cause failed) = State.event u := by
    unfold State.event State.now
    rw [hclock]
  have hfaults : startFault (lanesStarted u cause failed) = startFault u := by
    unfold startFault
    rw [hevent, funext hbarrier]
  have hwarning : startWarning (lanesStarted u cause failed) mv = startWarning u mv := by
    unfold startWarning
    rw [hevent, hwarn]
  rw [startedOn_eq, hfaults, hwarning, List.append_assoc, posted_of_posts hposts]
  rfl

/-! ### What the volatile reset leaves -/

/-- The state from which the start-up goes on: what it restored, and every volatile item at its reset value. -/
def startBase (s : State) (r : Retained) (cause : StartCause) (failed : SectionSet) (found : CopyFound)
    (env : StartEnv) : State :=
  ((s.volatileReset r env).modPower fun p =>
    { p with
      cause := cause, failed := failed, copyFound := found
      unconfirmed := unconfirmedEntries r.traffic.visits }).modTickets
    fun j => { j with journal := j.journal.map restartedTicket }

theorem startOver_eq {found : CopyFound} {env : StartEnv} : s.startOver cause failed found env
    = startedOn (startBase s (restored failed s.ret) cause failed found env) cause failed env.supplyMv := rfl

theorem raisedLimit_eq (k : Nat) : raisedLimit k = if k ≤ 128 then 128 else 64 * ((k + 63) / 64) := by
  unfold raisedLimit ceilDiv
  split <;> split <;> omega

theorem settleCopy_eq (s : State) (d : BitVec 32) : s.settleCopy d =
    { s with
      ret := (s.copy.good d).getD s.ret
      checks := ((s.copy.good d).map Retained.checks).getD s.checks
      copy := .empty } := by
  unfold State.settleCopy
  cases s.copy.good d <;> rfl

/-! ### O59 -/

theorem good_eq (c : UpdateCopy) (d : BitVec 32) : (match c with
    | .complete c k => if k ^^^ d = Config.sectionCheck c then some c else none
    | .empty => none
    | .incomplete => none) = c.good d := by
  cases c <;> rfl

theorem leavesReset_held (hheld : s.power.held = some cause) (env : StartEnv) :
    s.leavesReset env = if s.supplyReleases env.supplyMv then s.startUp cause env else s := by
  unfold State.leavesReset
  rw [hheld]

theorem leavesReset_stays {env : StartEnv} (h : s.power.held = none ∨ (s.power.supply = .reset ∧ env.supplyMv ≤ 17000)
    ∨ env.supplyMv < 16000) : s.leavesReset env = s := by
  cases hheld : s.power.held with
  | none =>
    unfold State.leavesReset
    rw [hheld]
  | some cause =>
    rw [leavesReset_held hheld]
    refine if_neg ?_
    unfold State.supplyReleases Config.resetReleaseMv Config.resetEntryMv
    rcases h with h | ⟨hsupply, hlow⟩ | hlow
    · rw [hheld] at h
      cases h
    · rw [if_pos hsupply, decide_eq_true_eq]
      omega
    · split <;> rw [decide_eq_true_eq] <;> omega

theorem leavesReset_starts {env : StartEnv} (hheld : s.power.held = some cause)
    (h : (s.power.supply = .reset ∧ 17000 < env.supplyMv) ∨ (s.power.supply ≠ .reset ∧ 16000 ≤ env.supplyMv)) :
    s.leavesReset env = s.startUp cause env := by
  rw [leavesReset_held hheld]
  refine if_pos ?_
  unfold State.supplyReleases Config.resetReleaseMv Config.resetEntryMv
  rcases h with ⟨hsupply, hhigh⟩ | ⟨hsupply, hhigh⟩
  · rw [if_pos hsupply, decide_eq_true_eq]
    exact hhigh
  · rw [if_neg hsupply, decide_eq_true_eq]
    exact hhigh

theorem good_complete {d : BitVec 32} {c : UpdateCopy} {r : Retained} (h : c.good d = some r) :
    ∃ k, c = .complete r k := by
  unfold UpdateCopy.good at h
  split at h
  · next r' k =>
    split at h
    · cases h
      exact ⟨k, rfl⟩
    · cases h
  · cases h
  · cases h

theorem found_eq (c : UpdateCopy) (d : BitVec 32) : c.found d =
    if c = .empty then .empty else if c.good d = none then .discarded else .applied := by
  unfold UpdateCopy.found
  cases c.good d <;> rfl

/-- What a start-up finds good: the sections as they stood, or the update copy applied. -/
theorem eachRetained_getD {G : Retained → Prop} (h : s.eachRetained G) (d : BitVec 32) :
    G ((s.copy.good d).getD s.ret) := by
  obtain ⟨hret, hcopy⟩ := h
  cases hgood : s.copy.good d with
  | none => exact hret
  | some r =>
    obtain ⟨k, hk⟩ := good_complete hgood
    exact hcopy r k hk

theorem mem_plan_iff (plan : Vector (Option Lane) 16) (n : Lane) :
    planGives plan n = decide (some n ∈ plan.toList) := by
  unfold planGives
  rw [Bool.eq_iff_iff, List.any_eq_true, decide_eq_true_eq]
  simp

/-- What the volatile reset leaves of the deck, the barrier and the settings of a lane. -/
theorem startBase_views (s : State) (r : Retained) (cause : StartCause) (failed : SectionSet) (found : CopyFound)
    (env : StartEnv) (n : Lane) :
    (startBase s r cause failed found env).deck n = startDeck (!planGives r.settings.slotPlan n)
      ∧ (startBase s r cause failed found env).barrier n = startBarrier
        (switchState (env.downSwitch.get n) (env.upSwitch.get n)) (r.settings.lanes.get n).barrier (env.downSwitch.get n)
        (env.upSwitch.get n) (env.comparator.get n) := ⟨Quad.get_ofFn .., Quad.get_ofFn ..⟩

/-- What suspends a lane as the volatile reset leaves it: its barrier, its plan, its calibration. -/
theorem startBase_suspendCause (s : State) (r : Retained) (cause : StartCause) (failed : SectionSet) (found : CopyFound)
    (env : StartEnv) (n : Lane) : (startBase s r cause failed found env).suspendCause n =
      decide (isFault (switchState (env.downSwitch.get n) (env.upSwitch.get n)) = true
        ∨ ¬some n ∈ r.settings.slotPlan.toList ∨ (r.cal.get n).zeroDone = false ∨ (r.cal.get n).spanDone = false) := by
  obtain ⟨hdeck, hbarrier⟩ := startBase_views s r cause failed found env n
  have hcal : (startBase s r cause failed found env).cal n = r.cal.get n := rfl
  have hreports : ((startBase s r cause failed found env).loop n .entry).report ≠ .faulted
      ∧ ((startBase s r cause failed found env).loop n .clear).report ≠ .faulted := by
    cases n <;> exact ⟨nofun, nofun⟩
  unfold State.suspendCause State.barrierFaulted State.deckValid State.reasons ReasonSet.isEmpty
  rw [hdeck, hbarrier, hcal, decide_eq_false hreports.1, decide_eq_false hreports.2, mem_plan_iff]
  unfold startBarrier startDeck isFault
  dsimp only
  by_cases hslots : some n ∈ r.settings.slotPlan.toList <;>
  cases switchState (env.downSwitch.get n) (env.upSwitch.get n) <;>
  cases (r.cal.get n).zeroDone <;> cases (r.cal.get n).spanDone <;> simp [hslots]

theorem strapRate_eq (a b : Bool) :
    strapRate a b = if a = b then 19200 else if b then 57600 else 115200 := by
  cases a <;> cases b <;> rfl

/-- A lane that begins again with its barrier's target down already. -/
theorem restarted_eq (hdown : (u.barrier n).target = .down) : (laneStart u n).restarted =
    (startLane (laneStart u n).state,
      { u.laneSettings n with closed := (u.laneSettings n).closed || u.siteClosed }, u.barrier n) := by
  have hbarrier : (laneStart u n).restarted.2.2 = u.barrier n := ite_eq_right_iff.mpr fun _ => if_pos hdown
  exact Prod.ext rfl (Prod.ext rfl hbarrier)

theorem switchState_levels (down up : Bool) : switchState down up =
    match down, up with
    | true, true => .fault .switch
    | true, false => .down
    | false, true => .up
    | false, false => .unknown := by
  cases down <;> cases up <;> rfl

/-- Settles O59. -/
theorem startUpRestores : Obligations.StartUpRestores := by
  intro s env
  refine ⟨fun h => congrArg Host.Outcome.next (leavesReset_stays h), fun cause hheld hrelease hvisits => ?_⟩
  intro applied base checks identFails trafficFails pair failed ident traffic settings cal tickets unconfirmed returned
    slots closed switches low now reader loop
  have happlied : applied = s.copy.good env.damage.copy := good_eq ..
  have hexec : exec (.startUp env) s = .next (s.startUp cause env) :=
    congrArg Host.Outcome.next (leavesReset_starts hheld hrelease)
  have hsettled : s.settleCopy env.damage.copy = { s with ret := base, checks := checks, copy := .empty } := by
    rw [settleCopy_eq, ← happlied]
  have hrestored : restored failed base = ⟨cal, settings, ident, traffic, tickets⟩ :=
    congrArg (fun k => (⟨cal, if failed.settings then { factorySettings with learnLimit := k } else base.settings, ident,
      traffic, tickets⟩ : Retained)) (raisedLimit_eq ident.provisional)
  have hbase : base.VisitsAccounted := by
    have hgood := eachRetained_getD hvisits env.damage.copy
    rw [← happlied] at hgood
    exact hgood
  have haccounted : (restored failed base).VisitsAccounted :=
    visitsAccounted_restored (checks.failing base env.damage) hbase
  obtain ⟨u, hu⟩ : ∃ u, u = startBase { s with ret := base, checks := checks, copy := .empty }
    ⟨cal, settings, ident, traffic, tickets⟩ cause failed (s.copy.found env.damage.copy) env := ⟨_, rfl⟩
  have hstart : s.startUp cause env = startedOn u cause failed env.supplyMv := by
    unfold State.startUp
    rw [hsettled, hu, ← hrestored]
    rfl
  have huret : u.ret = { (⟨cal, settings, ident, traffic, tickets⟩ : Retained) with
      tickets := { tickets with journal := tickets.journal.map restartedTicket } } := by rw [hu]; rfl
  have haccounted' : u.ret.VisitsAccounted := by
    rw [hrestored] at haccounted
    rw [huret]
    exact haccounted
  have hdown : ∀ n, (u.barrier n).target = .down := fun n => by
    rw [hu, (startBase_views ..).2]
    rfl
  have hframe := startedOn_frame u cause failed env.supplyMv
  have hupholds : Upholds (fullScope u) u (startedOn u cause failed env.supplyMv) := upholds_startedOn haccounted'
  have hpower := startedOn_power u cause failed env.supplyMv
  have hposts := startedOn_posts (cause := cause) (failed := failed) (mv := env.supplyMv) hdown
  obtain ⟨hret, hlanes, hbarriers⟩ := startedOn_parts u cause failed env.supplyMv
  have htreats := lanesStarted_treats u cause failed
  have hvisits' := lanesStarted_visits (cause := cause) (failed := failed) haccounted'
  have hsettings := lanesStarted_settings u cause failed
  have hout := lanesStarted_out u cause failed
  refine ⟨startedOn u cause failed env.supplyMv, hexec.trans (congrArg _ hstart), ?_⟩
  generalize startedOn u cause failed env.supplyMv = x at *
  generalize lanesStarted u cause failed = y at *
  have hswitches : ∀ n, switchState (env.downSwitch.get n) (env.upSwitch.get n) = switches n :=
    fun n => switchState_levels ..
  have hformed : x.checks = x.ret.checks ∧ x.copy = .empty :=
    hupholds.stored.formed (by rw [hu]; rfl) (by rw [hu]; rfl)
  have hclosed : ∀ n, ((u.laneSettings n).closed || u.siteClosed) = decide (closed n) := fun n => by
    rw [State.laneSettings, State.siteClosed, huret, Bool.decide_or, Bool.decide_eq_true]
  have hcfg : ∀ n, u.laneSettings n = settings.lanes.get n := fun n => by rw [State.laneSettings, huret]
  have hparts : ∀ n, x.lane n = startLane (laneStart u n).state
      ∧ x.ret.settings.lanes.get n = { settings.lanes.get n with closed := decide (closed n) }
      ∧ x.barrier n = u.barrier n := fun n => by
    have hlane := hout n
    rw [restarted_eq (hdown n), hclosed, hcfg] at hlane
    rw [hret, State.lane, State.barrier, hlanes, hbarriers]
    exact ⟨congrArg Prod.fst hlane, congrArg (fun y : LaneSeq × LaneSettings × Barrier => y.2.1) hlane,
      congrArg (fun y : LaneSeq × LaneSettings × Barrier => y.2.2) hlane⟩
  have hsettings' : x.ret.settings = { settings with
      lanes := Quad.ofFn fun n => { settings.lanes.get n with closed := decide (closed n) } } := by
    have hlanes : x.ret.settings.lanes
        = Quad.ofFn fun n => { settings.lanes.get n with closed := decide (closed n) } :=
      Quad.ext_get fun n => by rw [Quad.get_ofFn]; exact (hparts n).2.1
    rw [← hlanes, hret, hsettings, huret]
  have hcounted : u.ret.traffic.visits.countP (fun v => v.state == .entering) = unconfirmed := by rw [huret]
  rw [← hret, huret] at htreats hvisits'
  refine ⟨hframe.pending.trans (by rw [hu]; rfl), hformed.1, hformed.2, (hframe.cal rfl).trans (by rw [hu]; rfl),
    hsettings', hupholds.visits haccounted' haccounted', htreats.vehicles, htreats.provisional, htreats.accounts,
    hvisits', htreats.counter, htreats.accepted, htreats.lastTime, htreats.streams,
    (hframe.tickets rfl).trans (by rw [hu]; rfl), (hframe.acq rfl).trans (by rw [hu]; rfl),
    (hframe.readers rfl).trans (by rw [hu]; rfl), (hframe.lists rfl).trans (by rw [hu]; rfl),
    (hframe.journalOrder rfl).trans (by rw [hu]; rfl), (hframe.clock rfl).trans (by rw [hu]; rfl),
    (hframe.loops rfl).trans (by rw [hu]; rfl), (hframe.link rfl).trans ?_,
    (hframe.printing rfl).trans (by rw [hu]; rfl), hpower.trans ?_, fun n => ⟨?_, ?_, ?_⟩, ?_⟩
  · rw [hu, ← strapRate_eq]
    rfl
  · have hfound : s.copy.found env.damage.copy
        = if s.copy = .empty then .empty else if applied = none then .discarded else .applied := by
      rw [happlied]
      exact found_eq ..
    have hsupply : startSupplyState u env.supplyMv = if low then .warning else .normal := by
      unfold startSupplyState
      rw [huret, hu]
      rfl
    rw [hsupply, ← hfound, hu]
    refine congrArg (fun k => { (startBase s ⟨cal, settings, ident, traffic, tickets⟩ cause failed
      (s.copy.found env.damage.copy) env).power with
        supply := if low then .warning else .normal
        unconfirmed := k }) (unconfirmedEntries_eq traffic.visits)
  · have hdecks : x.deck n = u.deck n := congrArg (Quad.get · n) (hframe.decks rfl)
    rw [hdecks, hu, (startBase_views ..).1, mem_plan_iff]
    rfl
  · rw [(hparts n).2.2, hu, (startBase_views ..).2, hswitches]
    rfl
  · have hcause : u.suspendCause n = decide (isFault (switches n) = true ∨ ¬slots n ∨ (cal.get n).zeroDone = false
        ∨ (cal.get n).spanDone = false) := by
      rw [hu, startBase_suspendCause, hswitches]
    have hoccupied : (u.deck n).occupancy ≠ .occupied := by
      rw [hu, (startBase_views ..).1]
      nofun
    have hstate := laneStart_state u n
    rw [if_neg hoccupied, hcause, hcfg, huret] at hstate
    simp only [decide_eq_true_eq] at hstate
    rw [(hparts n).1, hstate]
    rfl
  · have hfaults : Lane.all.flatMap (startFault u) = Lane.all.filterMap fun n =>
        if isFault (switches n) then some ⟨.barrierFault, some n, now, .none, .barrierFault .switch⟩ else none := by
      refine (List.flatMap_congr fun n _ => ?_).trans (List.filterMap_eq_flatMap_toList ..).symm
      have hstate : (u.barrier n).state = switches n := by
        rw [hu, (startBase_views ..).2, hswitches]
        rfl
      have hnow : u.now = now := by rw [hu]; rfl
      unfold startFault State.event
      rw [hstate, hnow, ← hswitches]
      cases env.downSwitch.get n <;> cases env.upSwitch.get n <;> rfl
    have hwarning : startWarning u env.supplyMv
        = if low then [⟨.powerWarning, none, now, .none, .warning true⟩] else [] := by
      unfold startWarning
      rw [huret, hu]
      rfl
    have hlevels : (releasedLevels u u.ret.traffic.visits).map (levelEvent u)
        = (levelsReleased (fun k => (settings.streams.get k).levels) traffic.streams
            (traffic.visits.filter fun v => v.state == .heldIn)).map fun (k, l, up) =>
          ⟨.streamLevel, none, now, .stream k, .level l up⟩ := by
      rw [hu]
      rfl
    rw [hfaults, hwarning, hlevels, hcounted] at hposts
    refine hposts.trans ?_
    rw [hu]
    rfl

end Sys2Proof.Proofs
end

section
/-! O17: a bad deck sample (R10 to R14, R64). -/

namespace Sys2Proof.Proofs
open Sys2Proof Sys2Proof.Machine

variable {s t u : State} {n : Lane} {slot : Fin 16} {cells : List Int} {e : Int}

/-! ### The end of a slot -/

/-- The deck as a sample finds it judged: its causes, its count of good samples, the sample kept. -/
def sampledDeck (s : State) (n : Lane) (cells : List Int) (e : Int) : Deck :=
  { judgedDeck (saturatedSample cells) (!refInTolerance (s.cal n) e) (s.deck n) with
    lastSample := some ⟨cells, e, s.now, goodSample (s.cal n) cells e⟩, heldLimit := none }

/-- The state with the slot taken and the sample judged, before the reasons are. -/
def sampledState (s : State) (slot : Fin 16) (n : Lane) (cells : List Int) (e : Int) : State :=
  { s with
    acq := { s.acq with position := (slot.val + 1) % 16 }
    decks := s.decks.set n (sampledDeck s n cells e) }

theorem goodSample_eq : goodSample (s.cal n) cells e
    = !(saturatedSample cells || !refInTolerance (s.cal n) e) := by
  rw [goodSample, Bool.not_or, Bool.not_not]

/-- What a slot's end does, once its deck and its cells are known: the reasons judged, and a good sample put to work. -/
theorem slotEnds_eq (hslot : s.acq.active.get slot = some n) (hcells : cells.length = (s.deckSettings n).cells) :
    s.slotEnds slot cells e =
      if goodSample (s.cal n) cells e then
        (if ((sampledState s slot n cells e).afterReasons n (s.reasons n)).deckValid n then
          ((sampledState s slot n cells e).afterReasons n (s.reasons n)).workSample n cells e
        else (sampledState s slot n cells e).afterReasons n (s.reasons n)).calSample n cells e
      else (sampledState s slot n cells e).afterReasons n (s.reasons n) := by
  unfold State.slotEnds
  rw [hslot]
  dsimp only
  rw [if_pos hcells]
  unfold State.deliverSample sampledState sampledDeck
  rw [goodSample_eq]
  rfl

theorem slotEnds_bad (hslot : s.acq.active.get slot = some n) (hcells : cells.length = (s.deckSettings n).cells)
    (hbad : goodSample (s.cal n) cells e = false) :
    s.slotEnds slot cells e = (sampledState s slot n cells e).afterReasons n (s.reasons n) :=
  (slotEnds_eq hslot hcells).trans (if_neg (Bool.eq_false_iff.mp hbad))

theorem sampledState_deck : (sampledState s slot n cells e).deck n = sampledDeck s n cells e := Quad.get_set_self ..

theorem sampledState_reasons : (sampledState s slot n cells e).reasons n =
    { s.reasons n with
      cellSaturated := (sampledDeck s n cells e).saturated, excitation := (sampledDeck s n cells e).excitation } := by
  have hslots : (sampledDeck s n cells e).noSlots = (s.deck n).noSlots := by
    unfold sampledDeck judgedDeck
    dsimp only
    split
    · rfl
    · split
      · split <;> rfl
      · rfl
  rw [State.reasons, sampledState_deck, hslots]
  rfl

/-! ### A bad sample -/

theorem fault_of_bad (hbad : goodSample (s.cal n) cells e = false) :
    (saturatedSample cells || !refInTolerance (s.cal n) e) = true := by
  rw [goodSample_eq] at hbad
  exact (Bool.not_eq_eq_eq_not ..).mp hbad

/-- A deck as a bad sample finds it. -/
theorem sampledDeck_bad (hbad : goodSample (s.cal n) cells e = false) : sampledDeck s n cells e =
    { s.deck n with
      saturated := (s.deck n).saturated || saturatedSample cells
      excitation := (s.deck n).excitation || !refInTolerance (s.cal n) e
      good := 0, lastSample := some ⟨cells, e, s.now, false⟩, heldLimit := none } := by
  unfold sampledDeck judgedDeck
  rw [if_pos (fault_of_bad hbad), hbad]

theorem isEmpty_of_bad (hbad : goodSample (s.cal n) cells e = false) :
    ((sampledState s slot n cells e).reasons n).isEmpty = false := by
  have hfault := fault_of_bad hbad
  rw [sampledState_reasons, sampledDeck_bad hbad, ReasonSet.isEmpty]
  dsimp only
  cases hsat : saturatedSample cells with
  | true => simp
  | false =>
    rw [hsat, Bool.false_or] at hfault
    simp [hfault]

/-! ### The end of an operation by a cause that joins -/

/-- A deck whose operation in flight ends, where a cause joins. -/
def endedDeck (now : SiteTime) (joins : Bool) (d : Deck) : Deck := if joins then abortedDeck now .invalid d else d

theorem endedState_eq (joins : Bool) :
    endedState s n joins = { s with decks := s.decks.set n (endedDeck s.now joins (s.deck n)) } := by
  cases joins with
  | false => exact (setDeck_self rfl).symm
  | true => rfl

/-- The end of an operation leaves a deck its operation and the outcome alone. -/
theorem endedDeck_eq (now : SiteTime) (joins : Bool) (d : Deck) : endedDeck now joins d =
    { d with
      op := if joins then none else d.op
      lastOutcome := match d.op with
        | some op => if joins then some ⟨op.sub, .aborted .invalid, now⟩ else d.lastOutcome
        | none => d.lastOutcome } := by
  rcases d with ⟨_, _, _, _, _, _, _, _, _, _, _, op, _⟩
  cases joins <;> cases op <;> rfl

theorem endedEvents_eq (joins : Bool) : endedEvents s n joins =
    match (s.deck n).op with
    | some op => if joins then [s.event .calAborted (some n) .none (.calAborted op.sub .invalid)] else []
    | none => [] := by
  unfold endedEvents abortEvents
  cases joins <;> cases (s.deck n).op <;> rfl

/-- The reasons of a deck that a bad sample joins. -/
def badReasons (s : State) (n : Lane) (cells : List Int) (e : Int) : ReasonSet :=
  { s.reasons n with
    cellSaturated := (s.deck n).saturated || saturatedSample cells
    excitation := (s.deck n).excitation || !refInTolerance (s.cal n) e }

/-- The deck as a bad sample leaves it. -/
def badDeck (s : State) (n : Lane) (cells : List Int) (e : Int) : Deck :=
  endedDeck s.now ((s.reasons n).faultJoined (badReasons s n cells e))
    (if s.deckValid n then invalidDeck (sampledDeck s n cells e) else sampledDeck s n cells e)

/-- A bad sample as one change: the deck that was VALID falls, its lane with it. -/
theorem slotEnds_bad_eq (hslot : s.acq.active.get slot = some n) (hcells : cells.length = (s.deckSettings n).cells)
    (hbad : goodSample (s.cal n) cells e = false) : s.slotEnds slot cells e = s.posted
      ((if s.deckValid n then
          s.droppedEvents n ++ [s.event .deckInvalid (some n) .none (.reasons (badReasons s n cells e))]
        else List.replicate ((s.reasons n).joined (badReasons s n cells e))
          (s.event .deckInvalid (some n) .none (.reasons (badReasons s n cells e))))
        ++ endedEvents s n ((s.reasons n).faultJoined (badReasons s n cells e)))
      { s with
        acq := { s.acq with position := (slot.val + 1) % 16 }
        decks := s.decks.set n (badDeck s n cells e)
        lanes := if s.deckValid n then s.lanes.set n (fallenLane (s.lane n)) else s.lanes } := by
  have hreasons : (sampledState s slot n cells e).reasons n = badReasons s n cells e := by
    rw [sampledState_reasons, sampledDeck_bad hbad]
    rfl
  have hempty := isEmpty_of_bad (s := s) (slot := slot) hbad
  have hended (j : Bool) : endedEvents (sampledState s slot n cells e) n j = endedEvents s n j := by
    have hop : ((sampledState s slot n cells e).deck n).op = (s.deck n).op := by
      rw [sampledState_deck, sampledDeck_bad hbad]
    rw [endedEvents_eq, endedEvents_eq, hop]
    rfl
  rw [slotEnds_bad hslot hcells hbad]
  unfold badDeck
  cases hvalid : s.deckValid n with
  | true =>
    have hfallen : (fallenState (sampledState s slot n cells e) n).deck n = invalidDeck (sampledDeck s n cells e) := by
      rw [← sampledState_deck (slot := slot)]
      exact Quad.get_set_self ..
    rw [afterReasons_falls hvalid hempty, endedState_eq, hreasons, hended, hfallen, if_pos rfl, if_pos rfl, if_pos rfl]
    simp only [fallenState, sampledState, quad_set_set]
    rfl
  | false =>
    have hstays : (s.reasons n).isEmpty = true ↔ (sampledState s slot n cells e).deckValid n = true := by
      rw [State.deckValid, hempty, ← hvalid, State.deckValid]
    rw [afterReasons_stays hstays, endedState_eq, hreasons, hended, sampledState_deck, if_neg Bool.false_ne_true,
      if_neg Bool.false_ne_true, if_neg Bool.false_ne_true]
    simp only [sampledState, quad_set_set]
    rfl

theorem badDeck_eq (hbad : goodSample (s.cal n) cells e = false) : badDeck s n cells e =
    { s.deck n with
      saturated := (s.deck n).saturated || saturatedSample cells
      excitation := (s.deck n).excitation || !refInTolerance (s.cal n) e
      good := 0, lastSample := some ⟨cells, e, s.now, false⟩, heldLimit := none
      history := if s.deckValid n then [] else (s.deck n).history
      reading := if s.deckValid n then none else (s.deck n).reading
      settling := if s.deckValid n then clearedSettling else (s.deck n).settling
      occupancy := if s.deckValid n then .neither else (s.deck n).occupancy
      op := if (s.reasons n).faultJoined (badReasons s n cells e) then none else (s.deck n).op
      lastOutcome := match (s.deck n).op with
        | some op =>
          if (s.reasons n).faultJoined (badReasons s n cells e) then some ⟨op.sub, .aborted .invalid, s.now⟩
          else (s.deck n).lastOutcome
        | none => (s.deck n).lastOutcome } := by
  rw [badDeck, endedDeck_eq, sampledDeck_bad hbad]
  cases s.deckValid n <;> rfl

theorem reasons_of_deck {w : State} {d : Deck} (hdeck : w.deck n = d) (hcal : w.cal n = s.cal n) : w.reasons n =
    { s.reasons n with noSlots := d.noSlots, cellSaturated := d.saturated, excitation := d.excitation } := by
  rw [State.reasons, hdeck, hcal]
  rfl

/-- Settles O17: a deck that was VALID falls, any other stays INVALID. -/
theorem badSampleIsDiscarded : Obligations.BadSampleIsDiscarded := by
  intro s slot cells e n hheld hslot hcells hbad after joined invalid parts
  have hexec : exec (.deckSample slot cells e) s = _ :=
    congrArg Host.Outcome.next ((whileRunning_of_running hheld _).trans (slotEnds_bad_eq hslot hcells hbad))
  refine ⟨_, hexec, rfl, rfl, ?_⟩
  have hdeck : ∀ (es : List Event) (ls : Quad LaneSeq), (s.posted es { s with
      acq := { s.acq with position := (slot.val + 1) % 16 }
      decks := s.decks.set n (badDeck s n cells e), lanes := ls }).deck n = badDeck s n cells e :=
    fun _ _ => Quad.get_set_self ..
  refine ⟨(reasons_of_deck (hdeck _ _) rfl).trans ?_, ?_⟩
  · rw [badDeck_eq hbad]
    rfl
  rw [hdeck, badDeck_eq hbad]
  refine ⟨rfl, rfl, rfl, ?_, rfl, fun op hop => ?_, ?_, ?_⟩
  · cases s.deckValid n <;> exact ⟨rfl, rfl, rfl, rfl⟩
  · rw [hop]
    rfl
  · cases s.deckValid n with
    | true => exact Quad.get_set_self ..
    | false => rfl
  · refine congrArg s.eventsAfter (congrArg₂ (· ++ ·) ?_ (endedEvents_eq _))
    cases s.deckValid n with
    | true =>
      have hdropped : s.droppedEvents n = if true = true ∧ (s.lane n).state = .weighing ∧ parts ≠ [] then
          [s.event .partDiscarded (some n) .none (.parts parts.length)] else [] :=
        if_congr (and_iff_right rfl).symm rfl rfl
      exact congrArg (· ++ [invalid]) hdropped
    | false => rfl

end Sys2Proof.Proofs
end

section
/-! O16: FRAME_START, the plan taken and NO_SLOTS decided (R1 to R4, R13, R14, R54, R64). -/

namespace Sys2Proof.Proofs
open Sys2Proof Sys2Proof.Machine

variable {s t u : State} {n : Lane}

/-! ### NO_SLOTS decided for one deck -/

/-- A deck without a slot in the active plan. -/
def bareDeck (s : State) (n : Lane) : Bool := !planGives s.acq.active n

/-- The state with the deck's NO_SLOTS decided, before its reasons are judged. -/
def slotsDecided (s : State) (n : Lane) : State := s.modDeck n fun d => { d with noSlots := bareDeck s n }

/-- The reasons that the plan leaves a deck. -/
def slotReasons (s : State) (n : Lane) : ReasonSet := { s.reasons n with noSlots := bareDeck s n }

/-- NO_SLOTS joins a deck's reasons. -/
def slotJoins (s : State) (n : Lane) : Bool := bareDeck s n && !(s.deck n).noSlots

/-- NO_SLOTS is the first reason of a VALID deck. -/
def slotFalls (s : State) (n : Lane) : Bool := s.deckValid n && slotJoins s n

/-- NO_SLOTS was the last reason of an INVALID deck. -/
def slotRises (s : State) (n : Lane) : Bool := !s.deckValid n && (slotReasons s n).isEmpty

theorem slotsDecided_reasons : (slotsDecided s n).reasons n = slotReasons s n := by
  simp [slotsDecided, slotReasons, State.reasons, State.modDeck, State.deck]
  rfl

theorem slotsDecided_deck : (slotsDecided s n).deck n = { s.deck n with noSlots := bareDeck s n } := Quad.get_upd_self ..

theorem decideSlots_eq : s.decideSlots n = (slotsDecided s n).afterReasons n (s.reasons n) := rfl

theorem faultJoined_slots : (s.reasons n).faultJoined (slotReasons s n) = slotJoins s n := by
  simp [ReasonSet.faultJoined, slotReasons, slotJoins, State.reasons, Bool.and_comm]

theorem joined_slots : (s.reasons n).joined (slotReasons s n) = if slotJoins s n then 1 else 0 := by
  simp [ReasonSet.joined, slotReasons, slotJoins, State.reasons, Bool.and_comm]

/-- What NO_SLOTS posts for one deck. -/
def slotEvents (s : State) (n : Lane) : List Event :=
  (if slotFalls s n then s.droppedEvents n else [])
    ++ (if slotJoins s n then [s.event .deckInvalid (some n) .none (.reasons (slotReasons s n))] else [])
    ++ (if slotRises s n then [s.event .deckValid (some n) .none .none] else [])
    ++ endedEvents s n (slotJoins s n)

/-- The deck as NO_SLOTS leaves it. -/
def slotDeck (s : State) (n : Lane) : Deck :=
  endedDeck s.now (slotJoins s n)
    (if slotFalls s n then invalidDeck { s.deck n with noSlots := bareDeck s n }
    else { s.deck n with noSlots := bareDeck s n })

theorem slotRises_joins (h : slotRises s n = true) : slotJoins s n = false := by
  have hempty := ((Bool.and_eq_true _ _).mp h).2
  simp only [ReasonSet.isEmpty, slotReasons, Bool.and_eq_true, Bool.not_eq_true'] at hempty
  obtain ⟨⟨⟨_, hbare⟩, _⟩, _⟩ := hempty
  rw [slotJoins, hbare]
  rfl

theorem decideSlots_rises (h : slotRises s n = true) :
    s.decideSlots n = s.posted [s.event .deckValid (some n) .none .none] ((slotsDecided s n).laneSettle n) := by
  obtain ⟨hbefore, hafter⟩ : (s.reasons n).isEmpty = false ∧ (slotReasons s n).isEmpty = true := by
    simpa [slotRises, State.deckValid] using h
  rw [decideSlots_eq, afterReasons_rises hbefore (show (State.reasons _ _).isEmpty = true by rw [slotsDecided_reasons, hafter])]
  rfl

/-- The deck stays VALID, or stays INVALID. -/
theorem validity_kept (hfalls : slotFalls s n = false) (hrises : slotRises s n = false) :
    (s.reasons n).isEmpty = true ↔ (slotsDecided s n).deckValid n = true := by
  rw [State.deckValid, slotsDecided_reasons]
  have hslots : (s.reasons n).noSlots = (s.deck n).noSlots := rfl
  simp only [slotFalls, slotRises, slotJoins, State.deckValid, slotReasons, ReasonSet.isEmpty, ← hslots] at *
  generalize s.reasons n = r at *
  rcases r with ⟨u, m, c, e⟩
  cases u <;> cases m <;> cases c <;> cases e <;> cases hb : bareDeck s n <;> simp_all

/-- A deck that does not become VALID: what falls, falls; the rest keeps its lane. -/
theorem decideSlots_not_rises (h : slotRises s n = false) : s.decideSlots n =
    s.posted (slotEvents s n)
      { s with
        decks := s.decks.set n (slotDeck s n)
        lanes := if slotFalls s n then s.lanes.set n (fallenLane (s.lane n)) else s.lanes } := by
  have hended : endedEvents (slotsDecided s n) n (slotJoins s n) = endedEvents s n (slotJoins s n) := by
    rw [endedEvents_eq, endedEvents_eq, slotsDecided_deck]
    rfl
  rw [decideSlots_eq]
  unfold slotEvents slotDeck
  cases hfalls : slotFalls s n with
  | true =>
    obtain ⟨hvalid, hjoins⟩ : s.deckValid n = true ∧ slotJoins s n = true := by simpa [slotFalls] using hfalls
    have hbare : bareDeck s n = true := ((Bool.and_eq_true _ _).mp hjoins).1
    have hinvalid : (slotsDecided s n).deckValid n = false := by
      rw [State.deckValid, slotsDecided_reasons]
      simp [ReasonSet.isEmpty, slotReasons, hbare]
    have hfallen : (fallenState (slotsDecided s n) n).deck n = invalidDeck ((slotsDecided s n).deck n) :=
      Quad.get_set_self ..
    rw [afterReasons_falls hvalid hinvalid, slotsDecided_reasons, faultJoined_slots, endedState_eq, hended, hfallen,
      slotsDecided_deck, hjoins, h, if_neg Bool.false_ne_true, List.append_nil]
    simp only [fallenState, slotsDecided, State.modDeck, Quad.upd, quad_set_set]
    rfl
  | false =>
    rw [afterReasons_stays (validity_kept hfalls h), slotsDecided_reasons, faultJoined_slots, joined_slots, endedState_eq,
      hended, slotsDecided_deck, h]
    simp only [slotsDecided, State.modDeck, Quad.upd, quad_set_set]
    cases slotJoins s n <;> rfl


/-! ### What NO_SLOTS leaves of a lane -/

/-- The lane of a deck that becomes VALID leaves SUSPENDED. -/
def slotFrees (s : State) (n : Lane) : Bool :=
  slotRises s n && decide ((s.lane n).state = .suspended) && !s.yardCause n

/-- It leaves it for CLOSED. -/
def slotCloses (s : State) (n : Lane) : Bool :=
  slotFrees s n && ((s.lane n).closePending || decide (s.ret.settings.siteMode = .closed))

/-- The lane as NO_SLOTS leaves it, but for an IDLE lane with an INVALID deck. -/
def slotLane (s : State) (n : Lane) : LaneSeq :=
  if slotFalls s n then fallenLane (s.lane n)
  else if slotFrees s n then s.idled n false (decide ((s.deck n).occupancy = .occupied))
  else s.lane n

theorem suspendCause_of_valid (h : s.deckValid n = true) : s.suspendCause n = s.yardCause n := by
  unfold State.suspendCause State.yardCause
  rw [h, barrierFaulted_eq_isFault]
  simp

theorem slotsDecided_cause (h : slotRises s n = true) : (slotsDecided s n).suspendCause n = s.yardCause n := by
  refine (suspendCause_of_valid ?_).trans rfl
  rw [State.deckValid, slotsDecided_reasons]
  exact ((Bool.and_eq_true _ _).mp h).2

theorem slotFalls_of_rises (h : slotRises s n = true) : slotFalls s n = false := by
  rw [slotFalls, slotRises_joins h, Bool.and_false]

theorem decideSlots_deck : (s.decideSlots n).deck n = slotDeck s n := by
  cases hrises : slotRises s n with
  | true =>
    have hdecks : ((slotsDecided s n).laneSettle n).deck n = (slotsDecided s n).deck n :=
      congrArg (Quad.get · n) laneSettle_decks
    rw [decideSlots_rises hrises, slotDeck, slotRises_joins hrises, slotFalls_of_rises hrises]
    exact hdecks.trans slotsDecided_deck
  | false =>
    rw [decideSlots_not_rises hrises]
    exact Quad.get_set_self ..

theorem decideSlots_lane (h : ¬(slotRises s n = true ∧ (s.lane n).state = .idle)) :
    (s.decideSlots n).lane n = slotLane s n := by
  cases hrises : slotRises s n with
  | true =>
    have hstate : (slotsDecided s n).lane n = s.lane n := rfl
    have hdeck : ((slotsDecided s n).deck n).occupancy = (s.deck n).occupancy := by rw [slotsDecided_deck]
    rw [decideSlots_rises hrises, slotLane, slotFalls_of_rises hrises, slotFrees, hrises]
    refine (laneSettle_lane_eq (s := slotsDecided s n)).trans ?_
    rw [hstate, slotsDecided_cause hrises, hdeck]
    cases hst : (s.lane n).state with
    | idle => exact absurd ⟨hrises, hst⟩ h
    | suspended => cases s.yardCause n <;> rfl
    | _ => rfl
  | false =>
    rw [decideSlots_not_rises hrises, slotLane, slotFrees, hrises]
    cases slotFalls s n with
    | true => exact Quad.get_set_self ..
    | false => rfl

theorem laneSettle_yard_elsewhere (h : (s.lane n).state ≠ .suspended) :
    (s.laneSettle n).barriers = s.barriers ∧ (s.laneSettle n).ret = s.ret := by
  refine ⟨laneSettle_barriers_of h, ?_⟩
  unfold State.laneSettle
  split
  · split_ifs <;> rfl
  · next hs => exact absurd hs h
  · rfl

theorem enterIdle_yard (s : State) (n : Lane) :
    (s.enterIdle n).barrier n = (if (s.lane n).closePending || decide (s.ret.settings.siteMode = .closed) then
        (s.obeying n .down).get n else s.barrier n)
    ∧ (s.enterIdle n).laneSettings n = (if (s.lane n).closePending || decide (s.ret.settings.siteMode = .closed) then
        { s.laneSettings n with closed := true } else s.laneSettings n) := by
  by_cases hc : (s.lane n).closePending = true ∨ s.ret.settings.siteMode = .closed
  · have hcloses : ((s.lane n).closePending || decide (s.ret.settings.siteMode = .closed)) = true := by simpa using hc
    rw [enterIdle_eq, if_pos hc, hcloses]
    exact ⟨rfl, Quad.get_set_self ..⟩
  · have hcloses : ((s.lane n).closePending || decide (s.ret.settings.siteMode = .closed)) = false := by simpa using hc
    rw [enterIdle_eq, if_neg hc, hcloses]
    exact ⟨rfl, rfl⟩

theorem decideSlots_yard : (s.decideSlots n).barrier n = (if slotCloses s n then (s.obeying n .down).get n else s.barrier n)
    ∧ (s.decideSlots n).laneSettings n
      = if slotCloses s n then { s.laneSettings n with closed := true } else s.laneSettings n := by
  cases hrises : slotRises s n with
  | true =>
    rw [decideSlots_rises hrises, slotCloses, slotFrees, hrises]
    have hbarrier : (s.posted [s.event .deckValid (some n) .none .none] ((slotsDecided s n).laneSettle n)).barrier n
        = ((slotsDecided s n).laneSettle n).barrier n := rfl
    have hsettings : (s.posted [s.event .deckValid (some n) .none .none]
        ((slotsDecided s n).laneSettle n)).laneSettings n = ((slotsDecided s n).laneSettle n).laneSettings n := rfl
    rw [hbarrier, hsettings]
    by_cases hst : (s.lane n).state = .suspended
    · have hsettle : (slotsDecided s n).laneSettle n
          = if s.yardCause n = true then slotsDecided s n else (slotsDecided s n).enterIdle n := by
        rw [← slotsDecided_cause hrises]
        refine laneSettle_eq.trans ?_
        rw [show ((slotsDecided s n).lane n).state = .suspended from hst]
      obtain ⟨hidleBarrier, hidleSettings⟩ := enterIdle_yard (slotsDecided s n) n
      rw [hsettle, decide_eq_true hst]
      cases s.yardCause n with
      | true => exact ⟨rfl, rfl⟩
      | false => exact ⟨hidleBarrier, hidleSettings⟩
    · obtain ⟨hbarriers, hret⟩ := laneSettle_yard_elsewhere (s := slotsDecided s n) hst
      rw [State.barrier, hbarriers, State.laneSettings, hret, decide_eq_false hst]
      exact ⟨rfl, rfl⟩
  | false =>
    rw [decideSlots_not_rises hrises, slotCloses, slotFrees, hrises]
    exact ⟨rfl, rfl⟩

theorem decideSlots_posts : s.posts (s.decideSlots n) (slotEvents s n) := by
  cases hrises : slotRises s n with
  | true =>
    rw [decideSlots_rises hrises, slotEvents, slotRises_joins hrises, slotFalls_of_rises hrises, hrises]
    rfl
  | false =>
    rw [decideSlots_not_rises hrises]
    rfl


/-! ### Every deck in turn -/

/-- What the decision of a deck's NO_SLOTS reads, alike in two states. -/
structure SlotSame (n : Lane) (s u : State) : Prop where
  lane : SameLane n s u
  mode : u.ret.settings.siteMode = s.ret.settings.siteMode
  acq : u.acq = s.acq
  clock : u.clock = s.clock

theorem SlotSame.refl (n : Lane) (s : State) : SlotSame n s s := ⟨sameLane_refl n s, rfl, rfl, rfl⟩

theorem SlotSame.trans {w : State} (h : SlotSame n s u) (g : SlotSame n u w) : SlotSame n s w :=
  ⟨sameLane_trans h.lane g.lane, g.mode.trans h.mode, g.acq.trans h.acq, g.clock.trans h.clock⟩

theorem decideSlots_upholds (s : State) (m : Lane) :
    Upholds ⟨(· = m), fun _ => False, True, True⟩ s (s.decideSlots m) :=
  (upholds_modDeck rfl).trans (upholds_afterReasons rfl)

theorem enterIdle_siteSettings (s : State) (n : Lane) : siteSettings (s.enterIdle n) = siteSettings s := by
  rw [enterIdle_eq]
  split <;> rfl

theorem laneSettle_siteSettings (s : State) (n : Lane) : siteSettings (s.laneSettle n) = siteSettings s := by
  by_cases h : (s.lane n).state = .suspended
  · rw [laneSettle_eq, h]
    dsimp only
    split
    · rfl
    · exact enterIdle_siteSettings s n
  · rw [siteSettings, (laneSettle_yard_elsewhere h).2]
    rfl

theorem decideSlots_siteSettings (s : State) (n : Lane) : siteSettings (s.decideSlots n) = siteSettings s := by
  cases hrises : slotRises s n with
  | true =>
    rw [decideSlots_rises hrises]
    exact laneSettle_siteSettings (slotsDecided s n) n
  | false =>
    rw [decideSlots_not_rises hrises]
    rfl

theorem decideSlots_keeps (s : State) (m : Lane) :
    Keeps { decks := true, lanes := true, settings := true, barriers := true, events := true } s (s.decideSlots m) :=
  (keeps_modDeck rfl).trans (keeps_afterReasons rfl rfl rfl rfl rfl)

theorem decideSlots_same {m : Lane} (hne : m ≠ n) (s : State) : SlotSame n s (s.decideSlots m) where
  lane := (decideSlots_upholds s m).others n (Ne.symm hne)
  mode := show (siteSettings (s.decideSlots m)).siteMode = (siteSettings s).siteMode by rw [decideSlots_siteSettings]
  acq := (decideSlots_keeps s m).acq rfl
  clock := (decideSlots_keeps s m).clock rfl

/-- A lane after every deck is decided: as its own decision left it, on a state like the first. -/
theorem decideSlots_each (s : State) (n : Lane) :
    ∃ u, SlotSame n s u ∧ SameLane n (u.decideSlots n) (s.eachLane State.decideSlots) := by
  have hsame (m : Lane) (hne : m ≠ n) (u : State) : SameLane n u (u.decideSlots m) := (decideSlots_same hne u).lane
  cases n with
  | one =>
    exact ⟨s, .refl _ _, sameLane_trans (sameLane_trans (hsame .two (by decide) (s.decideSlots .one))
      (hsame .three (by decide) _)) (hsame .four (by decide) _)⟩
  | two =>
    exact ⟨s.decideSlots .one, decideSlots_same (by decide) s,
      sameLane_trans (hsame .three (by decide) ((s.decideSlots .one).decideSlots .two)) (hsame .four (by decide) _)⟩
  | three =>
    exact ⟨(s.decideSlots .one).decideSlots .two, (decideSlots_same (by decide) s).trans
      (decideSlots_same (by decide) _), hsame .four (by decide) (((s.decideSlots .one).decideSlots .two).decideSlots .three)⟩
  | four =>
    exact ⟨((s.decideSlots .one).decideSlots .two).decideSlots .three, ((decideSlots_same (by decide) s).trans
      (decideSlots_same (by decide) _)).trans (decideSlots_same (by decide) _), sameLane_refl _ _⟩

/-- What NO_SLOTS makes of a lane is the same from states that it reads alike. -/
theorem slot_congr (h : SlotSame n s u) : slotDeck u n = slotDeck s n ∧ slotLane u n = slotLane s n
    ∧ slotEvents u n = slotEvents s n ∧ slotRises u n = slotRises s n ∧ slotCloses u n = slotCloses s n
    ∧ (u.obeying n .down).get n = (s.obeying n .down).get n := by
  obtain ⟨⟨hcal, hdeck, hloops, hbarrier, -, hlane, hsettings, -⟩, hmode, hacq, hclock⟩ := h
  have hloop (side : LoopSide) : u.loop n side = s.loop n side := by cases side <;> simp [State.loop, hloops]
  have hreasons : u.reasons n = s.reasons n := by simp only [State.reasons, hcal, hdeck]
  have hnow : u.now = s.now := congrArg Clock.siteTime hclock
  have hevent : State.event u = State.event s := by unfold State.event; rw [hnow]
  have hbare : bareDeck u n = bareDeck s n := by rw [bareDeck, bareDeck, hacq]
  have hafter : slotReasons u n = slotReasons s n := by rw [slotReasons, slotReasons, hreasons, hbare]
  have hjoins : slotJoins u n = slotJoins s n := by rw [slotJoins, slotJoins, hbare, hdeck]
  have hfalls : slotFalls u n = slotFalls s n := by rw [slotFalls, slotFalls, State.deckValid, hreasons, hjoins]; rfl
  have hrises : slotRises u n = slotRises s n := by rw [slotRises, slotRises, State.deckValid, hreasons, hafter]; rfl
  have hyard : u.yardCause n = s.yardCause n := by simp only [State.yardCause, hbarrier, hloop]
  have hfrees : slotFrees u n = slotFrees s n := by simp only [slotFrees, hrises, hlane, hyard]
  have hobeying : (u.obeying n .down).get n = (s.obeying n .down).get n := by
    refine (Quad.get_upd_self ..).trans (Eq.trans ?_ (Quad.get_upd_self ..).symm)
    show Barrier.obeyed _ _ _ (u.barrier n) = Barrier.obeyed _ _ _ (s.barrier n)
    simp only [State.clearReport, hloop, hsettings, hbarrier]
  refine ⟨?_, ?_, ?_, hrises, ?_, hobeying⟩
  · simp only [slotDeck, hnow, hjoins, hfalls, hdeck, hbare]
  · simp only [slotLane, State.idled, hfalls, hfrees, hlane, hdeck, hmode]
  · simp only [slotEvents, State.droppedEvents, endedEvents_eq, hfalls, hjoins, hrises, hlane, hevent, hafter, hdeck]
  · simp only [slotCloses, hfrees, hlane, hmode]

theorem decideSlots_all_posts (s : State) :
    s.posts (s.eachLane State.decideSlots) (Lane.all.flatMap (slotEvents s)) := by
  have hnext {u : State} {m : Lane} (h : SlotSame m s u) : u.posts (u.decideSlots m) (slotEvents s m) := by
    rw [← (slot_congr h).2.2.1]
    exact decideSlots_posts
  have htwo : SlotSame .two s (s.decideSlots .one) := decideSlots_same (by decide) s
  have hthree : SlotSame .three s ((s.decideSlots .one).decideSlots .two) :=
    (decideSlots_same (by decide) s).trans (decideSlots_same (by decide) _)
  have hfour : SlotSame .four s (((s.decideSlots .one).decideSlots .two).decideSlots .three) :=
    ((decideSlots_same (by decide) s).trans (decideSlots_same (by decide) _)).trans (decideSlots_same (by decide) _)
  have hall := posts_trans (posts_trans (posts_trans (hnext (.refl .one s)) (hnext htwo)) (hnext hthree)) (hnext hfour)
  unfold State.eachLane
  simpa only [Lane.all, List.flatMap_cons, List.flatMap_nil, List.append_nil, List.append_assoc] using hall

/-- Each lane after every deck is decided. -/
theorem decideSlots_lanes (s : State) (n : Lane) :
    (s.eachLane State.decideSlots).cal n = s.cal n ∧ (s.eachLane State.decideSlots).deck n = slotDeck s n
      ∧ (¬(slotRises s n = true ∧ (s.lane n).state = .idle) →
          (s.eachLane State.decideSlots).lane n = slotLane s n)
      ∧ (s.eachLane State.decideSlots).barrier n
        = (if slotCloses s n then (s.obeying n .down).get n else s.barrier n)
      ∧ (s.eachLane State.decideSlots).laneSettings n
        = if slotCloses s n then { s.laneSettings n with closed := true } else s.laneSettings n := by
  obtain ⟨u, hsame, hafter⟩ := decideSlots_each s n
  obtain ⟨hdeck, hlane, -, hrises, hcloses, hobeying⟩ := slot_congr hsame
  obtain ⟨⟨hcalU, -, -, hbarrierU, -, hlaneU, hsettingsU, -⟩, -⟩ := hsame
  obtain ⟨hcalT, hdeckT, -, hbarrierT, -, hlaneT, hsettingsT, -⟩ := hafter
  obtain ⟨hbarrier, hsettings⟩ := decideSlots_yard (s := u) (n := n)
  have hcal : (u.decideSlots n).cal n = u.cal n := congrArg (Quad.get · n) ((decideSlots_keeps u n).cal rfl)
  refine ⟨hcalT.trans (hcal.trans hcalU), hdeckT.trans (decideSlots_deck.trans hdeck), fun h => ?_, ?_, ?_⟩
  · rw [← hrises, ← hlaneU] at h
    exact hlaneT.trans ((decideSlots_lane h).trans hlane)
  · rw [hbarrierT, hbarrier, hcloses, hobeying, hbarrierU]
  · rw [hsettingsT, hsettings, hcloses, hsettingsU]

/-- The end of the operation in flight, read off the operation. -/
def endedByOp (now : SiteTime) (joins : Bool) (e : Deck) : Option CalOp → Deck
  | some op => if joins then { e with op := none, lastOutcome := some ⟨op.sub, .aborted .invalid, now⟩ } else e
  | none => e

theorem endedDeck_of_op {e : Deck} {o : Option CalOp} (h : e.op = o) (now : SiteTime) (joins : Bool) :
    endedDeck now joins e = endedByOp now joins e o := by
  rw [← h]
  unfold endedDeck abortedDeck endedByOp
  cases e.op <;> cases joins <;> rfl

/-- Settles O16. -/
theorem frameStartTakesThePlan : Obligations.FrameStartTakesThePlan := by
  intro s hheld plan bare after joins falls rises freed closes posted
  obtain ⟨v, hv⟩ : ∃ v, v = s.modAcq fun _ => ⟨s.ret.settings.slotPlan, 0⟩ := ⟨_, rfl⟩
  have hexec : exec .frameStart s = .next (v.eachLane State.decideSlots) := by
    rw [hv]
    exact congrArg Host.Outcome.next (whileRunning_of_running hheld _)
  have hbare : ∀ n, bareDeck v n = bare n := fun n => by
    rw [bareDeck, mem_plan_iff, hv]
    exact (decide_not ..).symm
  have hdeck : v.decks = s.decks := by rw [hv]; rfl
  have hafter : ∀ n, slotReasons v n = after n := fun n => by
    rw [slotReasons, hbare, hv]
    rfl
  have hjoins : ∀ n, slotJoins v n = joins n := fun n => by
    rw [slotJoins, hbare, State.deck, hdeck]
    rfl
  have hfalls : ∀ n, slotFalls v n = falls n := fun n => by
    rw [slotFalls, hjoins, hv]
    rfl
  have hrises : ∀ n, slotRises v n = rises n := fun n => by
    rw [slotRises, hafter, hv]
    rfl
  have hfrees : ∀ n, slotFrees v n = freed n := fun n => by
    rw [slotFrees, hrises, hv]
    rfl
  have hcloses : ∀ n, slotCloses v n = closes n := fun n => by
    rw [slotCloses, hfrees, hv]
    rfl
  refine ⟨v.eachLane State.decideSlots, hexec, ?_, fun n => ?_, fun n => ?_, fun n hn => ?_, fun n => ?_, fun n => ?_, ?_⟩
  · refine (Keeps.eachLane decideSlots_keeps v).acq rfl |>.trans ?_
    rw [hv]
    rfl
  · obtain ⟨hcal, hdeckT, -⟩ := decideSlots_lanes v n
    refine (reasons_of_deck (s := s) hdeckT (hcal.trans (by rw [hv]; rfl))).trans ?_
    rw [slotDeck, endedDeck_eq, hbare, State.deck, hdeck]
    cases slotFalls v n <;> rfl
  · obtain ⟨-, hdeckT, -⟩ := decideSlots_lanes v n
    intro d e
    have hnow : v.now = s.now := by rw [hv]; rfl
    have hop : e.op = d.op := by
      show (if falls n = true then _ else d).op = d.op
      cases falls n <;> rfl
    rw [hdeckT, slotDeck, hbare, hjoins, hfalls, hnow, State.deck, hdeck]
    refine (endedDeck_of_op hop s.now (joins n)).trans ?_
    cases d.op <;> rfl
  · obtain ⟨-, -, hlane, -⟩ := decideSlots_lanes v n
    rw [hrises] at hlane
    rw [hlane (by rw [hv]; exact hn), slotLane, hfalls, hfrees, hv]
    rfl
  · obtain ⟨-, -, -, hbarrier, -⟩ := decideSlots_lanes v n
    rw [hbarrier, hcloses, hv]
    rfl
  · obtain ⟨-, -, -, -, hsettings⟩ := decideSlots_lanes v n
    rw [hsettings, hcloses, hv]
    rfl
  · have hposts := decideSlots_all_posts v
    have hevents : slotEvents v = posted := funext fun n => by
      rw [slotEvents, hfalls, hjoins, hrises, hafter, endedEvents_eq, hv]
      refine congrArg (· ++ _ ++ _ ++ _) ?_
      cases hf : falls n <;> simp [State.droppedEvents]
      rfl
    rw [hevents] at hposts
    rw [hv] at hposts ⊢
    exact hposts

end Sys2Proof.Proofs
end

section
/-! O22 and O23: a capture in flight counts, rejects or completes at a good sample (R54 to R64). -/

namespace Sys2Proof.Proofs
open Sys2Proof Sys2Proof.Machine

variable {s t u w : State} {n : Lane} {slot : Fin 16} {cells : List Int} {e : Int}

/-! ### A good sample put to work -/

/-- The reading that a sample makes on a deck. -/
def sampleReading (s : State) (n : Lane) (cells : List Int) (e : Int) : Reading :=
  makeReading (s.cal n) (s.deckSettings n).depth (pushHistory (s.deck n).history (spanWeight (s.cal n) cells e))
    (spanWeight (s.cal n) cells e) s.now

/-- The settling monitor after that reading. -/
def sampleSettling (s : State) (n : Lane) (cells : List Int) (e : Int) : Settling :=
  judgeReading (s.deckSettings n) (s.deck n).settling (sampleReading s n cells e)

/-- The occupancy that the reading shows. -/
def sampleOccupancy (s : State) (n : Lane) (cells : List Int) (e : Int) : Occupancy :=
  occupancyOf (s.laneSettings n).occupancy (sampleReading s n cells e).f

/-- The deck with the reading made and judged. -/
def readDeck (s : State) (n : Lane) (cells : List Int) (e : Int) : Deck :=
  { s.deck n with
    history := pushHistory (s.deck n).history (spanWeight (s.cal n) cells e)
    reading := some (sampleReading s n cells e)
    settling := sampleSettling s n cells e }

/-- A lane being weighed on, as its deck leaves LOCKED. -/
def movedLane (s : State) (n : Lane) (cells : List Int) (e : Int) : LaneSeq :=
  { s.lane n with
    capture := { (s.lane n).capture with
      moved := (s.lane n).capture.moved || decide ((s.deck n).settling.state = .locked
        ∧ (sampleSettling s n cells e).state ≠ .locked ∧ (s.lane n).state = .weighing) } }

/-- The state with the reading made and judged, before the occupancy is. -/
def readingState (s : State) (n : Lane) (cells : List Int) (e : Int) : State :=
  { s with
    decks := s.decks.set n (readDeck s n cells e)
    lanes := s.lanes.set n (movedLane s n cells e) }

theorem workSample_eq : s.workSample n cells e
    = ((readingState s n cells e).setOccupancy n (sampleOccupancy s n cells e)).examineCapture n := by
  have hread : (s.modDeck n fun d =>
      { d with
        history := pushHistory (s.deck n).history (spanWeight (s.cal n) cells e)
        reading := some (sampleReading s n cells e) }).setSettling n (sampleSettling s n cells e)
      = readingState s n cells e := by
    rw [setSettling_eq]
    simp only [State.modDeck, Quad.upd, State.deck, State.lane, Quad.get_set_self, quad_set_set]
    rfl
  rw [← hread]
  rfl

theorem examineCapture_keeps : Keeps { lanes := true, events := true } s (s.examineCapture n) :=
  keeps_examineCapture rfl rfl

theorem workSample_keeps : Keeps
    { decks := true, lanes := true, settings := true, barriers := true, events := true } s (s.workSample n cells e) :=
  keeps_workSample rfl rfl rfl rfl rfl

theorem workSample_deck : (s.workSample n cells e).deck n =
    { readDeck s n cells e with occupancy := sampleOccupancy s n cells e } := by
  have hexamined : (s.workSample n cells e).deck n
      = ((readingState s n cells e).setOccupancy n (sampleOccupancy s n cells e)).deck n := by
    rw [workSample_eq]
    exact congrArg (Quad.get · n) (examineCapture_keeps.decks rfl)
  rw [hexamined, State.deck, setOccupancy_decks, Quad.get_upd_self]
  exact congrArg (fun d : Deck => { d with occupancy := sampleOccupancy s n cells e }) (Quad.get_set_self ..)

theorem workSample_reasons : (s.workSample n cells e).reasons n = s.reasons n := by
  have hcal : (s.workSample n cells e).cal n = s.cal n := congrArg (Quad.get · n) (workSample_keeps.cal rfl)
  rw [State.reasons, hcal, workSample_deck]
  rfl

theorem movedLane_elsewhere (h : (s.lane n).state ≠ .weighing) : movedLane s n cells e = s.lane n := by
  unfold movedLane
  rw [decide_eq_false fun hm => h hm.2.2, Bool.or_false]

/-- A lane that is not being weighed on keeps its mark. -/
theorem readingState_elsewhere (h : (s.lane n).state ≠ .weighing) : readingState s n cells e =
    { s with decks := s.decks.set n (readDeck s n cells e) } := by
  rw [readingState, movedLane_elsewhere h]
  exact setLane_self (s := { s with decks := s.decks.set n (readDeck s n cells e) }) rfl

theorem setOccupancy_closed (h : (s.lane n).state = .closed) (o : Occupancy) :
    s.setOccupancy n o = { s with decks := s.decks.set n { s.deck n with occupancy := o } } := by
  unfold State.setOccupancy
  split
  · next ho => exact (setDeck_self (by rw [← ho])).symm
  · unfold State.occupancyChanged
    rw [show ((s.modDeck n fun d => { d with occupancy := o }).lane n).state = .closed from h]
    rfl

/-- A deck of a CLOSED lane is read and judged, and nothing more. -/
theorem workSample_closed (h : (s.lane n).state = .closed) : s.workSample n cells e =
    { s with decks := s.decks.set n { readDeck s n cells e with occupancy := sampleOccupancy s n cells e } } := by
  have hnot : (s.lane n).state ≠ .weighing := by rw [h]; nofun
  rw [workSample_eq, readingState_elsewhere hnot,
    setOccupancy_closed (s := { s with decks := s.decks.set n (readDeck s n cells e) }) h, examineCapture_elsewhere]
  · simp only [State.deck, Quad.get_set_self, quad_set_set]
  · exact hnot

/-! ### Reasons that stay as they are -/

theorem afterReasons_self : s.afterReasons n (s.reasons n) = s := by
  have hjoined : (s.reasons n).joined (s.reasons n) = 0 := by simp [ReasonSet.joined]
  have hfault : (s.reasons n).faultJoined (s.reasons n) = false := by simp [ReasonSet.faultJoined]
  rw [afterReasons_stays Iff.rfl, hjoined, hfault]
  rfl


/-! ### A good sample on a deck without a fault -/

theorem sampledDeck_clean (hgood : goodSample (s.cal n) cells e = true) (hsat : (s.deck n).saturated = false)
    (hexc : (s.deck n).excitation = false) : sampledDeck s n cells e =
    { s.deck n with lastSample := some ⟨cells, e, s.now, true⟩, heldLimit := none } := by
  have hno : (saturatedSample cells || !refInTolerance (s.cal n) e) = false := by
    rw [goodSample_eq, Bool.not_eq_true'] at hgood
    exact hgood
  unfold sampledDeck judgedDeck
  rw [hno, hsat, hexc, hgood]
  rfl

theorem sampledState_reasons_clean (hgood : goodSample (s.cal n) cells e = true) (hsat : (s.deck n).saturated = false)
    (hexc : (s.deck n).excitation = false) : (sampledState s slot n cells e).reasons n = s.reasons n := by
  rw [sampledState_reasons, sampledDeck_clean hgood hsat hexc]
  rfl

/-- The state that a good sample hands to the capture in flight. -/
def handedState (s : State) (slot : Fin 16) (n : Lane) (cells : List Int) (e : Int) : State :=
  if s.deckValid n then (sampledState s slot n cells e).workSample n cells e else sampledState s slot n cells e

theorem slotEnds_clean (hslot : s.acq.active.get slot = some n) (hcells : cells.length = (s.deckSettings n).cells)
    (hgood : goodSample (s.cal n) cells e = true) (hsat : (s.deck n).saturated = false)
    (hexc : (s.deck n).excitation = false) :
    s.slotEnds slot cells e = (handedState s slot n cells e).calSample n cells e := by
  have hreasons := sampledState_reasons_clean (slot := slot) hgood hsat hexc
  have hself : (sampledState s slot n cells e).afterReasons n (s.reasons n) = sampledState s slot n cells e := by
    rw [← hreasons]
    exact afterReasons_self
  have hvalid : (sampledState s slot n cells e).deckValid n = s.deckValid n := by
    rw [State.deckValid, hreasons]
    rfl
  rw [slotEnds_eq hslot hcells, if_pos hgood, hself, hvalid]
  rfl

/-- What a good sample hands on: the capture, the constants, the reasons and the clock as they stood. -/
structure Handed (s : State) (slot : Fin 16) (n : Lane) (w : State) : Prop where
  acq : w.acq = { s.acq with position := (slot.val + 1) % 16 }
  cal : w.ret.cal = s.ret.cal
  clock : w.clock = s.clock
  reasons : w.reasons n = s.reasons n
  op : (w.deck n).op = (s.deck n).op
  outcome : (w.deck n).lastOutcome = (s.deck n).lastOutcome
  held : (w.deck n).heldLimit = none
  closed : (s.lane n).state = .closed → (w.lane n).state = .closed ∧ w.events = s.events

theorem handed (hgood : goodSample (s.cal n) cells e = true) (hsat : (s.deck n).saturated = false)
    (hexc : (s.deck n).excitation = false) : Handed s slot n (handedState s slot n cells e) := by
  have hreasons := sampledState_reasons_clean (slot := slot) hgood hsat hexc
  have hdeck : (sampledState s slot n cells e).deck n
      = { s.deck n with lastSample := some ⟨cells, e, s.now, true⟩, heldLimit := none } :=
    sampledState_deck.trans (sampledDeck_clean hgood hsat hexc)
  unfold handedState
  cases s.deckValid n with
  | true =>
    rw [if_pos rfl]
    have hkeeps := workSample_keeps (s := sampledState s slot n cells e) (n := n) (cells := cells) (e := e)
    refine ⟨hkeeps.acq rfl, hkeeps.cal rfl, hkeeps.clock rfl, workSample_reasons.trans hreasons, ?_, ?_, ?_,
      fun hclosed => ?_⟩
    · rw [workSample_deck, readDeck, hdeck]
    · rw [workSample_deck, readDeck, hdeck]
    · rw [workSample_deck, readDeck, hdeck]
    · rw [workSample_closed (s := sampledState s slot n cells e) hclosed]
      exact ⟨hclosed, rfl⟩
  | false =>
    rw [if_neg Bool.false_ne_true]
    exact ⟨rfl, rfl, rfl, hreasons, by rw [hdeck], by rw [hdeck], by rw [hdeck], fun hclosed => ⟨hclosed, rfl⟩⟩

theorem calSample_counts {op : CalOp} (h : Handed s slot n w) (hop : (s.deck n).op = some op)
    (hslots : (s.deck n).noSlots = false) (hsat : (s.deck n).saturated = false) (hexc : (s.deck n).excitation = false) :
    w.calSample n cells e = w.countSample n op cells e := by
  have honly : (w.reasons n).onlyUncalibrated = true := by
    rw [h.reasons]
    exact onlyUncalibrated_iff.mpr ⟨hslots, hsat, hexc⟩
  unfold State.calSample
  rw [h.op, hop]
  exact if_pos honly


/-! ### O22 -/

theorem unstableCells_iff (first cells : List Int) :
    unstableCells first cells = true ↔ ¬∀ p ∈ first.zip cells, (p.2 - p.1).natAbs ≤ 2000 := by
  unfold unstableCells Config.stability
  induction first generalizing cells with
  | nil => simp
  | cons a first ih =>
    cases cells with
    | nil => simp
    | cons b cells =>
      rw [List.zipWith_cons_cons, List.any_cons, Bool.or_eq_true, ih, List.zip_cons_cons, List.forall_mem_cons,
        not_and_or]
      simp

theorem addCells_eq (sums cells : List Int) :
    addCells sums cells = if sums = [] then cells else List.zipWith (· + ·) sums cells := by
  cases sums <;> rfl

theorem abortOp_cal (c : AbortCause) : (w.abortOp n c).cal n = w.cal n := by rw [abortOp_eq]; rfl

theorem abortOp_deck (c : AbortCause) : (w.abortOp n c).deck n = abortedDeck w.now c (w.deck n) := by
  rw [abortOp_eq]
  exact Quad.get_set_self ..

/-- The end of the capture that a sample was handed to. -/
theorem handed_aborts {op : CalOp} (h : Handed s slot n w) (hop : (s.deck n).op = some op) (c : AbortCause) :
    (w.abortOp n c).cal n = s.cal n ∧ ((w.abortOp n c).deck n).op = none
      ∧ ((w.abortOp n c).deck n).heldLimit = none
      ∧ ((w.abortOp n c).deck n).lastOutcome = some ⟨op.sub, .aborted c, s.now⟩
      ∧ ((s.lane n).state = .closed →
        s.posts (w.abortOp n c) [s.event .calAborted (some n) .none (.calAborted op.sub c)]) := by
  have hnow : w.now = s.now := congrArg Clock.siteTime h.clock
  have hop' : (w.deck n).op = some op := h.op.trans hop
  have hdeck : abortedDeck w.now c (w.deck n)
      = { w.deck n with op := none, lastOutcome := some ⟨op.sub, .aborted c, s.now⟩ } := by
    unfold abortedDeck
    rw [hop', hnow]
  refine ⟨(abortOp_cal c).trans (congrArg (Quad.get · n) h.cal), ?_, ?_, ?_, fun hclosed => ?_⟩
  · rw [abortOp_deck, hdeck]
  · rw [abortOp_deck, hdeck]
    exact h.held
  · rw [abortOp_deck, hdeck]
  · obtain ⟨-, hevents⟩ := h.closed hclosed
    have hposted : abortEvents w n c (w.deck n) = [s.event .calAborted (some n) .none (.calAborted op.sub c)] := by
      have hevent : State.event w = State.event s := by
        unfold State.event
        rw [hnow]
      rw [abortEvents, hop', hevent]
      rfl
    rw [abortOp_eq, hposted]
    exact congrArg (fun q => List.foldl EventQueue.add q _) hevents

/-- The count of a sample changes the capture in flight alone. -/
theorem counted_deck (f : Deck → Deck) (h : Handed s slot n w) : (w.modDeck n f).cal n = s.cal n
    ∧ (w.modDeck n f).deck n = f (w.deck n) := ⟨congrArg (Quad.get · n) h.cal, Quad.get_upd_self ..⟩

/-! ### A capture that completes -/

/-- The state as a capture succeeds: the new constants, the operation ended, the filter emptied. -/
def capturedState (w : State) (n : Lane) (sub : CalSub) (c : DeckCal) : State :=
  { w.storing { w.ret with cal := w.ret.cal.set n { c with counter := (w.cal n).counter + 1 } } with
    decks := w.decks.set n
      { w.deck n with
        op := none, lastOutcome := some ⟨sub, .done, w.now⟩, history := [], settling := clearedSettling }
    lanes := w.lanes.set n
      { w.lane n with
        capture := { (w.lane n).capture with
          moved := (w.lane n).capture.moved || decide ((w.deck n).settling.state = .locked
            ∧ clearedSettling.state ≠ .locked ∧ (w.lane n).state = .weighing) } } }

theorem captured_eq (sub : CalSub) (f : DeckCal → DeckCal) :
    ((w.endOp n).calSucceeds n sub f).emptyFilter n
      = w.posted [w.event .calDone (some n) .none (.calDone sub ((w.cal n).counter + 1))]
        (capturedState w n sub (f (w.cal n))) := by
  rw [calSucceeds_eq]
  unfold State.emptyFilter
  rw [setSettling_eq]
  simp only [State.endOp, State.modDeck, Quad.upd, State.deck, State.lane, State.posted, Quad.get_set_self, quad_set_set]
  rfl


/-- A set of reasons that UNCALIBRATED alone may be in. -/
def calReasons (uncalibrated : Bool) : ReasonSet := ⟨uncalibrated, false, false, false⟩

/-- What a calibration makes of a deck's reasons: nothing, or its last cause gone. -/
theorem afterReasons_calibrated {before after : Bool} (hafter : s.reasons n = calReasons after)
    (h : before = false → after = false) : s.afterReasons n (calReasons before) =
      if before && !after then s.posted [s.event .deckValid (some n) .none .none] (s.laneSettle n) else s := by
  cases before with
  | false =>
    rw [h rfl] at hafter
    rw [← hafter]
    exact afterReasons_self
  | true =>
    cases after with
    | false => exact afterReasons_rises rfl (by rw [State.deckValid, hafter]; rfl)
    | true =>
      rw [← hafter]
      exact afterReasons_self

theorem reasons_calibrated (hslots : (s.deck n).noSlots = false) (hsat : (s.deck n).saturated = false)
    (hexc : (s.deck n).excitation = false) : s.reasons n = calReasons (!((s.cal n).zeroDone && (s.cal n).spanDone)) := by
  rw [State.reasons, hslots, hsat, hexc]
  rfl

theorem laneSettle_closed (h : (s.lane n).state = .closed) : s.laneSettle n = s :=
  laneSettle_elsewhere (by rw [h]; nofun) (by rw [h]; nofun)

/-- What a capture's success leaves, the zero-limit marker and the reasons judged after it. -/
theorem captured_judged {sub : CalSub} {c : DeckCal} {f : Deck → Deck} (h : Handed s slot n w)
    (hslots : (s.deck n).noSlots = false) (hsat : (s.deck n).saturated = false) (hexc : (s.deck n).excitation = false)
    (hmonotone : ((s.cal n).zeroDone && (s.cal n).spanDone) = true → (c.zeroDone && c.spanDone) = true)
    (hf : ∀ d : Deck, (f d).noSlots = d.noSlots ∧ (f d).saturated = d.saturated ∧ (f d).excitation = d.excitation)
    {t : State} (ht : t = ((w.posted [w.event .calDone (some n) .none (.calDone sub ((w.cal n).counter + 1))]
      (capturedState w n sub c)).modDeck n f).afterReasons n (w.reasons n)) :
    t.acq = w.acq ∧ t.cal n = { c with counter := (w.cal n).counter + 1 }
      ∧ t.deck n = f { w.deck n with
        op := none, lastOutcome := some ⟨sub, .done, w.now⟩, history := [], settling := clearedSettling }
      ∧ t.deckValid n = (c.zeroDone && c.spanDone)
      ∧ ((s.lane n).state = .closed → s.posts t
        (s.event .calDone (some n) .none (.calDone sub ((w.cal n).counter + 1))
          :: if s.deckValid n = false ∧ (c.zeroDone && c.spanDone) = true then [s.event .deckValid (some n) .none .none]
            else [])) := by
  have hreasons := reasons_calibrated (s := s) hslots hsat hexc
  have hclean : w.reasons n = calReasons (!((s.cal n).zeroDone && (s.cal n).spanDone)) := h.reasons.trans hreasons
  obtain ⟨v, hv⟩ : ∃ v, v = (w.posted [w.event .calDone (some n) .none (.calDone sub ((w.cal n).counter + 1))]
    (capturedState w n sub c)).modDeck n f := ⟨_, rfl⟩
  have hcal : v.cal n = { c with counter := (w.cal n).counter + 1 } := by
    rw [hv]
    exact Quad.get_set_self ..
  have hdeck : v.deck n = f { w.deck n with
      op := none, lastOutcome := some ⟨sub, .done, w.now⟩, history := [], settling := clearedSettling } := by
    rw [hv]
    exact (Quad.get_upd_self ..).trans (congrArg f (Quad.get_set_self ..))
  have hafter : v.reasons n = calReasons (!(c.zeroDone && c.spanDone)) := by
    obtain ⟨hs, ha, he⟩ := hf { w.deck n with
      op := none, lastOutcome := some ⟨sub, .done, w.now⟩, history := [], settling := clearedSettling }
    have hfaults : (w.deck n).noSlots = false ∧ (w.deck n).saturated = false ∧ (w.deck n).excitation = false :=
      ⟨congrArg ReasonSet.noSlots hclean, congrArg ReasonSet.cellSaturated hclean, congrArg ReasonSet.excitation hclean⟩
    rw [reasons_calibrated, hcal]
    · rw [hdeck, hs]
      exact hfaults.1
    · rw [hdeck, ha]
      exact hfaults.2.1
    · rw [hdeck, he]
      exact hfaults.2.2
  have hevents : (s.lane n).state = .closed → (v.lane n).state = .closed
      ∧ v.events = s.eventsAfter [s.event .calDone (some n) .none (.calDone sub ((w.cal n).counter + 1))]
      ∧ v.now = s.now := fun hclosed => by
    obtain ⟨hlane, hsame⟩ := h.closed hclosed
    have hnow : w.now = s.now := congrArg Clock.siteTime h.clock
    have hevent : State.event w = State.event s := by
      unfold State.event
      rw [hnow]
    refine ⟨?_, ?_, ?_⟩
    · rw [hv]
      exact (congrArg LaneSeq.state (Quad.get_set_self ..)).trans hlane
    · rw [hv, ← hevent]
      exact congrArg (fun q => List.foldl EventQueue.add q _) hsame
    · rw [hv]
      exact hnow
  have hvalid : s.deckValid n = ((s.cal n).zeroDone && (s.cal n).spanDone) := by
    rw [State.deckValid, hreasons]
    simp [calReasons, ReasonSet.isEmpty]
  rw [hclean, ← hv, afterReasons_calibrated hafter (by simpa using hmonotone)] at ht
  have hacq : v.acq = w.acq := by rw [hv]; rfl
  have hkeeps := laneSettle_keeps (s := v) (n := n)
  subst ht
  split
  · next hrises =>
    obtain ⟨hbefore, hdone⟩ : ((s.cal n).zeroDone && (s.cal n).spanDone) = false ∧ (c.zeroDone && c.spanDone) = true := by
      rwa [Bool.and_eq_true, Bool.not_eq_true', Bool.not_not] at hrises
    refine ⟨(hkeeps.acq rfl).trans hacq, (congrArg (Quad.get · n) (hkeeps.cal rfl)).trans hcal,
      (congrArg (Quad.get · n) (hkeeps.decks rfl)).trans hdeck, ?_, fun hclosed => ?_⟩
    · rw [State.deckValid, State.reasons]
      have hsettled := laneSettle_reasons (s := v) (n := n)
      refine (congrArg ReasonSet.isEmpty (hsettled.trans hafter)).trans ?_
      rw [hdone]
      rfl
    · obtain ⟨hlane, hposts, hnow⟩ := hevents hclosed
      have hevent : State.event v = State.event s := by
        unfold State.event
        rw [hnow]
      rw [if_pos ⟨hvalid.trans hbefore, hdone⟩, laneSettle_closed hlane, hevent]
      exact posts_trans hposts rfl
  · next hstays =>
    refine ⟨hacq, hcal, hdeck, ?_, fun hclosed => ?_⟩
    · rw [State.deckValid, hafter]
      simp [calReasons, ReasonSet.isEmpty]
    · obtain ⟨hlane, hposts, hnow⟩ := hevents hclosed
      refine hposts.trans (congrArg (fun es => s.eventsAfter (_ :: es)) (if_neg fun hrises => hstays ?_).symm)
      rw [← hvalid, hrises.1, hrises.2]
      rfl


/-! ### What a sample that is handed over does to a capture -/

theorem countSample_zero (w : State) (n : Lane) (taken : Nat) (first : Option (List Int)) (sums : List Int) (refSum : Int)
    (cells : List Int) (e : Int) : w.countSample n (.zero taken first sums refSum) cells e =
    if unstableCells (first.getD cells) cells then w.abortOp n .unstable
    else if taken + 1 = 64 then w.zeroSucceeds n (addCells sums cells) (refSum + e)
    else w.modDeck n fun d =>
      { d with op := some (.zero (taken + 1) (some (first.getD cells)) (addCells sums cells) (refSum + e)) } := rfl

theorem countSample_span (w : State) (n : Lane) (load taken : Nat) (first : Option Int) (sum : Int) (cells : List Int)
    (e : Int) : w.countSample n (.span load taken first sum) cells e =
    if 2000 < (correctedSum (w.cal n) cells e - first.getD (correctedSum (w.cal n) cells e)).natAbs then
      w.abortOp n .unstable
    else if taken + 1 = 64 then w.spanEnds n load (sum + correctedSum (w.cal n) cells e)
    else w.modDeck n fun d =>
      { d with
        op := some (.span load (taken + 1) (some (first.getD (correctedSum (w.cal n) cells e)))
          (sum + correctedSum (w.cal n) cells e)) } := rfl

/-- A zero capture that completes. -/
theorem zeroSucceeds_judged {sums : List Int} {refSum : Int} (h : Handed s slot n w)
    (hslots : (s.deck n).noSlots = false) (hsat : (s.deck n).saturated = false) (hexc : (s.deck n).excitation = false)
    {t : State} (ht : t = w.zeroSucceeds n sums refSum) :
    t.acq = w.acq ∧ t.cal n = { zeroConstants sums refSum (w.cal n) with counter := (w.cal n).counter + 1 }
      ∧ t.deck n = { w.deck n with
        op := none, lastOutcome := some ⟨.zeroCapture, .done, w.now⟩, history := [], settling := clearedSettling
        zeroMarker := false }
      ∧ t.deckValid n = (s.cal n).spanDone
      ∧ ((s.lane n).state = .closed → s.posts t
        (s.event .calDone (some n) .none (.calDone .zeroCapture ((w.cal n).counter + 1))
          :: if s.deckValid n = false ∧ (s.cal n).spanDone = true then [s.event .deckValid (some n) .none .none]
            else [])) := by
  have hspan : ((zeroConstants sums refSum (w.cal n)).zeroDone && (zeroConstants sums refSum (w.cal n)).spanDone)
      = (s.cal n).spanDone := by
    rw [show w.cal n = s.cal n from congrArg (Quad.get · n) h.cal]
    exact Bool.true_and _
  have hjudged := captured_judged (sub := .zeroCapture) (c := zeroConstants sums refSum (w.cal n))
    (f := fun d => { d with zeroMarker := false }) h hslots hsat hexc
    (fun hdone => hspan.trans ((Bool.and_eq_true _ _).mp hdone).2) (fun _ => ⟨rfl, rfl, rfl⟩) (t := t)
    (by rw [ht, ← captured_eq]; rfl)
  rwa [hspan] at hjudged

theorem modDeck_id : s.modDeck n (fun d => d) = s := setDeck_self rfl

/-- A span capture whose average and coefficient are in range. -/
theorem spanEnds_judged {load : Nat} {sum : Int} (h : Handed s slot n w)
    (hslots : (s.deck n).noSlots = false) (hsat : (s.deck n).saturated = false) (hexc : (s.deck n).excitation = false)
    (haverage : ¬roundDiv sum 64 < 10000)
    (hk : ¬(spanCoefficient load (roundDiv sum 64) < 1 ∨ 16777215 < spanCoefficient load (roundDiv sum 64)))
    {t : State} (ht : t = w.spanEnds n load sum) :
    t.acq = w.acq ∧ t.cal n = { w.cal n with
        k := (spanCoefficient load (roundDiv sum 64)).toNat, spanDone := true, counter := (w.cal n).counter + 1 }
      ∧ t.deck n = { w.deck n with
        op := none, lastOutcome := some ⟨.spanCapture, .done, w.now⟩, history := [], settling := clearedSettling }
      ∧ t.deckValid n = (s.cal n).zeroDone
      ∧ ((s.lane n).state = .closed → s.posts t
        (s.event .calDone (some n) .none (.calDone .spanCapture ((w.cal n).counter + 1))
          :: if s.deckValid n = false ∧ (s.cal n).zeroDone = true then [s.event .deckValid (some n) .none .none]
            else [])) := by
  obtain ⟨c, hc⟩ : ∃ c : DeckCal, c = { w.cal n with
    k := (spanCoefficient load (roundDiv sum 64)).toNat, spanDone := true } := ⟨_, rfl⟩
  have hzero : (c.zeroDone && c.spanDone) = (s.cal n).zeroDone := by
    rw [hc, show w.cal n = s.cal n from congrArg (Quad.get · n) h.cal]
    exact Bool.and_true _
  have hends : w.spanEnds n load sum = ((w.posted [w.event .calDone (some n) .none
      (.calDone .spanCapture ((w.cal n).counter + 1))] (capturedState w n .spanCapture c)).modDeck n fun d => d).afterReasons
        n (w.reasons n) := by
    refine (if_neg haverage).trans ((if_neg hk).trans ?_)
    rw [modDeck_id, hc, ← captured_eq .spanCapture fun x : DeckCal =>
      { x with k := (spanCoefficient load (roundDiv sum 64)).toNat, spanDone := true }]
    rfl
  have hjudged := captured_judged (sub := .spanCapture) (c := c) (f := fun d => d) h hslots hsat hexc
    (fun hdone => hzero.trans ((Bool.and_eq_true _ _).mp hdone).1) (fun _ => ⟨rfl, rfl, rfl⟩) (t := t) (ht.trans hends)
  rw [hzero, hc] at hjudged
  exact hjudged


/-- A sample handed over leaves no held zero limit. -/
theorem countSample_held {op : CalOp} (h : Handed s slot n w) (hop : (s.deck n).op = some op)
    (hslots : (s.deck n).noSlots = false) (hsat : (s.deck n).saturated = false) (hexc : (s.deck n).excitation = false) :
    ((w.countSample n op cells e).deck n).heldLimit = none := by
  have habort (c : AbortCause) : ((w.abortOp n c).deck n).heldLimit = none := by
    obtain ⟨-, -, hnone, -⟩ := handed_aborts h hop c
    exact hnone
  have hcount (f : Deck → Deck) (hf : ∀ d, (f d).heldLimit = d.heldLimit) :
      ((w.modDeck n f).deck n).heldLimit = none := by
    rw [(counted_deck f h).2, hf]
    exact h.held
  cases op with
  | zero taken first sums refSum =>
    rw [countSample_zero]
    split
    · exact habort _
    · split
      · obtain ⟨-, -, hdeck, -⟩ := zeroSucceeds_judged h hslots hsat hexc (t := w.zeroSucceeds n _ _) rfl
        rw [hdeck]
        exact h.held
      · exact hcount _ fun _ => rfl
  | span load taken first sum =>
    rw [countSample_span]
    split
    · exact habort _
    · split
      · by_cases haverage : roundDiv (sum + correctedSum (w.cal n) cells e) 64 < 10000
        · rw [show w.spanEnds n load (sum + correctedSum (w.cal n) cells e) = w.abortOp n .spanTooSmall from
            if_pos haverage]
          exact habort _
        · by_cases hk : spanCoefficient load (roundDiv (sum + correctedSum (w.cal n) cells e) 64) < 1
              ∨ 16777215 < spanCoefficient load (roundDiv (sum + correctedSum (w.cal n) cells e) 64)
          · rw [show w.spanEnds n load (sum + correctedSum (w.cal n) cells e) = w.abortOp n .badArgument from
              (if_neg haverage).trans (if_pos hk)]
            exact habort _
          · obtain ⟨-, -, hdeck, -⟩ := spanEnds_judged h hslots hsat hexc haverage hk (t := w.spanEnds n load _) rfl
            rw [hdeck]
            exact h.held
      · exact hcount _ fun _ => rfl

/-! ### O22 -/

/-- Settles O22. -/
theorem captureCountsTheSample : Obligations.CaptureCountsTheSample := by
  intro s slot cells e n op hheld hslot hcells hgood hop hslots hsat hexc unstable
  have hh := handed (slot := slot) hgood hsat hexc
  have hexec : exec (.deckSample slot cells e) s
      = .next ((handedState s slot n cells e).countSample n op cells e) := by
    rw [← calSample_counts hh hop hslots hsat hexc]
    exact congrArg Host.Outcome.next ((whileRunning_of_running hheld _).trans
      (slotEnds_clean hslot hcells hgood hsat hexc))
  have hheldT := countSample_held (cells := cells) (e := e) hh hop hslots hsat hexc
  obtain ⟨hcal, hnone, -, houtcome, hposts⟩ := handed_aborts hh hop .unstable
  generalize handedState s slot n cells e = w at *
  refine ⟨_, hexec, hheldT, ?_⟩
  cases op with
  | zero taken first sums refSum =>
    rw [countSample_zero]
    dsimp only
    split
    · next hstable =>
      intro htaken
      rw [if_neg (fun hu => (unstableCells_iff ..).mp hu hstable), if_neg (by omega)]
      obtain ⟨hsame, hdeck⟩ := counted_deck _ hh
      refine ⟨hsame, (congrArg Deck.op hdeck).trans ?_⟩
      rw [addCells_eq]
    · next hunstable =>
      rw [if_pos ((unstableCells_iff ..).mpr hunstable)]
      exact ⟨hcal, hnone, houtcome, hposts⟩
  | span load taken first sum =>
    have hcalW : w.cal n = s.cal n := congrArg (Quad.get · n) hh.cal
    rw [countSample_span, hcalW]
    dsimp only
    split
    · next hstable =>
      intro htaken
      rw [if_neg (Nat.not_lt.mpr hstable), if_neg (by omega)]
      obtain ⟨hsame, hdeck⟩ := counted_deck _ hh
      exact ⟨hsame, congrArg Deck.op hdeck⟩
    · next hunstable =>
      rw [if_pos (Nat.not_le.mp hunstable)]
      exact ⟨hcal, hnone, houtcome, hposts⟩


/-! ### O23 -/

theorem zeros_overwritten {k : Nat} (v : Vector Int k) {sums cells : List Int} (hlen : sums.length = cells.length) :
    overwrite v ((addCells sums cells).map fun t => roundDiv t 64) = Vector.ofFn fun i =>
      match sums[i.val]?, cells[i.val]? with
      | some a, some b => roundDiv (a + b) 64
      | _, _ => v.get i := by
  have hadd : addCells sums cells = List.zipWith (· + ·) sums cells := by
    rw [addCells_eq]
    split
    · next hnil =>
      rw [hnil] at hlen
      rw [hnil, List.eq_nil_of_length_eq_zero hlen.symm]
      rfl
    · rfl
  unfold overwrite
  congr 1
  funext i
  rw [hadd, List.getElem?_map, List.getElem?_zipWith]
  cases sums[i.val]? <;> cases cells[i.val]? <;> rfl

/-- The decks and operations in flight of which a completing row is taken. -/
theorem slotOp_eq {op : CalOp} (hslot : s.acq.active.get slot = some n)
    (hcells : cells.length = (s.deckSettings n).cells) (hop : (s.deck n).op = some op) :
    s.slotOp slot cells = some (n, op) := by
  unfold State.slotOp
  rw [hslot]
  dsimp only
  rw [if_pos hcells, hop]
  rfl

theorem wouldCount_clean (hgood : goodSample (s.cal n) cells e = true) (hslots : (s.deck n).noSlots = false)
    (hsat : (s.deck n).saturated = false) (hexc : (s.deck n).excitation = false) : s.wouldCount n cells e = true := by
  have hjudged : judgedDeck false false (s.deck n) = s.deck n := by
    unfold judgedDeck
    rw [hsat, hexc]
    rfl
  unfold State.wouldCount
  rw [hjudged, hgood, hslots, hsat, hexc]
  rfl

theorem completesZero_of {first : Option (List Int)} {sums : List Int} {refSum : Int}
    (hslot : s.acq.active.get slot = some n) (hcells : cells.length = (s.deckSettings n).cells)
    (hop : (s.deck n).op = some (.zero 63 first sums refSum)) (hcount : s.wouldCount n cells e = true)
    (hstable : unstableCells (first.getD cells) cells = false) : s.completesZero slot cells e = true := by
  unfold State.completesZero
  rw [slotOp_eq hslot hcells hop]
  dsimp only
  rw [hcount, hstable]
  rfl

theorem completesSpan_of {load : Nat} {first : Option Int} {sum : Int}
    (hslot : s.acq.active.get slot = some n) (hcells : cells.length = (s.deckSettings n).cells)
    (hop : (s.deck n).op = some (.span load 63 first sum)) (hcount : s.wouldCount n cells e = true)
    (hstable : (correctedSum (s.cal n) cells e - first.getD (correctedSum (s.cal n) cells e)).natAbs ≤ 2000) :
    s.completesSpan slot cells e = true := by
  unfold State.completesSpan
  rw [slotOp_eq hslot hcells hop]
  dsimp only
  rw [hcount, show decide (_ ≤ Config.stability) = true from decide_eq_true hstable]
  rfl

/-- Settles O23. -/
theorem capturesComplete : Obligations.CapturesComplete := by
  refine ⟨fun s slot cells e n first sums refSum hheld hslot hcells hgood hop hslots hsat hexc hlen hstable => ?_,
    fun s slot cells e n load first sum hheld hslot hcells hgood hop hslots hsat hexc => ?_⟩
  · have hh := handed (slot := slot) hgood hsat hexc
    have hunstable : unstableCells (first.getD cells) cells = false :=
      Bool.eq_false_iff.mpr fun hu => (unstableCells_iff ..).mp hu hstable
    have hends : s.slotEnds slot cells e
        = (handedState s slot n cells e).zeroSucceeds n (addCells sums cells) (refSum + e) := by
      rw [slotEnds_clean hslot hcells hgood hsat hexc, calSample_counts hh hop hslots hsat hexc, countSample_zero,
        if_neg (Bool.eq_false_iff.mp hunstable), if_pos rfl]
    have hrow : exec (.zeroCaptureComplete slot cells e) s = .next (s.slotEnds slot cells e) :=
      congrArg Host.Outcome.next ((whileRunning_of_running hheld _).trans
        (if_pos (completesZero_of hslot hcells hop (wouldCount_clean hgood hslots hsat hexc) hunstable)))
    have hsample : exec (.deckSample slot cells e) s = .next (s.slotEnds slot cells e) :=
      congrArg Host.Outcome.next (whileRunning_of_running hheld _)
    obtain ⟨hacq, hcal, hdeck, hvalid, hposts⟩ := zeroSucceeds_judged hh hslots hsat hexc hends
    have hcalW : (handedState s slot n cells e).cal n = s.cal n := congrArg (Quad.get · n) hh.cal
    have hnow : (handedState s slot n cells e).now = s.now := congrArg Clock.siteTime hh.clock
    rw [hcalW] at hcal hposts
    rw [hnow] at hdeck
    refine ⟨_, hrow, hsample, hacq.trans hh.acq, hcal.trans ?_, by rw [hdeck], by rw [hdeck], by rw [hdeck],
      by rw [hdeck], by rw [hdeck], (congrArg Deck.heldLimit hdeck).trans hh.held, hvalid, hposts⟩
    exact congrArg (fun z => { s.cal n with
      zeros := z
      eCal := (roundDiv (refSum + e) 64).toNat
      z := 0
      zeroDone := true
      counter := (s.cal n).counter + 1 }) (zeros_overwritten (s.cal n).zeros hlen)
  · intro sr average k aborted hstable
    have hh := handed (slot := slot) hgood hsat hexc
    have hcalW : (handedState s slot n cells e).cal n = s.cal n := congrArg (Quad.get · n) hh.cal
    have hnow : (handedState s slot n cells e).now = s.now := congrArg Clock.siteTime hh.clock
    have hends : s.slotEnds slot cells e = (handedState s slot n cells e).spanEnds n load (sum + sr) := by
      rw [slotEnds_clean hslot hcells hgood hsat hexc, calSample_counts hh hop hslots hsat hexc, countSample_span, hcalW,
        if_neg (Nat.not_lt.mpr hstable), if_pos rfl]
    have hrow : exec (.spanCaptureComplete slot cells e) s = .next (s.slotEnds slot cells e) :=
      congrArg Host.Outcome.next ((whileRunning_of_running hheld _).trans
        (if_pos (completesSpan_of hslot hcells hop (wouldCount_clean hgood hslots hsat hexc) hstable)))
    have hsample : exec (.deckSample slot cells e) s = .next (s.slotEnds slot cells e) :=
      congrArg Host.Outcome.next (whileRunning_of_running hheld _)
    have haborts (c : AbortCause) (hc : s.slotEnds slot cells e = (handedState s slot n cells e).abortOp n c) :
        (s.slotEnds slot cells e).acq = { s.acq with position := (slot.val + 1) % 16 }
          ∧ ((s.slotEnds slot cells e).deck n).op = none ∧ ((s.slotEnds slot cells e).deck n).heldLimit = none
          ∧ aborted c (s.slotEnds slot cells e) := by
      obtain ⟨hcal, hnone, hheldT, houtcome, hposts⟩ := handed_aborts hh hop c
      rw [← hc] at hcal hnone hheldT houtcome hposts
      refine ⟨?_, hnone, hheldT, hcal, houtcome, hposts⟩
      rw [hc, abortOp_eq]
      exact hh.acq
    by_cases haverage : average < 10000
    · obtain ⟨hacq, hnone, hheldT, haborted⟩ := haborts .spanTooSmall (hends.trans (if_pos haverage))
      refine ⟨_, hrow, hsample, hacq, hnone, hheldT, ?_⟩
      rw [if_pos haverage]
      exact haborted
    · have hcoefficient : spanCoefficient load average = k := by
        unfold spanCoefficient
        exact congrArg (roundDiv · average.toNat) (by push_cast; rfl)
      by_cases hk : k < 1 ∨ 16777215 < k
      · obtain ⟨hacq, hnone, hheldT, haborted⟩ := haborts .badArgument
          (hends.trans ((if_neg haverage).trans (if_pos (hcoefficient ▸ hk))))
        refine ⟨_, hrow, hsample, hacq, hnone, hheldT, ?_⟩
        rw [if_neg haverage, if_pos hk]
        exact haborted
      · obtain ⟨hacq, hcal, hdeck, hvalid, hposts⟩ :=
          spanEnds_judged hh hslots hsat hexc haverage (hcoefficient ▸ hk) hends
        rw [hcalW] at hcal hposts
        rw [hnow] at hdeck
        refine ⟨_, hrow, hsample, hacq.trans hh.acq, by rw [hdeck], (congrArg Deck.heldLimit hdeck).trans hh.held, ?_⟩
        rw [if_neg haverage, if_neg hk]
        rw [show spanCoefficient load (roundDiv (sum + sr) 64) = k from hcoefficient] at hcal
        exact ⟨hcal, by rw [hdeck], by rw [hdeck], by rw [hdeck], hvalid, hposts⟩

end Sys2Proof.Proofs
end

section
/-! O21: a change of occupancy, as it reaches the lane (R44, R45, R104 to R113). -/

namespace Sys2Proof.Proofs
open Sys2Proof Sys2Proof.Machine

variable {s t u w : State} {n : Lane} {slot : Fin 16} {cells : List Int} {e : Int}

/-! ### The state with a sample read, its occupancy shown -/

/-- The state with the reading made, judged and its occupancy shown, before the lane sequencer sees it. -/
def workedState (s : State) (n : Lane) (cells : List Int) (e : Int) : State :=
  { s with
    decks := s.decks.set n { readDeck s n cells e with occupancy := sampleOccupancy s n cells e }
    lanes := s.lanes.set n (movedLane s n cells e) }

theorem workSample_changes : s.workSample n cells e =
    (if (s.deck n).occupancy = sampleOccupancy s n cells e then workedState s n cells e
    else (workedState s n cells e).occupancyChanged n).examineCapture n := by
  have hoccupancy : ((readingState s n cells e).deck n).occupancy = (s.deck n).occupancy := by
    simp only [readingState, State.deck, Quad.get_set_self, readDeck]
  rw [workSample_eq]
  congr 1
  unfold State.setOccupancy
  rw [hoccupancy]
  split
  · next hsame =>
    have hread : readDeck s n cells e = { readDeck s n cells e with occupancy := sampleOccupancy s n cells e } := by
      rw [← hsame]
      rfl
    rw [readingState, hread]
    rfl
  · congr 1
    simp only [readingState, workedState, State.modDeck, Quad.upd, Quad.get_set_self, quad_set_set]

theorem workedState_lane : (workedState s n cells e).lane n = movedLane s n cells e := Quad.get_set_self ..

theorem workedState_deck : (workedState s n cells e).deck n
    = { readDeck s n cells e with occupancy := sampleOccupancy s n cells e } := Quad.get_set_self ..

theorem workedState_cause : (workedState s n cells e).suspendCause n = s.suspendCause n :=
  suspendCause_deck (s := s) (d := { readDeck s n cells e with occupancy := sampleOccupancy s n cells e })
    ⟨rfl, rfl, rfl⟩

/-- An operation on the lane sequencer's side that leaves another state than WEIGHING leaves no capture to examine. -/
theorem enterIdle_state_ne : ((s.enterIdle n).lane n).state ≠ .weighing := by
  rw [enterIdle_lane]
  unfold State.idled
  dsimp only
  split_ifs <;> nofun

/-- The lane after an entry into IDLE with an empty deck. -/
theorem enterIdle_empty (hempty : (s.deck n).occupancy = .empty) :
    ((s.enterIdle n).lane n).state = (if (s.lane n).closePending ∨ s.ret.settings.siteMode = .closed then .closed
        else if s.suspendCause n then .suspended else .idle)
      ∧ ((s.enterIdle n).lane n).identity = none ∧ ((s.enterIdle n).lane n).visit = none
      ∧ ((s.enterIdle n).lane n).heldWeighing = none ∧ ((s.enterIdle n).lane n).postponed = false
      ∧ ((s.enterIdle n).lane n).capture = (s.lane n).capture := by
  rw [enterIdle_lane, hempty]
  refine ⟨?_, rfl, rfl, rfl, rfl, rfl⟩
  unfold State.idled
  simp

/-! ### A good sample on a VALID deck without a capture in flight -/

theorem valid_faults (hvalid : s.deckValid n = true) :
    (s.deck n).saturated = false ∧ (s.deck n).excitation = false ∧ (s.deck n).noSlots = false := by
  simp only [State.deckValid, ReasonSet.isEmpty, State.reasons, Bool.and_eq_true, Bool.not_eq_true'] at hvalid
  obtain ⟨⟨⟨-, hslots⟩, hsat⟩, hexc⟩ := hvalid
  exact ⟨hsat, hexc, hslots⟩

theorem calSample_none (h : (s.deck n).op = none) : s.calSample n cells e = s := by
  unfold State.calSample
  rw [h]

/-- What a good sample does on such a deck: it is read. -/
theorem exec_reads (hheld : s.power.held = none) (hslot : s.acq.active.get slot = some n)
    (hcells : cells.length = (s.deckSettings n).cells) (hgood : goodSample (s.cal n) cells e = true)
    (hop : (s.deck n).op = none) (hvalid : s.deckValid n = true) :
    exec (.deckSample slot cells e) s = .next ((sampledState s slot n cells e).workSample n cells e) := by
  obtain ⟨hsat, hexc, -⟩ := valid_faults hvalid
  have hh := handed (slot := slot) hgood hsat hexc
  refine congrArg Host.Outcome.next ((whileRunning_of_running hheld _).trans
    ((slotEnds_clean hslot hcells hgood hsat hexc).trans ((calSample_none (hh.op.trans hop)).trans ?_)))
  exact if_pos hvalid

/-- What the sampling leaves to be read. -/
theorem sampledState_reads (hgood : goodSample (s.cal n) cells e = true) (hvalid : s.deckValid n = true) :
    (sampledState s slot n cells e).deck n = { s.deck n with lastSample := some ⟨cells, e, s.now, true⟩, heldLimit := none }
      ∧ sampleReading (sampledState s slot n cells e) n cells e = sampleReading s n cells e
      ∧ (sampledState s slot n cells e).suspendCause n = s.suspendCause n := by
  obtain ⟨hsat, hexc, -⟩ := valid_faults hvalid
  have hdeck := (sampledState_deck (slot := slot)).trans (sampledDeck_clean hgood hsat hexc)
  refine ⟨hdeck, ?_, suspendCause_congr (sampledState_reasons_clean hgood hsat hexc) rfl rfl⟩
  rw [sampleReading, hdeck]
  rfl


/-! ### O21 -/

theorem examineCapture_not (h : ∀ r, s.captureReady n r = false) : s.examineCapture n = s := by
  unfold State.examineCapture
  split
  · rfl
  · exact if_neg (Bool.eq_false_iff.mp (h _))

/-- A lane that holds a weighing takes no further part. -/
theorem examineCapture_held {x : Weighing} (h : (s.lane n).heldWeighing = some x) : s.examineCapture n = s :=
  examineCapture_not fun r => by simp [State.captureReady, h]

theorem workSample_changed (hne : (s.deck n).occupancy ≠ sampleOccupancy s n cells e) : s.workSample n cells e =
    ((workedState s n cells e).occupancyChanged n).examineCapture n := by
  rw [workSample_changes, if_neg hne]

theorem occupancyChanged_enters (hst : (s.lane n).state = .occupied ∨ (s.lane n).state = .refused)
    (hempty : (s.deck n).occupancy = .empty) : s.occupancyChanged n = s.enterIdle n := by
  unfold State.occupancyChanged
  rcases hst with hst | hst <;> rw [hst, hempty]

theorem occupancyChanged_weighing (hst : (s.lane n).state = .weighing) (hempty : (s.deck n).occupancy = .empty) :
    s.occupancyChanged n = s.weighingEmptied n := by
  unfold State.occupancyChanged
  rw [hst, hempty]

/-- A weighing given up as its deck becomes empty, its parts counted. -/
def emptiedState (s : State) (n : Lane) : State :=
  { s with lanes := s.lanes.set n { s.lane n with capture := emptyCapture } }

theorem emptied_posts (k : Nat) : ((s.modLane n fun l => { l with capture := emptyCapture }).post .weighingDiscarded (some n)
    .none (.parts k)).enterIdle n
      = s.posted [s.event .weighingDiscarded (some n) .none (.parts k)] ((emptiedState s n).enterIdle n) := by
  have hposted : (s.modLane n fun l => { l with capture := emptyCapture }).post .weighingDiscarded (some n) .none (.parts k)
      = s.posted [s.event .weighingDiscarded (some n) .none (.parts k)] (emptiedState s n) := rfl
  rw [hposted, posted_enterIdle]

theorem weighingEmptied_gone {k : Nat} (h : ((s.lane n).heldWeighing = none ∧ k = (s.lane n).capture.parts.length)
      ∨ ∃ x, (s.lane n).heldWeighing = some x ∧ (s.lane n).postponed = true ∧ k = x.parts.length) :
    s.weighingEmptied n
      = s.posted [s.event .weighingDiscarded (some n) .none (.parts k)] ((emptiedState s n).enterIdle n) := by
  unfold State.weighingEmptied
  dsimp only
  rcases h with ⟨hnone, rfl⟩ | ⟨x, hsome, hpostponed, rfl⟩
  · rw [hnone]
    exact emptied_posts _
  · rw [hsome, hpostponed]
    exact emptied_posts _

theorem weighingEmptied_stands {x : Weighing} (h : (s.lane n).heldWeighing = some x)
    (hpostponed : (s.lane n).postponed = false) : s.weighingEmptied n = s := by
  unfold State.weighingEmptied
  dsimp only
  rw [h, hpostponed]

/-- A lane that goes back to IDLE with its weighing given up. -/
theorem emptied_lane (hempty : (s.deck n).occupancy = .empty) :
    (((emptiedState s n).enterIdle n).lane n).state = (if (s.lane n).closePending ∨ s.ret.settings.siteMode = .closed then
        .closed else if s.suspendCause n then .suspended else .idle)
      ∧ (((emptiedState s n).enterIdle n).lane n).identity = none
      ∧ (((emptiedState s n).enterIdle n).lane n).visit = none
      ∧ (((emptiedState s n).enterIdle n).lane n).heldWeighing = none
      ∧ (((emptiedState s n).enterIdle n).lane n).postponed = false
      ∧ (((emptiedState s n).enterIdle n).lane n).capture = emptyCapture := by
  have hlane : (emptiedState s n).lane n = { s.lane n with capture := emptyCapture } := Quad.get_set_self ..
  have hentered := enterIdle_empty (s := emptiedState s n) hempty
  rw [hlane] at hentered
  exact hentered

/-- Settles O21. -/
theorem occupancyReachesTheLane : Obligations.OccupancyReachesTheLane := by
  intro s slot cells e n hheld hslot hcells hgood hop hvalid l w r level back
  have hexec := exec_reads hheld hslot hcells hgood hop hvalid
  obtain ⟨hdeck, hreading, hcause⟩ := sampledState_reads (slot := slot) hgood hvalid
  refine ⟨_, hexec, ?_⟩
  obtain ⟨u, hu⟩ : ∃ u, u = sampledState s slot n cells e := ⟨_, rfl⟩
  have hlane : u.lane n = s.lane n := by rw [hu]; rfl
  have hoccupancy : (u.deck n).occupancy = (s.deck n).occupancy := by rw [hu, hdeck]
  have hevents : u.events = s.events ∧ u.clock = s.clock ∧ u.ret = s.ret := by rw [hu]; exact ⟨rfl, rfl, rfl⟩
  have hloaded : level ≤ r.f → sampleOccupancy u n cells e = .occupied := fun h => by
    rw [sampleOccupancy, hu, hreading]
    exact if_pos h
  have hunloaded : r.f < level → sampleOccupancy u n cells e = .empty := fun h => by
    rw [sampleOccupancy, hu, hreading]
    exact if_neg (Int.not_le.mpr h)
  have hbacks : (u.lane n).closePending = l.closePending ∧ u.ret.settings.siteMode = s.ret.settings.siteMode := by
    rw [hlane, hu]
    exact ⟨rfl, rfl⟩
  rw [← hu] at hcause ⊢
  obtain ⟨W, hW⟩ : ∃ W, W = workedState u n cells e := ⟨_, rfl⟩
  have hWcause : W.suspendCause n = s.suspendCause n := by rw [hW, workedState_cause, hcause]
  have hWdeck : (W.deck n).occupancy = sampleOccupancy u n cells e := by rw [hW, workedState_deck]
  have hWevents : W.events = s.events ∧ W.now = s.now ∧ W.ret = s.ret := by rw [hW, hu]; exact ⟨rfl, rfl, rfl⟩
  have hWlane : W.lane n = { l with capture := { l.capture with moved := (W.lane n).capture.moved } } := by
    rw [hW, workedState_lane, movedLane, hlane]
  have hchanged (ho : (s.deck n).occupancy ≠ sampleOccupancy u n cells e) :
      u.workSample n cells e = (W.occupancyChanged n).examineCapture n := by
    rw [hW]
    exact workSample_changed (hoccupancy ▸ ho)
  have hWstate : (W.lane n).state = l.state := by rw [hWlane]
  have hentered : W.posts (W.enterIdle n) [] := enterIdle_events
  have hposts {es : List Event} {v : State} (hv : W.posts v es) : s.posts v es := by
    rw [State.posts, State.eventsAfter, ← hWevents.1]
    exact hv
  have hgonePosts (k : Nat) (v : State) : s.posts (W.posted [W.event .weighingDiscarded (some n) .none (.parts k)] v)
      [s.event .weighingDiscarded (some n) .none (.parts k)] := by
    have hevent : State.event W = State.event s := by
      unfold State.event
      rw [hWevents.2.1]
    rw [← hevent]
    exact hposts rfl
  refine ⟨fun hidle hno hover hne => ?_, fun hst hunder hne => ?_, fun hst hunder hne hnone => ?_,
    fun x hst hunder hne hsome => ?_⟩
  · have hmoved : W.lane n = l := by
      rw [hW, workedState_lane, movedLane_elsewhere (by rw [hlane, hidle]; nofun), hlane]
    have hsettled : W.laneSettle n = { W with lanes := W.lanes.set n { l with state := .occupied } } := by
      rw [laneSettle_eq, hmoved, hidle, hWcause, hno, hWdeck, hloaded hover]
      rfl
    have hlaneT : (W.laneSettle n).lane n = { l with state := .occupied } := by
      rw [hsettled]
      exact Quad.get_set_self ..
    rw [hchanged (by rw [hloaded hover]; exact hne), occupancyChanged_idle (by rw [hWstate, hidle]), examineCapture_elsewhere]
    · refine ⟨hlaneT, hposts ?_⟩
      rw [hsettled]
      rfl
    · rw [hlaneT]
      nofun
  · have hempty : (W.deck n).occupancy = .empty := hWdeck.trans (hunloaded hunder)
    rw [hchanged (by rw [hunloaded hunder]; exact hne), occupancyChanged_enters (by rw [hWstate]; exact hst) hempty,
      examineCapture_elsewhere enterIdle_state_ne]
    obtain ⟨hstate, hidentity, hvisit, -⟩ := enterIdle_empty hempty
    rw [hWlane, hWcause, hWevents.2.2] at hstate
    exact ⟨hstate, hidentity, hvisit, hposts hentered⟩
  · have hempty : (W.deck n).occupancy = .empty := hWdeck.trans (hunloaded hunder)
    have hgone := weighingEmptied_gone (s := W) (n := n) (k := l.capture.parts.length)
      (.inl ⟨by rw [hWlane]; exact hnone, by rw [hWlane]⟩)
    obtain ⟨hstate, hidentity, hvisit, -, -, hcapture⟩ := emptied_lane hempty
    rw [hchanged (by rw [hunloaded hunder]; exact hne), occupancyChanged_weighing (hWstate.trans hst) hempty, hgone,
      examineCapture_elsewhere]
    · rw [hWlane, hWcause, hWevents.2.2] at hstate
      exact ⟨hstate, hidentity, hvisit, hcapture, hgonePosts _ _⟩
    · exact enterIdle_state_ne (s := emptiedState W n)
  · have hempty : (W.deck n).occupancy = .empty := hWdeck.trans (hunloaded hunder)
    have hsomeW : (W.lane n).heldWeighing = some x := by rw [hWlane]; exact hsome
    have hpostponedW : (W.lane n).postponed = l.postponed := by rw [hWlane]
    rw [hchanged (by rw [hunloaded hunder]; exact hne), occupancyChanged_weighing (hWstate.trans hst) hempty]
    cases hpostponed : l.postponed with
    | true =>
      have hgone := weighingEmptied_gone (s := W) (n := n) (k := x.parts.length)
        (.inr ⟨x, hsomeW, hpostponedW.trans hpostponed, rfl⟩)
      obtain ⟨hstate, hidentity, hvisit, hheldW, hpostponedT, hcapture⟩ := emptied_lane hempty
      rw [hWlane, hWcause, hWevents.2.2] at hstate
      rw [hgone, examineCapture_elsewhere (s := W.posted _ ((emptiedState W n).enterIdle n))
        (enterIdle_state_ne (s := emptiedState W n))]
      exact ⟨hstate, hidentity, hvisit, hheldW, hpostponedT, hcapture, hgonePosts _ _⟩
    | false =>
      rw [weighingEmptied_stands hsomeW (hpostponedW.trans hpostponed), examineCapture_held hsomeW]
      exact ⟨hWstate.trans hst, hsomeW, hposts rfl⟩

end Sys2Proof.Proofs
end

section
/-! O19: a good sample recovers its deck, or makes and judges its reading (R11, R12, R24 to R39). -/

namespace Sys2Proof.Proofs
open Sys2Proof Sys2Proof.Machine

variable {s t u w : State} {n : Lane} {slot : Fin 16} {cells : List Int} {e : Int}

/-! ### The count of good samples -/

/-- A sample reason stands on the deck. -/
def deckFaulty (d : Deck) : Bool := d.saturated || d.excitation

/-- The fourth good sample in a row takes the sample reasons away. -/
def deckRecovers (d : Deck) : Bool := deckFaulty d && decide (d.good = 3)

/-- The deck as a good sample finds it. -/
theorem sampledDeck_good (hgood : goodSample (s.cal n) cells e = true) : sampledDeck s n cells e =
    { s.deck n with
      saturated := (s.deck n).saturated && !deckRecovers (s.deck n)
      excitation := (s.deck n).excitation && !deckRecovers (s.deck n)
      good := if deckRecovers (s.deck n) then 0
        else if deckFaulty (s.deck n) then (s.deck n).good + 1 else (s.deck n).good
      lastSample := some ⟨cells, e, s.now, true⟩, heldLimit := none } := by
  have hno : (saturatedSample cells || !refInTolerance (s.cal n) e) = false := by
    rw [goodSample_eq, Bool.not_eq_true'] at hgood
    exact hgood
  unfold sampledDeck judgedDeck deckRecovers
  rw [hno, hgood, if_neg Bool.false_ne_true]
  have hfaulty : ((s.deck n).saturated || (s.deck n).excitation) = deckFaulty (s.deck n) := rfl
  rw [hfaulty]
  cases hf : deckFaulty (s.deck n) with
  | false => simp
  | true =>
    by_cases hfour : (s.deck n).good = 3
    · rw [if_pos rfl, if_pos (by omega), hfour]
      simp
    · rw [if_pos rfl, if_neg (by omega), decide_eq_false hfour]
      simp

/-- The reasons of a deck after a good sample. -/
def goodReasons (s : State) (n : Lane) : ReasonSet :=
  if deckRecovers (s.deck n) then { s.reasons n with cellSaturated := false, excitation := false } else s.reasons n

theorem sampledState_reasons_good (hgood : goodSample (s.cal n) cells e = true) :
    (sampledState s slot n cells e).reasons n = goodReasons s n := by
  rw [sampledState_reasons, sampledDeck_good hgood]
  unfold goodReasons
  cases deckRecovers (s.deck n) with
  | true => simp
  | false =>
    simp
    rfl

/-- The deck becomes VALID by the sample. -/
def sampleRises (s : State) (n : Lane) : Bool := deckRecovers (s.deck n) && (goodReasons s n).isEmpty

/-- The state with the reasons judged. -/
def recoveredState (s : State) (slot : Fin 16) (n : Lane) (cells : List Int) (e : Int) : State :=
  if sampleRises s n then
    (sampledState s slot n cells e).posted [s.event .deckValid (some n) .none .none]
      ((sampledState s slot n cells e).laneSettle n)
  else sampledState s slot n cells e

theorem afterReasons_good (hgood : goodSample (s.cal n) cells e = true) :
    (sampledState s slot n cells e).afterReasons n (s.reasons n) = recoveredState s slot n cells e := by
  have hreasons := sampledState_reasons_good (slot := slot) hgood
  unfold recoveredState sampleRises
  cases hrecovers : deckRecovers (s.deck n) with
  | false =>
    have hsame : (sampledState s slot n cells e).reasons n = s.reasons n := by
      rw [hreasons, goodReasons, hrecovers]
      rfl
    rw [← hsame]
    exact afterReasons_self
  | true =>
    have hbefore : (s.reasons n).isEmpty = false := by
      have hfaulty := ((Bool.and_eq_true _ _).mp hrecovers).1
      simp only [deckFaulty, Bool.or_eq_true] at hfaulty
      rcases hfaulty with h | h <;> simp [ReasonSet.isEmpty, State.reasons, h]
    cases hafter : (goodReasons s n).isEmpty with
    | true => exact afterReasons_rises hbefore (by rw [State.deckValid, hreasons, hafter])
    | false =>
      rw [afterReasons_stays (by rw [hbefore, State.deckValid, hreasons, hafter])]
      have hnone : (s.reasons n).joined ((sampledState s slot n cells e).reasons n) = 0
          ∧ (s.reasons n).faultJoined ((sampledState s slot n cells e).reasons n) = false := by
        rw [hreasons, goodReasons, hrecovers]
        simp [ReasonSet.joined, ReasonSet.faultJoined]
      rw [hnone.1, hnone.2]
      rfl

/-! ### A sample that completes no capture -/

/-- A sample handed on changes the operation in flight and its outcome alone. -/
theorem calSample_incomplete (hzero : ∀ first sums refSum, (w.deck n).op ≠ some (.zero 63 first sums refSum))
    (hspan : ∀ load first sum, (w.deck n).op ≠ some (.span load 63 first sum)) :
    ∃ es o x, w.calSample n cells e
        = w.posted es { w with decks := w.decks.set n { w.deck n with op := o, lastOutcome := x } }
      ∧ ((w.deck n).op = none → es = [] ∧ o = none) := by
  have hsame : w = w.posted [] { w with
      decks := w.decks.set n { w.deck n with op := (w.deck n).op, lastOutcome := (w.deck n).lastOutcome } } :=
    (setDeck_self rfl).symm
  have habort (c : AbortCause) : ∃ es o x, w.abortOp n c
      = w.posted es { w with decks := w.decks.set n { w.deck n with op := o, lastOutcome := x } } := by
    refine ⟨abortEvents w n c (w.deck n), (abortedDeck w.now c (w.deck n)).op,
      (abortedDeck w.now c (w.deck n)).lastOutcome, ?_⟩
    have hdeck : abortedDeck w.now c (w.deck n) = { w.deck n with
        op := (abortedDeck w.now c (w.deck n)).op, lastOutcome := (abortedDeck w.now c (w.deck n)).lastOutcome } := by
      unfold abortedDeck
      cases (w.deck n).op <;> rfl
    rw [← hdeck]
    exact abortOp_eq c
  unfold State.calSample
  cases hop : (w.deck n).op with
  | none => exact ⟨[], none, (w.deck n).lastOutcome, by rw [hop] at hsame; exact hsame, fun _ => ⟨rfl, rfl⟩⟩
  | some op =>
    have hcount : ∃ es o x, w.countSample n op cells e
        = w.posted es { w with decks := w.decks.set n { w.deck n with op := o, lastOutcome := x } } := by
      cases op with
      | zero taken first sums refSum =>
        have htaken : ¬taken + 1 = 64 := fun h => hzero first sums refSum (by rw [hop, show taken = 63 by omega])
        rw [countSample_zero, if_neg htaken]
        split
        · exact habort _
        · exact ⟨[], _, (w.deck n).lastOutcome, rfl⟩
      | span load taken first sum =>
        have htaken : ¬taken + 1 = 64 := fun h => hspan load first sum (by rw [hop, show taken = 63 by omega])
        rw [countSample_span, if_neg htaken]
        split
        · exact habort _
        · exact ⟨[], _, (w.deck n).lastOutcome, rfl⟩
    dsimp only
    split
    · obtain ⟨es, o, x, heq⟩ := hcount
      exact ⟨es, o, x, heq, nofun⟩
    · exact ⟨[], (w.deck n).op, (w.deck n).lastOutcome, hsame, nofun⟩


/-! ### The recovered deck and its reading -/

/-- What the recovery leaves as it stood, for the reading to be made from. -/
structure Recovered (s : State) (slot : Fin 16) (n : Lane) (cells : List Int) (e : Int) (w : State) : Prop where
  acq : w.acq = { s.acq with position := (slot.val + 1) % 16 }
  cal : w.cal n = s.cal n
  now : w.now = s.now
  deck : w.deck n = sampledDeck s n cells e
  reasons : w.reasons n = goodReasons s n
  deckSettings : w.deckSettings n = s.deckSettings n
  occupied : (w.laneSettings n).occupancy = (s.laneSettings n).occupancy

theorem recovered (hgood : goodSample (s.cal n) cells e = true) :
    Recovered s slot n cells e (recoveredState s slot n cells e) := by
  have hreasons := sampledState_reasons_good (slot := slot) hgood
  unfold recoveredState
  cases sampleRises s n with
  | false => exact ⟨rfl, rfl, rfl, sampledState_deck, hreasons, rfl, rfl⟩
  | true =>
    have hkeeps := laneSettle_keeps (s := sampledState s slot n cells e) (n := n)
    have hsettings := laneSettle_siteSettings (sampledState s slot n cells e) n
    rw [if_pos rfl]
    refine ⟨hkeeps.acq rfl, congrArg (Quad.get · n) (hkeeps.cal rfl), congrArg Clock.siteTime (hkeeps.clock rfl),
      (congrArg (Quad.get · n) (hkeeps.decks rfl)).trans sampledState_deck, laneSettle_reasons.trans hreasons, ?_, ?_⟩
    · exact show (siteSettings ((sampledState s slot n cells e).laneSettle n)).decks.get n = _ by rw [hsettings]; rfl
    · exact show (((sampledState s slot n cells e).laneSettle n).laneSettings n).occupancy = _ by
        rw [laneSettle_laneSettings]; rfl

/-- The reading is that of the deck as it stood. -/
theorem recovered_reading (hgood : goodSample (s.cal n) cells e = true) (h : Recovered s slot n cells e w) :
    sampleReading w n cells e = sampleReading s n cells e ∧ sampleSettling w n cells e = sampleSettling s n cells e
      ∧ sampleOccupancy w n cells e = sampleOccupancy s n cells e := by
  have hdeck : (w.deck n).history = (s.deck n).history ∧ (w.deck n).settling = (s.deck n).settling := by
    rw [h.deck, sampledDeck_good hgood]
    exact ⟨rfl, rfl⟩
  have hreading : sampleReading w n cells e = sampleReading s n cells e := by
    rw [sampleReading, sampleReading, h.cal, h.deckSettings, hdeck.1, h.now]
  refine ⟨hreading, ?_, ?_⟩
  · rw [sampleSettling, sampleSettling, hreading, h.deckSettings, hdeck.2]
  · rw [sampleOccupancy, sampleOccupancy, hreading, h.occupied]

/-! ### What the lane sequencer makes of the occupancy -/

theorem laneSettle_state_ne (h : (s.lane n).state ≠ .weighing) : ((s.laneSettle n).lane n).state ≠ .weighing := by
  rw [laneSettle_lane_eq]
  cases hst : (s.lane n).state with
  | weighing => exact absurd hst h
  | idle =>
    dsimp only
    split_ifs <;> nofun
  | suspended =>
    dsimp only
    split
    · rw [hst]
      nofun
    · unfold State.idled
      dsimp only
      split_ifs <;> nofun
  | _ =>
    dsimp only
    rw [hst]
    nofun

/-- Outside WEIGHING a change of occupancy posts nothing. -/
theorem occupancyChanged_quiet (h : (s.lane n).state ≠ .weighing) :
    ((s.occupancyChanged n).lane n).state ≠ .weighing ∧ (s.occupancyChanged n).events = s.events := by
  unfold State.occupancyChanged
  split
  · exact ⟨laneSettle_state_ne h, laneSettle_events⟩
  · exact ⟨enterIdle_state_ne, enterIdle_events⟩
  · next hw _ => exact absurd hw h
  · exact ⟨enterIdle_state_ne, enterIdle_events⟩
  · exact ⟨h, rfl⟩

theorem workSample_quiet (h : (s.lane n).state ≠ .weighing) : s.workSample n cells e =
      (if (s.deck n).occupancy = sampleOccupancy s n cells e then workedState s n cells e
        else (workedState s n cells e).occupancyChanged n)
    ∧ (s.workSample n cells e).events = s.events := by
  have hlane : ((workedState s n cells e).lane n).state ≠ .weighing := by
    rw [workedState_lane, movedLane_elsewhere h]
    exact h
  obtain ⟨hquiet, hevents⟩ := occupancyChanged_quiet hlane
  rw [workSample_changes]
  split
  · rw [examineCapture_elsewhere hlane]
    exact ⟨rfl, rfl⟩
  · rw [examineCapture_elsewhere hquiet]
    exact ⟨rfl, hevents⟩

/-- A deck that leaves LOCKED marks the lane that is being weighed on. -/
theorem workSample_moved (hst : (s.lane n).state = .weighing) (ho : sampleOccupancy s n cells e = .occupied)
    (hlocked : (s.deck n).settling.state = .locked) (hleaves : (sampleSettling s n cells e).state ≠ .locked) :
    ((s.workSample n cells e).lane n).capture.moved = true := by
  have hlane : (workedState s n cells e).lane n = movedLane s n cells e := workedState_lane
  have hstate : ((workedState s n cells e).lane n).state = .weighing := by rw [hlane]; exact hst
  have hsettling : ((workedState s n cells e).deck n).settling = sampleSettling s n cells e := by
    rw [workedState_deck]
    rfl
  have hchanged : (workedState s n cells e).occupancyChanged n = workedState s n cells e := by
    unfold State.occupancyChanged
    rw [hstate, show ((workedState s n cells e).deck n).occupancy = .occupied by rw [workedState_deck, ho]]
  rw [workSample_changes, hchanged, ite_self, examineCapture_not, hlane, movedLane, decide_eq_true ⟨hlocked, hleaves, hst⟩]
  · exact Bool.or_true _
  · intro r
    simp [State.captureReady, hsettling, hleaves]

theorem idled_of_closes (h : ((s.lane n).closePending || decide (s.ret.settings.siteMode = .closed)) = true) (a b : Bool) :
    s.idled n a b = { idleLane (s.lane n) with state := .closed, closePending := false } := by
  unfold State.idled
  dsimp only
  rw [h, if_pos rfl, Bool.not_true, Bool.and_false]
  rfl

theorem idled_of_open (h : ((s.lane n).closePending || decide (s.ret.settings.siteMode = .closed)) = false) (b : Bool) :
    s.idled n false b = { idleLane (s.lane n) with state := if b then .occupied else .idle } := by
  unfold State.idled
  dsimp only
  rw [h, if_neg Bool.false_ne_true, if_neg Bool.false_ne_true, Bool.not_false, Bool.and_true]
  rfl

/-- A lane that has just been let into IDLE, as the occupancy of the reading finds it. -/
theorem workSample_idled (hlane : s.lane n = t.idled n false (decide ((s.deck n).occupancy = .occupied)))
    (hcause : ((t.lane n).closePending || decide (t.ret.settings.siteMode = .closed)) = false → s.suspendCause n = false)
    (hmode : s.ret.settings.siteMode = t.ret.settings.siteMode)
    {loaded : Bool} (ho : sampleOccupancy s n cells e = if loaded then .occupied else .empty) :
    (s.workSample n cells e).lane n = t.idled n false loaded := by
  have hstate : (s.lane n).state = if (t.lane n).closePending || decide (t.ret.settings.siteMode = .closed) then .closed
      else if (s.deck n).occupancy = .occupied then .occupied else .idle := by
    rw [hlane]
    unfold State.idled
    simp
  have hnot : (s.lane n).state ≠ .weighing := by
    rw [hstate]
    split_ifs <;> nofun
  cases hcloses : (t.lane n).closePending || decide (t.ret.settings.siteMode = .closed) with
  | true =>
    rw [hcloses, if_pos rfl] at hstate
    have hsame : (s.workSample n cells e).lane n = s.lane n := by
      rw [workSample_closed hstate]
      rfl
    rw [hsame, hlane, idled_of_closes hcloses, idled_of_closes hcloses]
  | false =>
    rw [hcloses, if_neg Bool.false_ne_true] at hstate
    have hW : (workedState s n cells e).lane n = s.lane n := workedState_lane.trans (movedLane_elsewhere hnot)
    have hWdeck : ((workedState s n cells e).deck n).occupancy = sampleOccupancy s n cells e := by rw [workedState_deck]
    have hWcause : (workedState s n cells e).suspendCause n = false := workedState_cause.trans (hcause hcloses)
    rw [idled_of_open hcloses] at hlane
    rw [(workSample_quiet hnot).1, idled_of_open hcloses]
    split
    · next hsame =>
      rw [hW, hlane, hsame, ho]
      cases loaded <;> rfl
    · next hchanges =>
      by_cases hoccupied : (s.deck n).occupancy = .occupied
      · have hunloaded : loaded = false := by
          rw [hoccupied, ho] at hchanges
          exact Bool.eq_false_iff.mpr fun hl => hchanges (by rw [hl]; rfl)
        have hopen : (((workedState s n cells e).lane n).closePending
            || decide ((workedState s n cells e).ret.settings.siteMode = .closed)) = false := by
          rw [hW, hlane, ← hcloses, ← hmode]
          rfl
        rw [hunloaded] at ho ⊢
        rw [occupancyChanged_enters (.inl (by rw [hW, hstate, if_pos hoccupied])) (hWdeck.trans ho), enterIdle_lane,
          hWcause, hWdeck, ho, idled_of_open hopen, hW, hlane]
        rfl
      · have hidle : ((workedState s n cells e).lane n).state = .idle := by rw [hW, hstate, if_neg hoccupied]
        rw [occupancyChanged_idle hidle, laneSettle_lane_eq, hidle]
        dsimp only
        rw [hWcause, hWdeck, ho, hW, hlane]
        cases loaded <;> rfl


/-! ### O19 -/

theorem pushHistory_eq (h : List Int) (x : Int) : pushHistory h x = (h ++ [x]).drop (h.length + 1 - 16) := by
  unfold pushHistory Config.historyMax
  dsimp only
  rw [List.length_append]
  rfl

theorem sampleReading_eq : sampleReading s n cells e = makeReading (s.cal n) (s.deckSettings n).depth
    (((s.deck n).history ++ [spanWeight (s.cal n) cells e]).drop ((s.deck n).history.length + 1 - 16))
    (spanWeight (s.cal n) cells e) s.now := by
  rw [sampleReading, pushHistory_eq]

theorem inBand_iff {cfg : DeckSettings} {a : Int} {r : Reading} :
    inBand cfg a r = true ↔ r.range = .normal ∧ (r.f - a).natAbs ≤ cfg.band := by
  rw [inBand, Bool.and_eq_true, decide_eq_true_eq, decide_eq_true_eq]

theorem sampleOccupancy_eq : sampleOccupancy s n cells e =
    if decide (((s.laneSettings n).occupancy : Int) * 10 ≤ (sampleReading s n cells e).f) then .occupied else .empty := by
  rw [sampleOccupancy, occupancyOf]
  refine if_congr ?_ rfl rfl
  rw [decide_eq_true_eq]
  push_cast
  exact Iff.rfl

/-- The state after a good sample, before the capture in flight sees it. -/
def readByNow (s : State) (slot : Fin 16) (n : Lane) (cells : List Int) (e : Int) : State :=
  if (goodReasons s n).isEmpty then (recoveredState s slot n cells e).workSample n cells e
  else recoveredState s slot n cells e

theorem slotEnds_good (hslot : s.acq.active.get slot = some n) (hcells : cells.length = (s.deckSettings n).cells)
    (hgood : goodSample (s.cal n) cells e = true) :
    s.slotEnds slot cells e = (readByNow s slot n cells e).calSample n cells e := by
  have hvalid : (recoveredState s slot n cells e).deckValid n = (goodReasons s n).isEmpty :=
    congrArg ReasonSet.isEmpty (recovered hgood).reasons
  rw [slotEnds_eq hslot hcells, if_pos hgood, afterReasons_good hgood, hvalid]
  rfl

/-- The deck after a good sample: recovered, and read where it is VALID. -/
theorem readByNow_deck (hgood : goodSample (s.cal n) cells e = true) : (readByNow s slot n cells e).deck n =
    { sampledDeck s n cells e with
      history := if (goodReasons s n).isEmpty then pushHistory (s.deck n).history (spanWeight (s.cal n) cells e)
        else (s.deck n).history
      reading := if (goodReasons s n).isEmpty then some (sampleReading s n cells e) else (s.deck n).reading
      settling := if (goodReasons s n).isEmpty then sampleSettling s n cells e else (s.deck n).settling
      occupancy := if (goodReasons s n).isEmpty then sampleOccupancy s n cells e else (s.deck n).occupancy } := by
  have hw := recovered (slot := slot) hgood
  obtain ⟨hreading, hsettling, hoccupancy⟩ := recovered_reading hgood hw
  unfold readByNow
  cases (goodReasons s n).isEmpty with
  | true =>
    rw [if_pos rfl, workSample_deck, readDeck, hreading, hsettling, hoccupancy, hw.deck, hw.cal, sampledDeck_good hgood]
    rfl
  | false =>
    rw [if_neg Bool.false_ne_true, hw.deck, sampledDeck_good hgood]
    rfl

theorem readByNow_rest (hgood : goodSample (s.cal n) cells e = true) :
    (readByNow s slot n cells e).acq = { s.acq with position := (slot.val + 1) % 16 }
      ∧ (readByNow s slot n cells e).cal n = s.cal n
      ∧ (readByNow s slot n cells e).reasons n = goodReasons s n := by
  have hw := recovered (slot := slot) hgood
  have hkeeps := workSample_keeps (s := recoveredState s slot n cells e) (n := n) (cells := cells) (e := e)
  unfold readByNow
  split
  · exact ⟨(hkeeps.acq rfl).trans hw.acq, (congrArg (Quad.get · n) (hkeeps.cal rfl)).trans hw.cal,
      workSample_reasons.trans hw.reasons⟩
  · exact ⟨hw.acq, hw.cal, hw.reasons⟩

/-- A run of readings inside the band, which may reach the next grade. -/
def bandRun (m : Settling) (run : Nat) (next : SettleState) : Settling :=
  { m with state := if run ≤ m.run + 1 then next else m.state, run := m.run + 1, out := 0 }

/-- The monitor's judgement, by the grade it held and whether the reading is inside its band (R36 to R39). -/
def judgedBy (cfg : DeckSettings) (m : Settling) (f : Int) (inside : Int → Bool) : Settling :=
  match m.anchor, m.state with
  | none, _ => droppedSettling f
  | some a, .unsettled =>
    if inside a then bandRun m cfg.tTent .tentative else { m with anchor := some f, run := 0 }
  | some a, .tentative =>
    if inside a then bandRun m (cfg.tTent + cfg.tSettle) .settled else outOfBand cfg m f
  | some a, .settled =>
    if inside a then bandRun m (cfg.tTent + cfg.tSettle + cfg.tLock) .locked else outOfBand cfg m f
  | some a, .locked => if inside a then { m with out := 0 } else outOfBand cfg m f

theorem judgeReading_eq (cfg : DeckSettings) (m : Settling) (r : Reading) :
    judgeReading cfg m r = judgedBy cfg m r.f (inBand cfg · r) := by
  rcases m with ⟨st, anchor, run, out⟩
  cases anchor with
  | none => rfl
  | some a =>
    unfold judgeReading judgedBy
    dsimp only
    by_cases hband : inBand cfg a r = true
    · rw [hband]
      cases st <;> exact (if_pos hband).symm
    · rw [Bool.eq_false_iff.mpr hband]
      cases st <;> exact (if_neg hband).symm

/-- A lane outside IDLE and SUSPENDED is left alone as its deck recovers. -/
theorem recoveredState_lane (hidle : (s.lane n).state ≠ .idle) (hsuspended : (s.lane n).state ≠ .suspended) :
    (recoveredState s slot n cells e).lane n = s.lane n := by
  unfold recoveredState
  split
  · rw [laneSettle_elsewhere (s := sampledState s slot n cells e) hidle hsuspended]
    rfl
  · rfl

theorem recoveredState_quiet (h : (s.lane n).state ≠ .weighing) :
    ((recoveredState s slot n cells e).lane n).state ≠ .weighing := by
  unfold recoveredState
  split
  · exact laneSettle_state_ne (s := sampledState s slot n cells e) h
  · exact h

theorem recoveredState_posts : s.posts (recoveredState s slot n cells e)
    (if sampleRises s n then [s.event .deckValid (some n) .none .none] else []) := by
  unfold recoveredState
  split <;> rfl

/-- The lane that the recovery lets go. -/
theorem recoveredState_idled (hgood : goodSample (s.cal n) cells e = true) (hrises : sampleRises s n = true)
    (hst : (s.lane n).state = .suspended) (hyard : s.yardCause n = false) :
    (recoveredState s slot n cells e).lane n = s.idled n false
        (decide (((recoveredState s slot n cells e).deck n).occupancy = .occupied))
      ∧ (((s.lane n).closePending || decide (s.ret.settings.siteMode = .closed)) = false →
        (recoveredState s slot n cells e).suspendCause n = false)
      ∧ (recoveredState s slot n cells e).ret.settings.siteMode = s.ret.settings.siteMode := by
  have hreasons := sampledState_reasons_good (slot := slot) hgood
  have hvalid : (sampledState s slot n cells e).deckValid n = true := by
    rw [State.deckValid, hreasons]
    exact ((Bool.and_eq_true _ _).mp hrises).2
  have hcause : (sampledState s slot n cells e).suspendCause n = false :=
    (suspendCause_of_valid hvalid).trans hyard
  have hsettled : (sampledState s slot n cells e).laneSettle n = (sampledState s slot n cells e).enterIdle n := by
    rw [laneSettle_eq, show ((sampledState s slot n cells e).lane n).state = .suspended from hst]
    exact if_neg (Bool.eq_false_iff.mp hcause)
  have hdeck : ((sampledState s slot n cells e).enterIdle n).deck n = (sampledState s slot n cells e).deck n := by
    rw [← hsettled]
    exact congrArg (Quad.get · n) laneSettle_decks
  have hrecovered : recoveredState s slot n cells e = (sampledState s slot n cells e).posted
      [s.event .deckValid (some n) .none .none] ((sampledState s slot n cells e).enterIdle n) := by
    rw [recoveredState, hrises, hsettled]
    rfl
  rw [hrecovered]
  refine ⟨?_, fun hopen => ?_, ?_⟩
  · have hlane := enterIdle_lane (s := sampledState s slot n cells e) (n := n)
    rw [hcause, ← hdeck] at hlane
    exact hlane
  · have hcloses : ¬((s.lane n).closePending = true ∨ s.ret.settings.siteMode = .closed) := by simpa using hopen
    have hentered : (sampledState s slot n cells e).enterIdle n = _ := enterIdle_eq.trans (if_neg hcloses)
    rw [hentered]
    exact hcause
  · have hsettings := enterIdle_siteSettings (sampledState s slot n cells e) n
    exact show (siteSettings ((sampledState s slot n cells e).enterIdle n)).siteMode = _ by rw [hsettings]; rfl

/-- Settles O19. -/
theorem goodSampleMakesTheReading : Obligations.GoodSampleMakesTheReading := by
  intro s slot cells e n hheld hslot hcells hgood hzero hspan cfg faulty recovers after w history newest f r m unsettled
    inside counted outside judged loaded valid
  have hr : sampleReading s n cells e = r := sampleReading_eq
  have hjudged : sampleSettling s n cells e = judged := by
    have hband : (inBand cfg · r) = fun a => decide (inside a) := funext fun a => by
      rw [Bool.eq_iff_iff, decide_eq_true_eq]
      exact inBand_iff
    have hinside (a : Int) (x y : Settling) : (if decide (inside a) = true then x else y) = if inside a then x else y :=
      if_congr decide_eq_true_iff rfl rfl
    rw [sampleSettling, hr, judgeReading_eq, hband, judgedBy]
    simp only [hinside]
    rfl
  have hloaded : sampleOccupancy s n cells e = if loaded then .occupied else .empty := by
    rw [sampleOccupancy_eq, hr]
  have hw := recovered (slot := slot) hgood
  obtain ⟨hacqR, hcalR, hreasonsR⟩ := readByNow_rest (slot := slot) hgood
  have hdeckR := readByNow_deck (slot := slot) hgood
  have hop : ((readByNow s slot n cells e).deck n).op = (s.deck n).op := by
    rw [hdeckR, sampledDeck_good hgood]
  have hexec : exec (.deckSample slot cells e) s = .next ((readByNow s slot n cells e).calSample n cells e) :=
    congrArg Host.Outcome.next ((whileRunning_of_running hheld _).trans (slotEnds_good hslot hcells hgood))
  obtain ⟨es, o, x, heq, hnone⟩ := calSample_incomplete (w := readByNow s slot n cells e) (n := n) (cells := cells)
    (e := e) (by rw [hop]; exact hzero) (by rw [hop]; exact hspan)
  obtain ⟨R, hR⟩ : ∃ R, R = readByNow s slot n cells e := ⟨_, rfl⟩
  rw [heq] at hexec
  rw [← hR] at hexec hacqR hcalR hreasonsR hdeckR hop hnone
  obtain ⟨t, ht⟩ : ∃ t, t = R.posted es { R with decks := R.decks.set n { R.deck n with op := o, lastOutcome := x } } :=
    ⟨_, rfl⟩
  have hdeckT : t.deck n = { R.deck n with op := o, lastOutcome := x } := by
    rw [ht]
    exact Quad.get_set_self ..
  have hlaneT : t.lane n = R.lane n := by
    rw [ht]
    rfl
  rw [← ht] at hexec
  refine ⟨t, hexec, by rw [ht]; exact hacqR, by rw [ht]; exact hcalR, ?_, fun hnoop => ?_, ?_, ?_, ?_, ?_, fun hnoop hst => ?_⟩
  · have hcalT : t.cal n = R.cal n := by
      rw [ht]
      rfl
    rw [reasons_of_deck hdeckT hcalT]
    exact hreasonsR
  · obtain ⟨-, ho⟩ := hnone (hop.trans hnoop)
    rw [hdeckT]
    exact ho
  · rw [hdeckT, hdeckR, sampledDeck_good hgood]
    rfl
  · rw [hdeckT, hdeckR, sampledDeck_good hgood]
  · rw [hdeckT, hdeckR, sampledDeck_good hgood]
  · rw [hlaneT, hdeckT, hdeckR, hloaded, hjudged, hr, pushHistory_eq]
    cases hafter : after.isEmpty with
    | true =>
      rw [show (goodReasons s n).isEmpty = true from hafter]
      refine ⟨rfl, rfl, rfl, rfl, fun hst hl hm hj => ?_, fun hv hst hyard => ?_⟩
      · have hweighing : (recoveredState s slot n cells e).lane n = s.lane n :=
          recoveredState_lane (by rw [hst]; nofun) (by rw [hst]; nofun)
        obtain ⟨-, hsettling, hoccupancy⟩ := recovered_reading hgood hw
        have hmoved := workSample_moved (s := recoveredState s slot n cells e) (n := n) (cells := cells) (e := e)
          (by rw [hweighing]; exact hst) (by rw [hoccupancy, hloaded, hl]; rfl)
          (by rw [hw.deck, sampledDeck_good hgood]; exact hm) (by rw [hsettling, hjudged]; exact hj)
        rw [hR, readByNow, show (goodReasons s n).isEmpty = true from hafter]
        exact hmoved
      · obtain ⟨hlane, hcause, hmode⟩ := recoveredState_idled (slot := slot) hgood hv hst hyard
        obtain ⟨-, -, hoccupancy⟩ := recovered_reading hgood hw
        rw [hR, readByNow, show (goodReasons s n).isEmpty = true from hafter]
        exact workSample_idled hlane hcause hmode (hoccupancy.trans hloaded)
    | false =>
      rw [show (goodReasons s n).isEmpty = false from hafter]
      refine ⟨rfl, rfl, rfl, rfl, ?_⟩
      have hstays : sampleRises s n = false := by
        rw [sampleRises, show (goodReasons s n).isEmpty = false from hafter, Bool.and_false]
      rw [hR, readByNow, show (goodReasons s n).isEmpty = false from hafter, recoveredState, hstays]
      rfl
  · obtain ⟨hes, -⟩ := hnone (hop.trans hnoop)
    have hquiet : R.events = (recoveredState s slot n cells e).events := by
      rw [hR, readByNow]
      split
      · exact (workSample_quiet (recoveredState_quiet hst)).2
      · rfl
    have hposts : t.events = R.events := by
      rw [ht, hes]
      rfl
    exact (hposts.trans hquiet).trans recoveredState_posts

end Sys2Proof.Proofs
end

section
/-! O20: when a part is captured, and what it holds (R46 to R52). -/

namespace Sys2Proof.Proofs
open Sys2Proof Sys2Proof.Machine

variable {s t u x : State} {n : Lane} {slot : Fin 16} {cells : List Int} {e : Int} {r : Reading} {k : Nat}

/-! ### A capture examined -/

/-- A reading that may be captured. -/
def meetsPart (r : Reading) : Prop := r.range = .normal ∧ (r.minimum : Int) ≤ r.d

theorem captureReady_iff : s.captureReady n r = true ↔
    (s.lane n).state = .weighing ∧ (s.lane n).heldWeighing = none ∧ s.deckValid n = true
      ∧ (s.deck n).settling.state = .locked ∧ meetsPart r
      ∧ ((s.lane n).capture.parts = [] ∨ (s.lane n).capture.moved = true)
      ∧ ((s.lane n).capture.required = some ((s.lane n).capture.parts.length + 1) →
        (s.loop n .entry).report = .free) := by
  unfold State.captureReady meetsMinimum meetsPart
  simp only [Bool.and_eq_true, Bool.or_eq_true, decide_eq_true_eq, Option.isNone_iff_eq_none, List.isEmpty_iff,
    and_assoc]
  refine and_congr_right fun _ => and_congr_right fun _ => and_congr_right fun _ => and_congr_right fun _ =>
    and_congr_right fun _ => and_congr_right fun _ => and_congr_right fun _ => ?_
  rw [ne_eq, imp_iff_not_or]

/-- The list of parts is older than its limit. -/
def agedParts (s : State) (n : Lane) : Prop :=
  (s.lane n).capture.parts ≠ []
    ∧ ∃ a, (s.lane n).capture.age = some a ∧ (s.laneSettings n).partAge < a

theorem partsAged_iff : s.partsAged n = true ↔ agedParts s n := by
  unfold State.partsAged agedParts
  cases (s.lane n).capture.parts with
  | nil => simp
  | cons p ps =>
    cases (s.lane n).capture.age with
    | none => simp
    | some a => simp

/-- A lane with a part captured: the next of its list, or the last of its weighing. -/
def takenLane (s : State) (n : Lane) (k : Nat) (l : LaneSeq) (r : Reading) : LaneSeq :=
  let ps := l.capture.parts ++ [s.partOf n r]
  if k = ps.length then
    { l with
      capture := ⟨some k, [], false, none⟩
      heldWeighing := some ⟨(ps.map fun q => q.value).sum, n, s.now, ps, ps.any fun q => q.unset⟩
      postponed := s.warning }
  else { l with capture := ⟨some k, ps, false, if l.capture.parts = [] then some 0 else l.capture.age⟩ }

theorem appendPart_eq (hrequired : (s.lane n).capture.required = some k) :
    s.appendPart n r = { s with lanes := s.lanes.set n (takenLane s n k (s.lane n) r) } := by
  unfold State.appendPart takenLane
  dsimp only
  rw [hrequired]
  by_cases hlast : k = ((s.lane n).capture.parts ++ [s.partOf n r]).length
  · rw [if_pos (congrArg some hlast), if_pos hlast]
    have htime : weighingOf n ((s.lane n).capture.parts ++ [s.partOf n r])
        = ⟨(((s.lane n).capture.parts ++ [s.partOf n r]).map fun q => q.value).sum, n, s.now,
          (s.lane n).capture.parts ++ [s.partOf n r],
          ((s.lane n).capture.parts ++ [s.partOf n r]).any fun q => q.unset⟩ := by
      unfold weighingOf
      rw [List.getLast?_append]
      rfl
    have hcleared : clearedParts (s.lane n).capture = ⟨some k, [], false, none⟩ := by
      rw [clearedParts, hrequired]
    rw [htime, hcleared]
    rfl
  · rw [if_neg (fun h => hlast (Option.some.inj h)), if_neg hlast]
    rfl

/-- The lane with its old list discarded. -/
def discardedLane (s : State) (n : Lane) (k : Nat) : LaneSeq := { s.lane n with capture := ⟨some k, [], false, none⟩ }

theorem discardAged_eq (hrequired : (s.lane n).capture.required = some k) : s.discardAged n =
    s.posted [s.event .weighingDiscarded (some n) .none (.parts (s.lane n).capture.parts.length)]
      { s with lanes := s.lanes.set n (discardedLane s n k) } := by
  have hcleared : clearedParts (s.lane n).capture = ⟨some k, [], false, none⟩ := by
    rw [clearedParts, hrequired]
  rw [discardedLane, ← hcleared]
  rfl

theorem examineCapture_reads (hreading : (s.deck n).reading = some r) : s.examineCapture n =
    if s.captureReady n r then
      if s.partsAged n then
        if (s.discardAged n).captureReady n r then (s.discardAged n).appendPart n r else s.discardAged n
      else s.appendPart n r
    else s := by
  unfold State.examineCapture
  rw [hreading]

/-- A reading captured at once. -/
theorem examineCapture_takes (hreading : (s.deck n).reading = some r) (hready : s.captureReady n r = true)
    (hrequired : (s.lane n).capture.required = some k) (haged : ¬agedParts s n) :
    s.examineCapture n = { s with lanes := s.lanes.set n (takenLane s n k (s.lane n) r) } := by
  rw [examineCapture_reads hreading, if_pos hready, if_neg (fun h => haged (partsAged_iff.mp h)),
    appendPart_eq hrequired]

/-- A reading captured as the first part after an old list. -/
theorem examineCapture_renews (hreading : (s.deck n).reading = some r) (hready : s.captureReady n r = true)
    (hrequired : (s.lane n).capture.required = some k) (haged : agedParts s n)
    (hfirst : k = 1 → (s.loop n .entry).report = .free) :
    s.examineCapture n =
      s.posted [s.event .weighingDiscarded (some n) .none (.parts (s.lane n).capture.parts.length)]
        { s with lanes := s.lanes.set n (takenLane s n k (discardedLane s n k) r) } := by
  obtain ⟨hstate, hheld, hvalid, hlocked, hmeets, -, -⟩ := captureReady_iff.mp hready
  obtain ⟨d, hd⟩ : ∃ d, d = s.discardAged n := ⟨_, rfl⟩
  have heq : d = _ := hd.trans (discardAged_eq hrequired)
  have hlane : d.lane n = discardedLane s n k := by
    rw [heq]
    exact Quad.get_set_self ..
  have hagain : d.captureReady n r = true := by
    rw [captureReady_iff, hlane]
    refine ⟨hstate, hheld, ?_, ?_, hmeets, .inl rfl, fun h => ?_⟩
    · rw [heq]
      exact hvalid
    · rw [heq]
      exact hlocked
    · rw [heq]
      exact hfirst (Option.some.inj h)
  rw [examineCapture_reads hreading, if_pos hready, if_pos (partsAged_iff.mpr haged), ← hd, if_pos hagain,
    appendPart_eq (by rw [hlane]; rfl), hlane, heq]
  have hset : ((s.lanes.set n (discardedLane s n k)).set n (takenLane s n k (discardedLane s n k) r))
      = s.lanes.set n (takenLane s n k (discardedLane s n k) r) := quad_set_set ..
  rw [← hset]
  rfl


/-! ### The three occasions -/

/-- The lane as it enters WEIGHING, before the capture is examined. -/
def weighingLane (s : State) (n : Lane) (k : Nat) : LaneSeq :=
  { s.lane n with state := .weighing, capture := ⟨some k, [], false, none⟩ }

/-- The state as the lane enters WEIGHING, before the capture is examined. -/
def weighingState (s : State) (n : Lane) (k : Nat) : State := { s with lanes := s.lanes.set n (weighingLane s n k) }

theorem weighingState_lane : (weighingState s n k).lane n = weighingLane s n k := Quad.get_set_self ..

theorem enterWeighing_none (hreading : (s.deck n).reading = none) : s.enterWeighing n k = weighingState s n k := by
  show (weighingState s n k).examineCapture n = _
  unfold State.examineCapture
  rw [show ((weighingState s n k).deck n).reading = none from hreading]

/-- What a lane needs for a part to be captured as it enters WEIGHING. -/
def capturesAtEntry (s : State) (n : Lane) (k : Nat) (r : Reading) : Prop :=
  s.deckValid n = true ∧ (s.deck n).settling.state = .locked ∧ meetsPart r
    ∧ (k = 0 + 1 → (s.loop n .entry).report = .free)

theorem weighingState_ready (hnone : (s.lane n).heldWeighing = none) :
    (weighingState s n k).captureReady n r = true ↔ capturesAtEntry s n k r := by
  rw [captureReady_iff, weighingState_lane]
  constructor
  · rintro ⟨-, -, hvalid, hlocked, hmeets, -, hlast⟩
    exact ⟨hvalid, hlocked, hmeets, fun h => hlast (congrArg some h)⟩
  · rintro ⟨hvalid, hlocked, hmeets, hlast⟩
    exact ⟨rfl, hnone, hvalid, hlocked, hmeets, .inl rfl, fun h => hlast (Option.some.inj h)⟩

theorem enterWeighing_takes (hnone : (s.lane n).heldWeighing = none) (hreading : (s.deck n).reading = some r)
    (h : capturesAtEntry s n k r) : s.enterWeighing n k =
      { s with lanes := s.lanes.set n (takenLane s n k (weighingLane s n k) r) } := by
  have haged : ¬agedParts (weighingState s n k) n := by
    rintro ⟨hparts, -⟩
    rw [weighingState_lane] at hparts
    exact hparts rfl
  have htaken := examineCapture_takes (s := weighingState s n k) hreading ((weighingState_ready hnone).mpr h)
    (by rw [weighingState_lane]; rfl) haged
  rw [weighingState_lane] at htaken
  refine htaken.trans ?_
  rw [← quad_set_set s.lanes n (weighingLane s n k) (takenLane s n k (weighingLane s n k) r)]
  rfl

theorem enterWeighing_waits (hnone : (s.lane n).heldWeighing = none) (hreading : (s.deck n).reading = some r)
    (h : ¬capturesAtEntry s n k r) : s.enterWeighing n k = weighingState s n k :=
  (examineCapture_reads (s := weighingState s n k) hreading).trans
    (if_neg fun hready => h ((weighingState_ready hnone).mp hready))

/-- A lane being weighed on that is ready for another part. -/
def readyForPart (s : State) (n : Lane) (k : Nat) : Prop :=
  (s.lane n).state = .weighing ∧ (s.lane n).heldWeighing = none ∧ (s.lane n).capture.required = some k
    ∧ ((s.lane n).capture.parts = [] ∨ (s.lane n).capture.moved = true)

theorem captureReady_of (h : readyForPart s n k) (hvalid : s.deckValid n = true)
    (hlocked : (s.deck n).settling.state = .locked) : s.captureReady n r = true ↔ meetsPart r
      ∧ (k = (s.lane n).capture.parts.length + 1 → (s.loop n .entry).report = .free) := by
  obtain ⟨hstate, hnone, hrequired, hmoved⟩ := h
  rw [captureReady_iff, hrequired]
  constructor
  · rintro ⟨-, -, -, -, hmeets, -, hlast⟩
    exact ⟨hmeets, fun h => hlast (congrArg some h)⟩
  · rintro ⟨hmeets, hlast⟩
    exact ⟨hstate, hnone, hvalid, hlocked, hmeets, hmoved, fun h => hlast (Option.some.inj h)⟩

/-! ### A part captured at a reading -/

/-- A state in which a reading of a VALID and LOCKED deck is about to be examined, its lane as it stood. -/
structure AtReading (s : State) (n : Lane) (r : Reading) (x : State) : Prop where
  lane : x.lane n = s.lane n
  events : x.events = s.events
  clock : x.clock = s.clock
  ret : x.ret = s.ret
  power : x.power = s.power
  valid : x.deckValid n = true
  locked : (x.deck n).settling.state = .locked
  reading : (x.deck n).reading = some r

theorem AtReading.taken (h : AtReading s n r x) (l : LaneSeq) : takenLane x n k l r = takenLane s n k l r := by
  have hpart : x.partOf n r = s.partOf n r := by
    simp only [State.partOf, State.now, State.cal, h.clock, h.ret]
  have hnow : x.now = s.now := congrArg Clock.siteTime h.clock
  have hwarning : x.warning = s.warning := by rw [State.warning, State.warning, h.power]
  rw [takenLane, takenLane, hpart, hnow, hwarning]

theorem AtReading.ready (h : AtReading s n r x) (hready : readyForPart s n k) : x.captureReady n r = true ↔
    meetsPart r ∧ (k = (s.lane n).capture.parts.length + 1 → (x.loop n .entry).report = .free) := by
  have hx : readyForPart x n k := by
    unfold readyForPart
    rw [h.lane]
    exact hready
  rw [captureReady_of hx h.valid h.locked, h.lane]

theorem AtReading.aged (h : AtReading s n r x) : agedParts x n ↔ agedParts s n := by
  unfold agedParts
  rw [h.lane, State.laneSettings, h.ret]
  rfl

/-- A reading that is not captured. -/
theorem AtReading.waits (h : AtReading s n r x) (hready : readyForPart s n k)
    (hnot : ¬(meetsPart r ∧ (k = (s.lane n).capture.parts.length + 1 → (x.loop n .entry).report = .free))) :
    s.posts (x.examineCapture n) [] ∧ (x.examineCapture n).lane n = s.lane n := by
  rw [examineCapture_reads h.reading, if_neg fun hr => hnot ((h.ready hready).mp hr)]
  exact ⟨h.events, h.lane⟩

/-- A reading that is captured. -/
theorem AtReading.takes (h : AtReading s n r x) (hready : readyForPart s n k) (hmeets : meetsPart r)
    (hlast : k = (s.lane n).capture.parts.length + 1 → (x.loop n .entry).report = .free) (haged : ¬agedParts s n) :
    s.posts (x.examineCapture n) [] ∧ (x.examineCapture n).lane n = takenLane s n k (s.lane n) r := by
  have ⟨_, _, hrequired, _⟩ := hready
  rw [examineCapture_takes h.reading ((h.ready hready).mpr ⟨hmeets, hlast⟩) (by rw [h.lane]; exact hrequired)
    (fun hx => haged (h.aged.mp hx)), h.lane, h.taken]
  exact ⟨h.events, Quad.get_set_self ..⟩

/-- A reading that is captured after an old list. -/
theorem AtReading.renews (h : AtReading s n r x) (hready : readyForPart s n k) (hmeets : meetsPart r)
    (hlast : k = (s.lane n).capture.parts.length + 1 → (x.loop n .entry).report = .free) (haged : agedParts s n)
    (hfirst : k = 1 → (x.loop n .entry).report = .free) :
    s.posts (x.examineCapture n)
        [s.event .weighingDiscarded (some n) .none (.parts (s.lane n).capture.parts.length)]
      ∧ (x.examineCapture n).lane n = takenLane s n k (discardedLane s n k) r := by
  have ⟨_, _, hrequired, _⟩ := hready
  have hevent : State.event x = State.event s := by
    unfold State.event State.now
    rw [h.clock]
  have hdiscarded : discardedLane x n k = discardedLane s n k := by rw [discardedLane, discardedLane, h.lane]
  rw [examineCapture_renews h.reading ((h.ready hready).mpr ⟨hmeets, hlast⟩) (by rw [h.lane]; exact hrequired)
    (h.aged.mpr haged) hfirst, hdiscarded, h.taken, h.lane, hevent]
  refine ⟨?_, Quad.get_set_self ..⟩
  exact congrArg (fun q => List.foldl EventQueue.add q _) h.events

/-- A reading worked through on a deck that is LOCKED with it, and occupied. -/
theorem atReading_worked (hvalid : u.deckValid n = true) (hst : (u.lane n).state = .weighing)
    (hlocked : (sampleSettling u n cells e).state = .locked) (ho : sampleOccupancy u n cells e = .occupied) :
    u.workSample n cells e = (workedState u n cells e).examineCapture n
      ∧ AtReading u n (sampleReading u n cells e) (workedState u n cells e) := by
  have hmoved : movedLane u n cells e = u.lane n := by
    unfold movedLane
    rw [decide_eq_false fun h => h.2.1 hlocked, Bool.or_false]
  have hlane : (workedState u n cells e).lane n = u.lane n := workedState_lane.trans hmoved
  have hchanged : (workedState u n cells e).occupancyChanged n = workedState u n cells e := by
    unfold State.occupancyChanged
    rw [hlane, hst, show ((workedState u n cells e).deck n).occupancy = .occupied by rw [workedState_deck, ho]]
  refine ⟨by rw [workSample_changes, hchanged, ite_self], hlane, rfl, rfl, rfl, rfl, ?_, ?_, ?_⟩
  · have hreasons : (workedState u n cells e).reasons n = u.reasons n :=
      reasons_cleared (d := { readDeck u n cells e with occupancy := sampleOccupancy u n cells e }) rfl rfl rfl
    rw [State.deckValid, hreasons]
    exact hvalid
  · rw [workedState_deck]
    exact hlocked
  · rw [workedState_deck]
    rfl

/-- A good sample on a deck that is LOCKED with it, and occupied. -/
theorem atReading_sample (hgood : goodSample (s.cal n) cells e = true) (hvalid : s.deckValid n = true)
    (hst : (s.lane n).state = .weighing)
    (hlocked : (sampleSettling s n cells e).state = .locked) (ho : sampleOccupancy s n cells e = .occupied) :
    ∃ x : State, (sampledState s slot n cells e).workSample n cells e = x.examineCapture n ∧ x.loops = s.loops
      ∧ AtReading s n (sampleReading s n cells e) x := by
  obtain ⟨hsat, hexc, -⟩ := valid_faults hvalid
  obtain ⟨hdeck, hreading, -⟩ := sampledState_reads (slot := slot) hgood hvalid
  have hsettling : sampleSettling (sampledState s slot n cells e) n cells e = sampleSettling s n cells e := by
    rw [sampleSettling, hreading, hdeck]
    rfl
  have hoccupancy : sampleOccupancy (sampledState s slot n cells e) n cells e = sampleOccupancy s n cells e := by
    rw [sampleOccupancy, hreading]
    rfl
  have hvalid' : (sampledState s slot n cells e).deckValid n = true := by
    rw [State.deckValid, sampledState_reasons_clean hgood hsat hexc]
    exact hvalid
  obtain ⟨hwork, hx⟩ := atReading_worked hvalid' hst ((congrArg Settling.state hsettling).trans hlocked)
      (hoccupancy.trans ho)
  refine ⟨_, hwork, rfl, ?_⟩
  rw [hreading] at hx
  exact ⟨hx.lane, hx.events, hx.clock, hx.ret, hx.power, hx.valid, hx.locked, hx.reading⟩

theorem appendPart_state : ((s.appendPart n r).lane n).state = (s.lane n).state := by
  unfold State.appendPart
  dsimp only
  split <;> simp [State.lane, State.modLane]

theorem discardAged_state : ((s.discardAged n).lane n).state = (s.lane n).state := by
  simp [State.discardAged, State.lane, State.modLane, State.post]

theorem examineCapture_state : ((s.examineCapture n).lane n).state = (s.lane n).state := by
  unfold State.examineCapture
  split
  · rfl
  · split
    · split
      · dsimp only
        split
        · exact appendPart_state.trans discardAged_state
        · exact discardAged_state
      · exact appendPart_state
    · rfl

/-- The entry loop of a lane being weighed on becomes FREE. -/
theorem measureLoop_examines {count : Nat} (hst : (s.lane n).state = .weighing) (hvalid : s.deckValid n = true)
    (hlocked : (s.deck n).settling.state = .locked) (hreading : (s.deck n).reading = some r)
    (hbefore : (s.loop n .entry).report ≠ .free) (hfree : ((measured s n .entry count).loop n .entry).report = .free) :
    AtReading s n r (measured s n .entry count)
      ∧ s.measureLoop n .entry count = (measured s n .entry count).examineCapture n := by
  have hjudged := hfree
  rw [measured_loop] at hjudged
  obtain ⟨hoccupied, hcount⟩ := measured_free_of_not_free
    (l := { s.loop n .entry with latest := some (min count 400001) }) hbefore hjudged
  have hno : faultEvents s n .entry (loopFaultOf (min count 400001) (s.loop n .entry)) = [] := by
    rw [faultEvents_loopFaultOf, if_neg (by rw [show (s.loop n .entry).condition = .occupied from hoccupied]; nofun),
      if_neg fun h => hcount (.inl h), if_neg fun h => hcount (.inr h)]
  have hevents : (measured s n .entry count).events = s.events := by
    exact congrArg (fun es => s.eventsAfter es) hno
  have hx : AtReading s n r (measured s n .entry count) := ⟨rfl, hevents, rfl, rfl, rfl, hvalid, hlocked, hreading⟩
  have hhours : (measured s n .entry count).loopOutOfHours n .entry (s.loop n .entry).report
      = measured s n .entry count :=
    if_neg fun h => hbefore h.2.1
  have hst' : (((measured s n .entry count).examineCapture n).lane n).state = .weighing :=
    (examineCapture_state (s := measured s n .entry count)).trans hst
  refine ⟨hx, ?_⟩
  rw [measureLoop_eq, reportChanged_entry (by rw [hfree]; exact hbefore.symm), hhours, State.laneHears, if_pos hfree]
  exact laneSettle_elsewhere (by rw [hst']; nofun) (by rw [hst']; nofun)

/-- Settles O20: each occasion examines one capture, of the reading that stands. -/
theorem partIsCaptured : Obligations.PartIsCaptured := by
  intro s n k taken meets last empty discarded ready aged
  refine ⟨?_, fun count r hheld hvalid hready hlocked hreading => ?_, ?_⟩
  · intro slot cells e hheld hslot hcells hgood hop hvalid hready w r hlocked hloaded
    have hoccupied : sampleOccupancy s n cells e = .occupied := by
      rw [sampleOccupancy_eq]
      exact if_pos (decide_eq_true hloaded)
    obtain ⟨x, hwork, hloops, hx⟩ := atReading_sample (slot := slot) hgood hvalid hready.1 hlocked hoccupied
    have hloop : x.loop n .entry = s.loop n .entry := congrArg (fun q : Quad LoopPair => (q.get n).entry) hloops
    have hexec := exec_reads hheld hslot hcells hgood hop hvalid
    rw [hwork] at hexec
    refine ⟨_, hexec, rfl, fun hnot => hx.waits hready ?_, fun hmeets hlast => ⟨fun haged => ?_, fun haged htwo => ?_⟩⟩
    · rw [hloop]
      rintro ⟨hmeets, hlast⟩
      rcases hnot with hno | ⟨hk, hfree⟩
      · exact hno hmeets
      · exact hfree (hlast hk)
    · exact hx.takes hready hmeets (by rw [hloop]; exact hlast) haged
    · exact hx.renews hready hmeets (by rw [hloop]; exact hlast) haged fun hk => by omega
  · refine ⟨_, congrArg Host.Outcome.next (whileRunning_of_running hheld _), fun hbefore hafter => ?_⟩
    rw [measureLoop_eq, reportChanged_loop] at hafter
    obtain ⟨hx, hexamines⟩ := measureLoop_examines hready.1 hvalid hlocked hreading hbefore hafter
    rw [hexamines]
    exact ⟨fun hno => hx.waits hready fun h => hno h.1, fun hmeets => hx.takes hready hmeets fun _ => hafter,
      fun hmeets haged => hx.renews hready hmeets (fun _ => hafter) haged fun _ => hafter⟩
  · intro hnone l
    refine ⟨enterWeighing_none, fun r hr => ?_⟩
    by_cases h : capturesAtEntry s n k r
    · refine (enterWeighing_takes hnone hr h).trans ?_
      exact congrArg (fun a => { s with lanes := s.lanes.set n a }) (if_pos h).symm
    · refine (enterWeighing_waits hnone hr h).trans ?_
      exact congrArg (fun a => { s with lanes := s.lanes.set n a }) (if_neg h).symm

end Sys2Proof.Proofs
end

section
/-! O35: token frames at the reader ports (R92 to R99, R117). -/

namespace Sys2Proof.Proofs
open Sys2Proof Sys2Proof.Machine

variable {s t : State} {n : Lane} {side : ReaderSide} {x : Token}

/-! ### The bytes of a token -/

theorem tokenOf_tokenBytes (x : Token) : tokenOf (tokenBytes x) = x := by
  have hx := x.isLt
  refine BitVec.eq_of_toNat_eq ?_
  simp only [tokenOf, tokenBytes, u32, List.cons_append, List.nil_append, List.foldl_cons, List.foldl_nil,
    BitVec.toNat_ofNat]
  omega

theorem tokenBytes_tokenOf {bs : List Byte} (h : bs.length = 8) : tokenBytes (tokenOf bs) = bs := by
  obtain ⟨a, b, c, d, e, f, g, k, rfl⟩ : ∃ a b c d e f g k, bs = [a, b, c, d, e, f, g, k] := by
    match bs, h with
    | [a, b, c, d, e, f, g, k], _ => exact ⟨a, b, c, d, e, f, g, k, rfl⟩
  have := a.isLt; have := b.isLt; have := c.isLt; have := d.isLt
  have := e.isLt; have := f.isLt; have := g.isLt; have := k.isLt
  simp only [tokenOf, tokenBytes, u32, List.cons_append, List.nil_append, List.foldl_cons, List.foldl_nil,
    BitVec.toNat_ofNat, List.cons.injEq, and_true]
  refine ⟨?_, ?_, ?_, ?_, ?_, ?_, ?_, ?_⟩ <;>
  · refine BitVec.eq_of_toNat_eq ?_
    rw [BitVec.toNat_ofNat]
    omega

theorem tokenBytes_length (x : Token) : (tokenBytes x).length = 8 := rfl

theorem frameToken_eq (x : Token) (check : Byte) : frameToken (tokenBytes x ++ [check]) =
    if check.toNat = ((tokenBytes x).map (·.toNat)).sum % 256 then some x else none := by
  have htake : (tokenBytes x ++ [check]).take 8 = tokenBytes x := rfl
  have hdrop : (tokenBytes x ++ [check]).drop 8 = [check] := rfl
  rw [frameToken, hdrop, htake, tokenOf_tokenBytes]
  rfl

/-! ### The checks of an approach read (R95, R140 to R143) -/

theorem resolve_none (h : s.vehicleOf x = none) : s.resolve n x =
    if (s.laneSettings n).policy.admitUnknown = false then .fails .unknownVehicle
    else if 512 ≤ s.ret.ident.vehicles.length then .fails .tableFull
    else if s.ret.settings.learnLimit ≤ s.ret.ident.provisional then .fails .learnLimit
    else .creates (s.provisionalEntry n x) := by
  unfold State.resolve
  rw [h]
  simp only [Bool.not_eq_true']
  rfl

theorem resolve_some {v : Vehicle} (h : s.vehicleOf x = some v) : s.resolve n x = .found v := by
  unfold State.resolve
  rw [h]

/-- What an entry's pre-check asks of a site and lane that are not CLOSED. -/
theorem itemOne_eq : s.itemOne n =
    if s.ret.settings.siteMode = .closed then some .siteClosed
    else if (s.lane n).state = .closed then some .laneClosed
    else if (s.laneSettings n).policy.direction = .outward then some .wrongDirection else none := by
  simp only [State.itemOne, firstFailure, State.siteClosed, decide_eq_true_eq]

theorem entryPrecheck_eq : s.entryPrecheck n x =
    if (s.lane n).state = .closed then some .laneClosed
    else if s.ret.settings.siteMode = .closed then some .siteClosed
    else if (s.laneSettings n).policy.direction = .outward then some .wrongDirection
    else match s.resolve n x with
      | .fails r => some r
      | .found v => s.itemsTwoToSeven n v none
      | .creates v => s.itemsTwoToSeven n v none := by
  unfold State.entryPrecheck
  rw [itemOne_eq]
  by_cases hlane : (s.lane n).state = .closed
  · rw [if_pos hlane, if_pos hlane]
  · rw [if_neg hlane, if_neg hlane, if_neg hlane]
    by_cases hsite : s.ret.settings.siteMode = .closed
    · rw [if_pos hsite, if_pos hsite]
    · rw [if_neg hsite, if_neg hsite]
      by_cases hdir : (s.laneSettings n).policy.direction = .outward
      · rw [if_pos hdir, if_pos hdir]
      · rw [if_neg hdir, if_neg hdir] <;> rfl

/-! ### A reader's port -/

theorem modPort_eq (f : ReaderPort → ReaderPort) :
    s.modPort n side f = { s with readers := s.withPort n side (f (s.readerPort n side)) } := by
  cases side <;> rfl

theorem modPort_port (f : ReaderPort → ReaderPort) :
    (s.modPort n side f).readerPort n side = f (s.readerPort n side) := by
  cases side <;> simp [State.modPort, State.modReaders, State.readerPort]

theorem modPort_modPort (f g : ReaderPort → ReaderPort) :
    (s.modPort n side f).modPort n side g = s.modPort n side (fun p => g (f p)) := by
  cases side <;> simp [State.modPort, State.modReaders]

theorem modPort_self {f : ReaderPort → ReaderPort} (h : f (s.readerPort n side) = s.readerPort n side) :
    s.modPort n side f = s := by
  have hkept : s.withPort n side (s.readerPort n side) = s.readers := by
    cases side <;> exact quad_upd_self rfl
  rw [modPort_eq, h, hkept]

/-- Bytes short of a frame are gathered. -/
theorem gather_short {bytes : List Byte} (h : (s.readerPort n side).gathered.length + bytes.length < 9) :
    s.gather n side bytes = s.modPort n side fun p => { p with gathered := p.gathered ++ bytes } := by
  induction bytes generalizing s with
  | nil => exact (modPort_self (by rw [List.append_nil])).symm
  | cons b bytes ih =>
    have hone : s.gatherByte n side b = s.modPort n side fun p => { p with gathered := p.gathered ++ [b] } := by
      unfold State.gatherByte
      dsimp only
      rw [if_pos (by simp only [List.length_append, List.length_cons, List.length_nil] at h ⊢; omega), modPort_eq,
        modPort_eq]
    show (s.gatherByte n side b).gather n side bytes = _
    rw [hone, ih, modPort_modPort]
    · simp only [List.append_assoc, List.singleton_append]
    · rw [modPort_port]
      simp only [List.length_append, List.length_cons, List.length_nil] at h ⊢
      omega

/-- Nine bytes make a frame. -/
theorem gather_frame {bytes code : List Byte} {check : Byte} (hcode : code.length = 8) (hne : bytes ≠ [])
    (h : (s.readerPort n side).gathered ++ bytes = code ++ [check]) :
    s.gather n side bytes = (match frameToken (code ++ [check]) with
      | none => s.modPort n side fun p => { p with gathered := [] }
      | some x => (s.modPort n side fun p => { p with gathered := [] }).readToken n side x) := by
  obtain ⟨front, last, rfl⟩ := (List.eq_nil_or_concat' bytes).resolve_left hne
  rw [← List.append_assoc] at h
  obtain ⟨hfront, hlast⟩ := List.append_inj' h rfl
  cases hlast
  have hshort : (s.readerPort n side).gathered.length + front.length < 9 := by
    rw [← List.length_append, hfront, hcode]
    decide
  have hsplit : s.gather n side (front ++ [check]) = (s.gather n side front).gatherByte n side check :=
    List.foldl_append
  rw [hsplit, gather_short hshort, State.gatherByte]
  simp only [modPort_port, hfront, modPort_modPort]
  rw [if_neg (by rw [List.length_append, hcode]; exact Nat.lt_irrefl 9)] <;> rfl

/-! ### A token read -/

theorem inList_iff {es : List WaitEntry} : inList x es = true ↔ x ∈ es.map (·.token) := by
  simp only [inList, List.any_eq_true, beq_iff_eq, List.mem_map]

theorem dropEntry_of_not_mem {es : List WaitEntry} (h : x ∉ es.map (·.token)) :
    es.filter (fun e => e.token != x) = es := by
  refine List.filter_eq_self.mpr fun e he => bne_iff_ne.mpr fun hx => h ?_
  exact hx ▸ List.mem_map_of_mem he

/-- The lists with a token's entry moved to the end of its own. -/
def joinedLists (s : State) (n : Lane) (e : WaitEntry) : Quad (List WaitEntry) :=
  Quad.ofFn fun m => (s.list m).filter (fun f => f.token != e.token) ++ if m = n then [e] else []

theorem joinedLists_eq (e : WaitEntry) :
    (s.lists.map (dropEntry e.token)).upd n (fun es => es ++ [e]) = joinedLists s n e := by
  refine Quad.ext_get fun m => ?_
  rw [joinedLists, Quad.get_ofFn, Quad.get_upd, Quad.get_map]
  by_cases hm : m = n
  · rw [if_pos hm, if_pos hm]
    rfl
  · rw [if_neg hm, if_neg hm, List.append_nil]
    rfl

/-- What the pre-check of an approach read posts. -/
def precheckEvents (s : State) (n : Lane) (x : Token) : List Event :=
  match s.precheck n x with
  | some r => [s.event .precheckFail (some n) (.token x) (.reason r)]
  | none => []

/-- The entry of an approach read. -/
def approachEntry (s : State) (n : Lane) (x : Token) : WaitEntry :=
  ⟨x, s.now, 0, if (s.visitNaming x).isSome then .exit else .entry, s.precheck n x⟩

theorem approachRead_eq : s.approachRead n x =
    if x ∈ (s.list n).map (·.token) then s
    else if (s.laneSettings n).depth ≤ (s.list n).length then
      s.posted [s.event .queueFull (some n) (.token x) .none] s
    else s.posted (precheckEvents s n x) { s with lists := joinedLists s n (approachEntry s n x) } := by
  unfold State.approachRead
  simp only [inList_iff]
  by_cases hlisted : x ∈ (s.list n).map (·.token)
  · rw [if_pos hlisted, if_pos hlisted]
  · rw [if_neg hlisted, if_neg hlisted]
    by_cases hfull : (s.laneSettings n).depth ≤ (s.list n).length
    · rw [if_pos hfull, if_pos hfull]
      rfl
    · rw [if_neg hfull, if_neg hfull, ← joinedLists_eq]
      have hcheck : (s.unlist x).precheck n x = s.precheck n x := rfl
      unfold State.joinList precheckEvents
      dsimp only
      rw [hcheck]
      cases hr : s.precheck n x with
      | none =>
        rw [show approachEntry s n x = ⟨x, s.now, 0, s.directionOf x, none⟩ by rw [approachEntry, hr]; rfl]
        rfl
      | some r =>
        rw [show approachEntry s n x = ⟨x, s.now, 0, s.directionOf x, some r⟩ by rw [approachEntry, hr]; rfl]
        rfl

/-- A frame whose check byte agrees and whose token is not locked out is accepted. -/
theorem readToken_accepts (h : ¬((s.readerPort n side).last = some x ∧ (s.readerPort n side).lockout < 10)) :
    s.readToken n side x = s.acceptRead n side x := by
  refine if_neg fun hl => h ?_
  simpa only [lockedOut, Bool.and_eq_true, decide_eq_true_eq] using hl

theorem readToken_ignores (h : (s.readerPort n side).last = some x ∧ (s.readerPort n side).lockout < 10) :
    s.readToken n side x = s :=
  if_pos (by simpa only [lockedOut, Bool.and_eq_true, decide_eq_true_eq] using h)

theorem gather_keeps {bytes : List Byte} : Keeps
    { readers := true, lists := true, ident := true, events := true, lanes := true, settings := true, barriers := true }
    s (s.gather n side bytes) := keeps_gather rfl rfl rfl rfl rfl rfl rfl

/-- Settles O35: the bytes of a frame are gathered one by one, and its token is then read. -/
theorem tokenFramesRead : Obligations.TokenFramesRead := by
  refine ⟨fun bs h => ⟨tokenOf bs, tokenBytes_tokenOf h⟩, ?_, fun s t n side a b hrun => ?_, ?_⟩
  · intro s n x policy fresh
    unfold State.precheck
    cases s.visitNaming x with
    | some v => rfl
    | none =>
      rw [entryPrecheck_eq]
      cases hv : s.vehicleOf x with
      | some v => rw [resolve_some hv]
      | none =>
        rw [resolve_none hv]
        split_ifs <;> rfl
  · obtain rfl : s.whileRunning (s.gather n side a) = t := Host.Outcome.next.inj hrun
    have happend : s.gather n side (a ++ b) = (s.gather n side a).gather n side b := List.foldl_append
    by_cases hheld : s.power.held = none
    · have hpower : (s.gather n side a).power = s.power :=
        (gather_keeps (s := s) (n := n) (side := side) (bytes := a)).power rfl
      rw [whileRunning_of_running hheld]
      refine congrArg Host.Outcome.next ?_
      rw [whileRunning_of_running hheld, whileRunning_of_running (by rw [hpower]; exact hheld), happend]
    · have hstill : ∀ u : State, s.whileRunning u = s := fun u => whileRunning_of_held hheld u
      rw [hstill]
      exact congrArg Host.Outcome.next ((hstill _).trans (hstill _).symm)
  · intro s n side hheld port cleared
    have hrun : ∀ bytes, exec (.tokenFrame n side bytes) s = .next (s.gather n side bytes) := fun bytes =>
      congrArg Host.Outcome.next (whileRunning_of_running hheld _)
    refine ⟨congrArg Host.Outcome.next ((whileRunning_of_running hheld _).trans (modPort_eq _)),
        fun bytes hshort => ?_, ?_⟩
    · rw [hrun, gather_short hshort, modPort_eq]
    · intro bytes x check hbytes hne frame repeated u r
      have hgathered := gather_frame (tokenBytes_length x) hne hbytes
      rw [frameToken_eq] at hgathered
      have hcleared : (s.modPort n side fun p => { p with gathered := [] })
          = { s with readers := s.withPort n side cleared } := modPort_eq _
      have hport : (s.modPort n side fun p => { p with gathered := [] }).readerPort n side = cleared := modPort_port _
      refine ⟨fun hcheck => ?_, fun hcheck hrepeated => ?_, fun hcheck hnew => ?_⟩
      · rw [hrun, hgathered, if_neg hcheck, hcleared]
      · rw [hrun, hgathered, if_pos hcheck]
        exact congrArg Host.Outcome.next ((readToken_ignores (by rw [hport]; exact hrepeated)).trans hcleared)
      · rw [hrun, hgathered, if_pos hcheck]
        refine congrArg Host.Outcome.next ((readToken_accepts (by rw [hport]; exact hnew)).trans ?_)
        have hu : ((s.modPort n side fun p => { p with gathered := [] }).modPort n side
            fun p => { p with last := some x, lockout := 0 }) = u := by
          rw [modPort_modPort, modPort_eq]
        unfold State.acceptRead
        dsimp only
        rw [hu]
        have hclosed : u.siteClosed = true ↔ s.ret.settings.siteMode = .closed := decide_eq_true_iff
        by_cases hsite : s.ret.settings.siteMode = .closed
        · rw [if_pos hsite, if_pos (hclosed.mpr hsite)]
          rfl
        · rw [if_neg hsite, if_neg fun h => hsite (hclosed.mp h)]
          cases side with
          | deck => rfl
          | approach => exact approachRead_eq

end Sys2Proof.Proofs
end

section
/-! O36: the identification of a token, and the IDENT record (R104 to R106, R140 to R143). -/

namespace Sys2Proof.Proofs
open Sys2Proof Sys2Proof.Machine

variable {s u : State} {n : Lane} {x : Token} {h : RecHead} {src : Source} {stream : Option (Fin 8)}
  {kind : Option Kind}

/-! ### The checks, item by item -/

theorem exitChecks_eq (v : Visit) : s.exitChecks n v =
    if (s.lane n).state = .closed then some .laneClosed
    else if (s.laneSettings n).policy.direction = .inward then some .wrongDirection
    else if v.state ≠ .onSite then some .wrongState else none := by
  simp only [State.exitChecks, firstFailure, decide_eq_true_eq]

theorem identFields_eq_some {i : IdentItem} : identFields i = some (stream, kind) ↔
    optStreamOf i.stream = some stream ∧ optKindOf i.kind = some kind := by
  unfold identFields
  cases optStreamOf i.stream <;> cases optKindOf i.kind <;> simp

theorem optKindOf_eq_some {b : Byte} : optKindOf b = some kind ↔ b.toNat = match kind with
    | none => 0
    | some .delivery => 1
    | some .collection => 2 := by
  unfold optKindOf
  by_cases hb : b.toNat = 0
  · rw [if_pos hb]
    rcases kind with _ | _ | _ <;> simp [hb]
  · rw [if_neg hb, Option.map_eq_some_iff]
    simp only [kindOf_eq_some]
    rcases kind with _ | _ | _ <;> simp [hb]

/-! ### The lane's entry into WEIGHING looks at neither the port nor the queue -/

theorem enterWeighing_busy {k : Nat} (hbusy : (s.lane n).heldWeighing ≠ none) :
    s.enterWeighing n k = weighingState s n k := by
  have hnot : ∀ r, ¬(weighingState s n k).captureReady n r = true := by
    intro r hready
    obtain ⟨-, hnone, -⟩ := captureReady_iff.mp hready
    rw [weighingState_lane] at hnone
    exact hbusy hnone
  show (weighingState s n k).examineCapture n = _
  unfold State.examineCapture
  split
  · rfl
  · exact if_neg (hnot _)

theorem onPort_enterWeighing {p : LinkPort} {q : EventQueue} {k : Nat} :
    (onPort s p q).enterWeighing n k = onPort (s.enterWeighing n k) p q := by
  by_cases hnone : (s.lane n).heldWeighing = none
  · cases hreading : (s.deck n).reading with
    | none =>
      rw [enterWeighing_none (s := s) hreading, enterWeighing_none (s := onPort s p q) hreading]
      rfl
    | some r =>
      by_cases hc : capturesAtEntry s n k r
      · rw [enterWeighing_takes (s := s) hnone hreading hc, enterWeighing_takes (s := onPort s p q) hnone hreading hc]
        rfl
      · rw [enterWeighing_waits (s := s) hnone hreading hc, enterWeighing_waits (s := onPort s p q) hnone hreading hc]
        rfl
  · rw [enterWeighing_busy (s := s) hnone, enterWeighing_busy (s := onPort s p q) hnone]
    rfl

theorem posted_enterWeighing {es : List Event} {k : Nat} :
    (s.posted es u).enterWeighing n k = s.posted es (u.enterWeighing n k) := by
  have hlink : (u.enterWeighing n k).link = u.link :=
    (keeps_enterWeighing (p := { lanes := true, events := true }) rfl rfl).link rfl
  refine (onPort_enterWeighing (s := u) (n := n) (p := u.link) (q := s.eventsAfter es) (k := k)).trans ?_
  rw [← hlink]
  rfl

/-! ### A token identified -/

/-- The entries passed over as a token leaves its own list. -/
def passedOver (s : State) (n : Lane) (x : Token) : List WaitEntry :=
  if x ∈ (s.list n).map (·.token) then (s.list n).takeWhile fun e => e.token != x else []

def skipEvents (s : State) (n : Lane) (x : Token) : List Event :=
  (passedOver s n x).map fun e => s.event .queueSkipped (some n) (.token e.token) .none

/-- The lists without the token. -/
def leftLists (s : State) (n : Lane) (x : Token) : Quad (List WaitEntry) :=
  if x ∈ (s.list n).map (·.token) then s.lists.set n ((s.list n).drop ((passedOver s n x).length + 1))
  else s.lists.map fun es => es.filter fun e => e.token != x

/-- The identities with the token's entry used now. -/
def usedIdent (s : State) (x : Token) : Identities :=
  { s.ret.ident with
    vehicles := s.ret.ident.vehicles.map fun v => if v.token = x then { v with lastUse := s.now } else v }

/-- The state with the token identified, before its checks. -/
def identifiedState (s : State) (n : Lane) (x : Token) (src : Source) (stream : Option (Fin 8)) (kind : Option Kind) :
    State :=
  { s.storing { s.ret with ident := usedIdent s x } with
    lists := leftLists s n x
    lanes := s.lanes.set n
      { s.lane n with identity := some ⟨x, if (s.visitNaming x).isSome then .exit else .entry, stream, kind, src⟩ } }

theorem postSkipped_eq (es : List WaitEntry) (fs : List Event) (hnow : u.now = s.now) :
    (s.posted fs u).postSkipped n es
      = s.posted (fs ++ es.map fun e => s.event .queueSkipped (some n) (.token e.token) .none) u := by
  induction es generalizing fs with
  | nil => rw [List.map_nil, List.append_nil]; rfl
  | cons e es ih =>
    rw [State.postSkipped, posted_post hnow, ih, List.append_assoc]
    rfl

theorem postSkipped_from (es : List WaitEntry) (hnow : u.now = s.now) (hevents : u.events = s.events) :
    u.postSkipped n es = s.posted (es.map fun e => s.event .queueSkipped (some n) (.token e.token) .none) u := by
  have hu : u = s.posted [] u := congrArg (fun q => { u with events := q }) hevents
  conv_lhs => rw [hu]
  exact postSkipped_eq es [] hnow

theorem drop_dropWhile (es : List WaitEntry) (p : WaitEntry → Bool) :
    (es.dropWhile p).drop 1 = es.drop ((es.takeWhile p).length + 1) := by
  conv_rhs => rw [← List.takeWhile_append_dropWhile (p := p) (l := es)]
  rw [List.drop_append]
  simp

theorem settlePlace_eq : s.settlePlace n x = s.posted (skipEvents s n x) { s with lists := leftLists s n x } := by
  unfold State.settlePlace skipEvents leftLists passedOver
  simp only [inList_iff]
  by_cases hlisted : x ∈ (s.list n).map (·.token)
  · simp only [if_pos hlisted]
    have hgone : (s.modList n fun es => (es.dropWhile fun e => e.token != x).drop 1) = { s with
        lists := s.lists.set n ((s.list n).drop (((s.list n).takeWhile fun e => e.token != x).length + 1)) } := by
      rw [State.modList, Quad.upd, drop_dropWhile]
      rfl
    rw [hgone]
    exact postSkipped_from _ rfl rfl
  · simp only [if_neg hlisted]
    rfl

theorem identify_checks : s.identify n x src stream kind =
    (s.posted (skipEvents s n x) (identifiedState s n x src stream kind)).freshCheck n x stream := by
  unfold State.identify
  dsimp only
  rw [settlePlace_eq]
  rfl

/-! ### What the checks come to -/

/-- The token refused. -/
def refusedAt (s : State) (n : Lane) (x : Token) (u : State) (r : Reason) : State :=
  s.posted (skipEvents s n x ++ [s.refusal n x r]) (u.enterRefused n r)

/-- The token let on to be weighed. -/
def weighedAt (s : State) (n : Lane) (x : Token) (u : State) (c : Fin 16) : State :=
  s.posted (skipEvents s n x) (u.enterWeighing n (s.cls c).parts)

/-- The state with an entry made for an unknown token. -/
def createdState (s : State) (n : Lane) (x : Token) (u : State) : State :=
  u.storing { u.ret with
    ident := { u.ret.ident with
      vehicles := putVehicle (s.provisionalEntry n x) u.ret.ident.vehicles
      provisional := s.ret.ident.provisional + 1 } }

/-- The lane with the visit of its token. -/
def visitedState (u : State) (n : Lane) (k : Nat) : State :=
  { u with lanes := u.lanes.set n { u.lane n with visit := some k } }

/-- What an identification leaves of what the checks look at. -/
structure Unchecked (s u : State) : Prop where
  now : u.now = s.now
  cls : ∀ c, u.cls c = s.cls c
  items : ∀ n v o, u.itemsTwoToSeven n v o = s.itemsTwoToSeven n v o

theorem refuse_at (hu : u.now = s.now) (r : Reason) :
    (s.posted (skipEvents s n x) u).refuse n x r = refusedAt s n x u r := by
  have hrefused : (s.posted (skipEvents s n x) u).postRefused n x r
      = s.posted (skipEvents s n x ++ [s.refusal n x r]) u :=
    posted_post hu ..
  rw [State.refuse, hrefused, posted_enterRefused]
  rfl

theorem freshEntry_at {v : Vehicle} (hu : Unchecked s u) (hv : v.token = x) :
    (s.posted (skipEvents s n x) u).freshEntry n v stream = (match s.itemsTwoToSeven n v stream with
      | some r => refusedAt s n x u r
      | none => weighedAt s n x u v.cls) := by
  have hitems : (s.posted (skipEvents s n x) u).itemsTwoToSeven n v stream = s.itemsTwoToSeven n v stream :=
    hu.items n v stream
  have hcls : (s.posted (skipEvents s n x) u).cls v.cls = s.cls v.cls := hu.cls v.cls
  unfold State.freshEntry
  rw [hitems, hcls, posted_enterWeighing, hv]
  cases s.itemsTwoToSeven n v stream with
  | some r => exact refuse_at hu.now r
  | none => rfl

theorem identified_unchecked : Unchecked s (identifiedState s n x src stream kind) :=
    ⟨rfl, fun _ => rfl, fun _ _ _ => rfl⟩

theorem created_unchecked : Unchecked s (createdState s n x (identifiedState s n x src stream kind)) :=
  ⟨rfl, fun _ => rfl, fun _ _ _ => rfl⟩

/-- What the identification of an unknown token comes to. -/
def strangerEnds (s : State) (n : Lane) (x : Token) (stream : Option (Fin 8)) (u : State) : State :=
  if (s.laneSettings n).policy.admitUnknown = false then refusedAt s n x u .unknownVehicle
  else if 512 ≤ s.ret.ident.vehicles.length then refusedAt s n x u .tableFull
  else if s.ret.settings.learnLimit ≤ s.ret.ident.provisional then refusedAt s n x u .learnLimit
  else match s.itemsTwoToSeven n (s.provisionalEntry n x) stream with
    | some r => refusedAt s n x (createdState s n x u) r
    | none => weighedAt s n x (createdState s n x u) (s.laneSettings n).policy.cls

/-- What the identification of a token of an open visit comes to. -/
def leaverEnds (s : State) (n : Lane) (x : Token) (v : Visit) (u : State) : State :=
  match s.exitChecks n v with
  | some r => refusedAt s n x u r
  | none => weighedAt s n x (visitedState u n v.number) v.cls

/-- What the identification of a known token comes to. -/
def knownEnds (s : State) (n : Lane) (x : Token) (v : Vehicle) (stream : Option (Fin 8)) (u : State) : State :=
  match s.itemsTwoToSeven n v stream with
  | some r => refusedAt s n x u r
  | none => weighedAt s n x u v.cls

/-- What the identification of a token without a visit comes to. -/
def comerEnds (s : State) (n : Lane) (x : Token) (stream : Option (Fin 8)) (u : State) : State :=
  if s.ret.settings.siteMode = .closed then refusedAt s n x u .siteClosed
  else if (s.lane n).state = .closed then refusedAt s n x u .laneClosed
  else if (s.laneSettings n).policy.direction = .outward then refusedAt s n x u .wrongDirection
  else match s.vehicleOf x with
    | some v => knownEnds s n x v stream u
    | none => strangerEnds s n x stream u

section
variable {y : State}

theorem posted_identified_state : ((s.posted (skipEvents s n x) (identifiedState s n x src stream kind)).lane n).state
    = (s.lane n).state := by
  simp only [State.posted, identifiedState, State.lane, Quad.get_set_self]

theorem exitChecks_congr {v : Visit} (hstate : (y.lane n).state = (s.lane n).state)
    (hsettings : y.laneSettings n = s.laneSettings n) : y.exitChecks n v = s.exitChecks n v := by
  rw [exitChecks_eq, exitChecks_eq, hstate, hsettings]

theorem itemOne_congr (hstate : (y.lane n).state = (s.lane n).state) (hsettings : y.ret.settings = s.ret.settings) :
    y.itemOne n = s.itemOne n := by
  rw [itemOne_eq, itemOne_eq, hstate, State.laneSettings, hsettings]
  rfl

end

theorem identified_vehicleOf : (identifiedState s n x src stream kind).vehicleOf x
    = (s.vehicleOf x).map fun v => if v.token = x then { v with lastUse := s.now } else v := by
  show List.find? _ (List.map _ _) = _
  rw [List.find?_map]
  refine congrArg (Option.map _) (congrArg (fun f => List.find? f _) (funext fun v => ?_))
  by_cases hv : v.token = x <;> simp [hv]

/-- The checks of a token that has been identified. -/
theorem freshCheck_leaver {v : Visit} (hv : s.visitNaming x = some v) :
    (s.posted (skipEvents s n x) (identifiedState s n x src stream kind)).freshCheck n x stream
      = leaverEnds s n x v (identifiedState s n x src stream kind) := by
  obtain ⟨u, hu⟩ : ∃ u, u = identifiedState s n x src stream kind := ⟨_, rfl⟩
  have hchecks : (s.posted (skipEvents s n x) u).exitChecks n v = s.exitChecks n v := by
    rw [hu]
    exact exitChecks_congr posted_identified_state rfl
  have hcls : ((s.posted (skipEvents s n x) u).cls v.cls) = s.cls v.cls := by rw [hu]; rfl
  have hvisit : (s.posted (skipEvents s n x) u).visitNaming x = some v := by rw [hu]; exact hv
  rw [← hu]
  unfold State.freshCheck leaverEnds
  rw [hvisit]
  dsimp only
  rw [hchecks, hcls]
  cases s.exitChecks n v with
  | some r => exact refuse_at (by rw [hu]; rfl) r
  | none => exact posted_enterWeighing (u := visitedState u n v.number)

theorem freshCheck_comer (hv : s.visitNaming x = none) :
    (s.posted (skipEvents s n x) (identifiedState s n x src stream kind)).freshCheck n x stream
      = comerEnds s n x stream (identifiedState s n x src stream kind) := by
  obtain ⟨u, hu⟩ : ∃ u, u = identifiedState s n x src stream kind := ⟨_, rfl⟩
  have hvisit : (s.posted (skipEvents s n x) u).visitNaming x = none := by rw [hu]; exact hv
  have hitem : (s.posted (skipEvents s n x) u).itemOne n = s.itemOne n := by
    rw [hu]
    exact itemOne_congr posted_identified_state rfl
  have hnow : u.now = s.now := by rw [hu]; rfl
  have hvehicle : (s.posted (skipEvents s n x) u).vehicleOf x
      = (s.vehicleOf x).map fun v => if v.token = x then { v with lastUse := s.now } else v := by
    rw [hu]
    exact identified_vehicleOf (n := n) (src := src) (stream := stream) (kind := kind)
  have hunchecked : Unchecked s u := by rw [hu]; exact identified_unchecked
  have hcreated : Unchecked s (createdState s n x u) := by rw [hu]; exact created_unchecked
  rw [← hu]
  unfold State.freshCheck comerEnds
  rw [hvisit]
  dsimp only
  rw [hitem, itemOne_eq]
  by_cases hsite : s.ret.settings.siteMode = .closed
  · rw [if_pos hsite, if_pos hsite]
    exact refuse_at hnow _
  rw [if_neg hsite, if_neg hsite]
  by_cases hlane : (s.lane n).state = .closed
  · rw [if_pos hlane, if_pos hlane]
    exact refuse_at hnow _
  rw [if_neg hlane, if_neg hlane]
  by_cases hdirection : (s.laneSettings n).policy.direction = .outward
  · rw [if_pos hdirection, if_pos hdirection]
    exact refuse_at hnow _
  rw [if_neg hdirection, if_neg hdirection]
  cases hknown : s.vehicleOf x with
  | some v =>
    have htoken : v.token = x := by simpa using List.find?_some hknown
    rw [hknown, Option.map_some, if_pos htoken] at hvehicle
    dsimp only
    rw [resolve_some hvehicle]
    exact freshEntry_at (v := { v with lastUse := s.now }) hunchecked htoken
  | none =>
    rw [hknown, Option.map_none] at hvehicle
    have hlength : (s.posted (skipEvents s n x) u).ret.ident.vehicles.length = s.ret.ident.vehicles.length := by
      rw [hu]
      exact List.length_map ..
    have hpolicy : (s.posted (skipEvents s n x) u).laneSettings n = s.laneSettings n := by rw [hu]; rfl
    have hlimit : (s.posted (skipEvents s n x) u).ret.settings.learnLimit = s.ret.settings.learnLimit := by rw [hu]; rfl
    have hprovisional : (s.posted (skipEvents s n x) u).ret.ident.provisional = s.ret.ident.provisional := by
      rw [hu]
      rfl
    have hfresh : (s.posted (skipEvents s n x) u).provisionalEntry n x = s.provisionalEntry n x := by rw [hu]; rfl
    dsimp only
    rw [resolve_none hvehicle, strangerEnds, hpolicy, hlimit, hlength, hprovisional, hfresh]
    by_cases hadmit : (s.laneSettings n).policy.admitUnknown = false
    · rw [if_pos hadmit, if_pos hadmit]
      exact refuse_at hnow _
    rw [if_neg hadmit, if_neg hadmit]
    by_cases hfull : 512 ≤ s.ret.ident.vehicles.length
    · rw [if_pos hfull, if_pos hfull]
      exact refuse_at hnow _
    rw [if_neg hfull, if_neg hfull]
    by_cases hlearned : s.ret.settings.learnLimit ≤ s.ret.ident.provisional
    · rw [if_pos hlearned, if_pos hlearned]
      exact refuse_at hnow _
    rw [if_neg hlearned, if_neg hlearned]
    have hmade : (s.posted (skipEvents s n x) u).createEntry (s.provisionalEntry n x)
        = s.posted (skipEvents s n x) (createdState s n x u) := by rw [hu]; rfl
    dsimp only
    rw [hmade]
    exact freshEntry_at hcreated rfl

/-! ### An identification under another port -/

section
variable {p : LinkPort}

theorem withLink_refusedAt (r : Reason) :
    refusedAt (withLink s p) n x (withLink u p) r = withLink (refusedAt s n x u r) p := by
  rw [refusedAt, withLink_eq_onPort (s := u), onPort_enterRefused]
  rfl

theorem withLink_weighedAt (c : Fin 16) :
    weighedAt (withLink s p) n x (withLink u p) c = withLink (weighedAt s n x u c) p := by
  rw [weighedAt, withLink_eq_onPort (s := u), onPort_enterWeighing]
  rfl

theorem withLink_leaverEnds (v : Visit) :
    leaverEnds (withLink s p) n x v (withLink u p) = withLink (leaverEnds s n x v u) p := by
  unfold leaverEnds
  rw [show (withLink s p).exitChecks n v = s.exitChecks n v from rfl]
  cases s.exitChecks n v with
  | some r => exact withLink_refusedAt r
  | none => exact withLink_weighedAt (u := visitedState u n v.number) v.cls

theorem withLink_knownEnds (v : Vehicle) :
    knownEnds (withLink s p) n x v stream (withLink u p) = withLink (knownEnds s n x v stream u) p := by
  unfold knownEnds
  rw [show (withLink s p).itemsTwoToSeven n v stream = s.itemsTwoToSeven n v stream from rfl]
  cases s.itemsTwoToSeven n v stream with
  | some r => exact withLink_refusedAt r
  | none => exact withLink_weighedAt v.cls

theorem withLink_strangerEnds :
    strangerEnds (withLink s p) n x stream (withLink u p) = withLink (strangerEnds s n x stream u) p := by
  have hitems : (withLink s p).itemsTwoToSeven n ((withLink s p).provisionalEntry n x) stream
      = s.itemsTwoToSeven n (s.provisionalEntry n x) stream := rfl
  have hcreated : createdState (withLink s p) n x (withLink u p) = withLink (createdState s n x u) p := rfl
  unfold strangerEnds
  rw [hitems, hcreated]
  simp only [withLink_refusedAt, withLink_weighedAt, apply_ite (fun v => withLink v p)]
  cases s.itemsTwoToSeven n (s.provisionalEntry n x) stream <;> rfl

theorem withLink_comerEnds :
    comerEnds (withLink s p) n x stream (withLink u p) = withLink (comerEnds s n x stream u) p := by
  unfold comerEnds
  rw [show (withLink s p).vehicleOf x = s.vehicleOf x from rfl]
  simp only [withLink_refusedAt, withLink_strangerEnds, withLink_knownEnds, apply_ite (fun v => withLink v p)]
  cases s.vehicleOf x <;> rfl

theorem withLink_identify :
    (withLink s p).identify n x src stream kind = withLink (s.identify n x src stream kind) p := by
  have hu : identifiedState (withLink s p) n x src stream kind
      = withLink (identifiedState s n x src stream kind) p := rfl
  rw [identify_checks, identify_checks]
  cases hv : s.visitNaming x with
  | some v => rw [freshCheck_leaver hv, freshCheck_leaver (s := withLink s p) hv, hu, withLink_leaverEnds]
  | none => rw [freshCheck_comer hv, freshCheck_comer (s := withLink s p) hv, hu, withLink_comerEnds]

end

/-- Settles O36: the token leaves the lists, the checks follow, and IDENT does this in OCCUPIED alone. -/
theorem tokenIsIdentified : Obligations.TokenIsIdentified := by
  refine ⟨fun s n v => exitChecks_eq v, fun s n v o => ?_, ?_, fun i stream kind => ?_,
    fun s h n ht hn => ⟨?_, fun i => ⟨fun hbad => ?_, fun stream kind hfields => ?_⟩⟩⟩
  · rw [← streamFor_eq]
    cases hk : s.streamFor v o with
    | none => exact itemsTwoToSeven_none hk
    | some k => exact itemsTwoToSeven_some hk
  · intro s n x src stream kind listed skipped skips exits u refused weighed policy fresh created
    rw [identify_checks]
    cases hv : s.visitNaming x with
    | some v => exact freshCheck_leaver hv
    | none => exact freshCheck_comer hv
  · rw [identFields_eq_some, optStreamOf_eq_some, optKindOf_eq_some] <;> rfl
  · exact congrArg Host.Outcome.next (takeLane_refuses ht hn fun _ _ => rfl)
  · refine congrArg Host.Outcome.next (takeLane_refuses ht hn fun p q => ?_)
    unfold State.idents
    dsimp only
    rw [hbad]
  · refine congrArg Host.Outcome.next ?_
    by_cases hoccupied : (s.lane n).state = .occupied
    · rw [if_pos hoccupied]
      refine takeLane_acknowledges ht hn fun p => ?_
      unfold State.idents
      dsimp only
      rw [hfields]
      dsimp only
      rw [if_pos (show ((withLink s.heard p).lane n).state = .occupied from hoccupied), withLink_identify]
      rfl
    · rw [if_neg hoccupied]
      refine takeLane_refuses ht hn fun p q => ?_
      unfold State.idents
      dsimp only
      rw [hfields]
      exact if_neg hoccupied

end Sys2Proof.Proofs
end

section
/-! O37: one second of site time (R31, R41, R70 to R74, R100, R111, R150, R196). -/

namespace Sys2Proof.Proofs
open Sys2Proof Sys2Proof.Machine

variable {s t u : State} {n m : Lane} {r : Reading}

/-! ### Zero tracking (R31) -/

/-- The reading that the zero of a deck follows. -/
def trackedReading (s : State) (n : Lane) : Option Reading := (s.deck n).reading.filter (s.tracks n)

/-- The zero offset that a reading asks for. -/
def askedZero (s : State) (n : Lane) (r : Reading) : Int := (s.cal n).z + r.f

/-- The zero offset that it gets, held within the limit. -/
def trackedZero (s : State) (n : Lane) (r : Reading) : Int :=
  max (-(s.zeroBound n : Int)) (min (s.zeroBound n : Int) (askedZero s n r))

/-- The deck as its zero follows a reading. -/
def movedDeck (s : State) (n : Lane) (r : Reading) : Deck :=
  { s.deck n with
    settling := shiftAnchor (s.deck n).settling (trackedZero s n r - (s.cal n).z)
    zeroMarker :=
      if trackedZero s n r ≠ askedZero s n r then true
      else if (askedZero s n r).natAbs < s.zeroBound n then false else (s.deck n).zeroMarker }

/-- What it posts: ZERO_LIMIT, once. -/
def movedEvents (s : State) (n : Lane) (r : Reading) : List Event :=
  if trackedZero s n r ≠ askedZero s n r ∧ (s.deck n).zeroMarker = false then
    [s.event .zeroLimit (some n) .none
      (.limitSide (if (s.zeroBound n : Int) < askedZero s n r then .upper else .lower))]
  else []

/-- The state with the zero of a deck moved. -/
def movedState (s : State) (n : Lane) (r : Reading) : State :=
  { s.storing { s.ret with cal := s.ret.cal.set n { s.cal n with z := trackedZero s n r } } with
    decks := s.decks.set n (movedDeck s n r) }

theorem clampInt_bound (b : Nat) (z : Int) : clampInt (-(b : Int)) b z = max (-(b : Int)) (min (b : Int) z) := by
  unfold clampInt
  split
  · omega
  · split <;> omega

theorem trackedZero_within (h : ¬(askedZero s n r < -(s.zeroBound n : Int) ∨ (s.zeroBound n : Int) < askedZero s n r)) :
    trackedZero s n r = askedZero s n r := by
  unfold trackedZero
  omega

theorem trackedZero_past (h : askedZero s n r < -(s.zeroBound n : Int) ∨ (s.zeroBound n : Int) < askedZero s n r) :
    trackedZero s n r ≠ askedZero s n r ∧ ¬(trackedZero s n r).natAbs < s.zeroBound n := by
  unfold trackedZero
  omega

theorem trackZero_none (h : trackedReading s n = none) : s.trackZero n = s := by
  unfold State.trackZero
  unfold trackedReading at h
  cases hr : (s.deck n).reading with
  | none => rfl
  | some r =>
    rw [hr, Option.filter_some] at h
    refine if_neg fun ht => ?_
    rw [if_pos ht] at h
    cases h

theorem trackZero_some (h : trackedReading s n = some r) :
    s.trackZero n = s.posted (movedEvents s n r) (movedState s n r) := by
  obtain ⟨hr, ht⟩ := Option.filter_eq_some_iff.mp h
  unfold State.trackZero
  rw [hr]
  dsimp only
  rw [if_pos ht, show (s.cal n).z + r.f = askedZero s n r from rfl, movedState, movedDeck]
  by_cases hpast : askedZero s n r < -(s.zeroBound n : Int) ∨ (s.zeroBound n : Int) < askedZero s n r
  · obtain ⟨hne, hmarker⟩ := trackedZero_past hpast
    have hclamped : clampInt (-(s.zeroBound n : Int)) (s.zeroBound n) (askedZero s n r)
        = trackedZero s n r := clampInt_bound _ _
    rw [if_pos hpast, if_pos hne, hclamped, moveZero_eq, if_neg hmarker]
    by_cases hset : (s.deck n).zeroMarker = true
    · have hquiet : movedEvents s n r = [] := if_neg fun h => Bool.false_ne_true (h.2.symm.trans hset)
      rw [if_pos hset, hquiet, hset]
      rfl
    · have hposts : movedEvents s n r = [s.event .zeroLimit (some n) .none
          (.limitSide (if (s.zeroBound n : Int) < askedZero s n r then .upper else .lower))] :=
        if_pos ⟨hne, Bool.eq_false_iff.mpr hset⟩
      rw [if_neg hset, hposts]
      simp only [State.modDeck, Quad.upd, quad_set_set, Quad.get_set_self]
      rfl
  · have heq := trackedZero_within hpast
    have hquiet : movedEvents s n r = [] := if_neg fun h => h.1 heq
    rw [if_neg hpast, hquiet, heq, if_neg fun h => h rfl]
    exact moveZero_eq (askedZero s n r)

/-! ### One lane's second -/

/-- What one second makes of a deck's constants, and of the deck. -/
def trackedCal (s : State) (n : Lane) : DeckCal :=
  match trackedReading s n with
  | some r => { s.cal n with z := trackedZero s n r }
  | none => s.cal n

def trackedDeck (s : State) (n : Lane) : Deck :=
  match trackedReading s n with
  | some r => movedDeck s n r
  | none => s.deck n

/-- What zero tracking posts. -/
def trackedEvents (s : State) (n : Lane) : List Event :=
  match trackedReading s n with
  | some r => movedEvents s n r
  | none => []

theorem trackZero_own : (s.trackZero n).cal n = trackedCal s n ∧ (s.trackZero n).deck n = trackedDeck s n
    ∧ s.posts (s.trackZero n) (trackedEvents s n) := by
  unfold trackedCal trackedDeck trackedEvents
  cases h : trackedReading s n with
  | none =>
    rw [trackZero_none h]
    exact ⟨rfl, rfl, rfl⟩
  | some r =>
    rw [trackZero_some h]
    exact ⟨Quad.get_set_self .., Quad.get_set_self .., rfl⟩

/-- What one second makes of the rest of a lane. -/
def tickedLoops (s : State) (n : Lane) : LoopPair where
  entry := tickedLoop (s.laneSettings n).entryLoop.limit (s.loop n .entry)
  clear := tickedLoop (s.laneSettings n).clearLoop.limit (s.loop n .clear)

def tickedReaders (s : State) (n : Lane) : ReaderPair where
  approach := tickedPort (s.readerPort n .approach)
  deck := tickedPort (s.readerPort n .deck)

def tickedList (s : State) (n : Lane) : List WaitEntry := (s.list n).map fun e => { e with age := e.age + 1 }

/-- What one second makes of a lane. -/
def tickedFacts (s : State) (n : Lane) : DeckCal × Deck × LoopPair × ReaderPair × List WaitEntry × LaneSeq :=
  (trackedCal s n, trackedDeck s n, tickedLoops s n, tickedReaders s n, tickedList s n, tickedLane (s.lane n))

/-- What a second changes of a lane. -/
def laneFacts (s : State) (n : Lane) : DeckCal × Deck × LoopPair × ReaderPair × List WaitEntry × LaneSeq :=
  (s.cal n, s.deck n, s.loops.get n, s.readers.get n, s.list n, s.lane n)

theorem trackZero_keeps : Keeps { cal := true, decks := true, events := true } s (s.trackZero n) :=
  keeps_trackZero rfl rfl rfl

theorem tickLane_own : laneFacts (s.tickLane n) n = tickedFacts s n ∧ s.posts (s.tickLane n) (trackedEvents s n) := by
  obtain ⟨hcal, hdeck, hposts⟩ := trackZero_own (s := s) (n := n)
  have hkeeps := trackZero_keeps (s := s) (n := n)
  refine ⟨?_, hposts⟩
  have hloops : (s.tickLane n).loops.get n = tickedLoops s n := by
    refine (Quad.get_upd_self ..).trans ?_
    rw [hkeeps.loops rfl]
    rfl
  have hreaders : (s.tickLane n).readers.get n = tickedReaders s n := by
    refine (Quad.get_upd_self ..).trans ?_
    exact congrArg (fun q : Quad ReaderPair =>
        (⟨tickedPort (q.get n).approach, tickedPort (q.get n).deck⟩ : ReaderPair))
      (hkeeps.readers rfl)
  have hlist : (s.tickLane n).list n = tickedList s n := by
    refine (Quad.get_upd_self ..).trans ?_
    exact congrArg (fun q : Quad (List WaitEntry) => (q.get n).map fun e => { e with age := e.age + 1 })
      (hkeeps.lists rfl)
  have hlane : (s.tickLane n).lane n = tickedLane (s.lane n) := by
    refine (Quad.get_upd_self ..).trans ?_
    exact congrArg (fun q : Quad LaneSeq => tickedLane (q.get n)) (hkeeps.lanes rfl)
  rw [laneFacts, hloops, hreaders, hlist, hlane]
  exact congrArg₂
    (fun c d => (c, d, tickedLoops s n, tickedReaders s n, tickedList s n, tickedLane (s.lane n))) hcal hdeck

/-- What a lane's second reads and changes. -/
structure TickSame (n : Lane) (s u : State) : Prop where
  lane : SameLane n s u
  list : u.list n = s.list n
  clock : u.clock = s.clock

theorem TickSame.refl (n : Lane) (s : State) : TickSame n s s := ⟨sameLane_refl n s, rfl, rfl⟩

theorem TickSame.trans {w : State} (h : TickSame n s u) (g : TickSame n u w) : TickSame n s w :=
  ⟨sameLane_trans h.lane g.lane, g.list.trans h.list, g.clock.trans h.clock⟩

theorem tickLane_same (hne : m ≠ n) (s : State) : TickSame n s (s.tickLane m) where
  lane := (upholds_tickLane (c := ⟨(· = m), fun _ => False, True, True⟩) (s := s) rfl).others n (Ne.symm hne)
  list := by
    refine (Quad.get_upd ..).trans ((if_neg (Ne.symm hne)).trans ?_)
    exact congrArg (fun q : Quad (List WaitEntry) => q.get n) (trackZero_keeps.lists rfl)
  clock := trackZero_keeps.clock rfl

theorem tracked_congr (h : TickSame n s u) : tickedFacts u n = tickedFacts s n ∧ laneFacts u n = laneFacts s n
    ∧ trackedEvents u n = trackedEvents s n := by
  obtain ⟨⟨hcal, hdeck, hloops, -, hreaders, hlane, hsettings, -⟩, hlist, hclock⟩ := h
  have hloop (side : LoopSide) : u.loop n side = s.loop n side := by cases side <;> simp [State.loop, hloops]
  have hport (side : ReaderSide) : u.readerPort n side = s.readerPort n side := by
    cases side <;> simp [State.readerPort, hreaders]
  have hreasons : u.reasons n = s.reasons n := by simp only [State.reasons, hcal, hdeck]
  have hevent : State.event u = State.event s := by
    unfold State.event State.now
    rw [hclock]
  have htracks : u.tracks n = s.tracks n := by
    funext r
    simp only [State.tracks, State.deckValid, hreasons, hdeck, hlane, hcal]
  have hreading : trackedReading u n = trackedReading s n := by rw [trackedReading, trackedReading, hdeck, htracks]
  have hbound : u.zeroBound n = s.zeroBound n := by simp only [State.zeroBound, State.zeroLimitNow, hdeck, hcal]
  have hasked : askedZero u n = askedZero s n := by
    funext r
    rw [askedZero, askedZero, hcal]
  have hzero : trackedZero u n = trackedZero s n := by
    funext r
    rw [trackedZero, trackedZero, hbound, hasked]
  have hmoved : movedDeck u n = movedDeck s n := by
    funext r
    simp only [movedDeck, hdeck, hzero, hcal, hasked, hbound]
  have hevents : movedEvents u n = movedEvents s n := by
    funext r
    simp only [movedEvents, hdeck, hzero, hasked, hbound, hevent]
  refine ⟨?_, ?_, ?_⟩
  · simp only [tickedFacts, trackedCal, trackedDeck, tickedLoops, tickedReaders, tickedList, hreading, hzero, hcal,
      hmoved, hdeck, hloop, hsettings, hport, hlist, hlane]
  · simp only [laneFacts, hcal, hdeck, hloops, hreaders, hlist, hlane]
  · simp only [trackedEvents, hreading, hevents]

theorem tickLanes_facts (s : State) (n : Lane) : laneFacts (s.eachLane State.tickLane) n = tickedFacts s n :=
  eachLane_out tickedFacts laneFacts id (fun _ _ => tickLane_own.1)
    (fun s _ _ hne => (tracked_congr (tickLane_same hne s)).2.1)
    (fun s _ _ hne => (tracked_congr (tickLane_same hne s)).1) s n

theorem tickLanes_posts (s : State) : s.posts (s.eachLane State.tickLane) (Lane.all.flatMap (trackedEvents s)) := by
  have hnext {u : State} {m : Lane} (h : TickSame m s u) : u.posts (u.tickLane m) (trackedEvents s m) := by
    rw [← (tracked_congr h).2.2]
    exact tickLane_own.2
  have htwo : TickSame .two s (s.tickLane .one) := tickLane_same (by decide) s
  have hthree : TickSame .three s ((s.tickLane .one).tickLane .two) :=
    (tickLane_same (by decide) s).trans (tickLane_same (by decide) _)
  have hfour : TickSame .four s (((s.tickLane .one).tickLane .two).tickLane .three) :=
    ((tickLane_same (by decide) s).trans (tickLane_same (by decide) _)).trans (tickLane_same (by decide) _)
  have hall := posts_trans (posts_trans (posts_trans (hnext (.refl .one s)) (hnext htwo)) (hnext hthree)) (hnext hfour)
  unfold State.eachLane
  simpa only [Lane.all, List.flatMap_cons, List.flatMap_nil, List.append_nil, List.append_assoc] using hall

/-! ### The site's second -/

theorem tickedClock_eq (c : Clock) : tickedClock c =
    { c with
      siteTime := c.siteTime + 1
      sweep := if c.sweep = 59 then 0 else c.sweep + 1
      sweepDue := c.sweepDue || decide (c.sweep = 59) } := by
  unfold tickedClock
  by_cases h : c.sweep = 59
  · rw [if_pos (by omega), if_pos h, decide_eq_true h, Bool.or_true]
  · rw [if_neg (by omega), if_neg h, decide_eq_false h, Bool.or_false]

/-- The state with the clock and the visits advanced, before its lanes are. -/
def tickedSite (s : State) : State :=
  { s.storing { s.ret with
      traffic := { s.ret.traffic with
        visits := s.ret.traffic.visits.map (tickedVisit s.ret.settings.approvalTimeout)
        lastTime := s.now + 1 } } with
    clock := tickedClock s.clock }

theorem advance_eq : s.advance =
    ((tickedSite s).eachLane State.tickLane).modLink (tickedLink s.ret.settings.linkTimeout) := rfl

theorem tickLanes_keeps (s : State) : Keeps
    { cal := true, decks := true, events := true, loops := true, readers := true, lists := true, lanes := true }
    s (s.eachLane State.tickLane) :=
  Keeps.eachLane (fun _ _ => keeps_tickLane rfl rfl rfl rfl rfl rfl rfl) s

theorem tickLanes_stored (s : State) : Stored s (s.eachLane State.tickLane) :=
  (Upholds.eachLane (c := ⟨fun _ => True, fun _ => False, True, True⟩) (fun _ _ => upholds_tickLane trivial) s).stored

theorem tickedLoop_eq (cfg : LoopSettings) (l : Loop) : tickedLoop cfg.limit l =
    (match l.condition, l.baseline, l.latest with
    | .faulted, _, _ => l
    | .free, some b, some p =>
      { l with baseline := some (if b < p then b + 1 else if p < b then b - 1 else b) }
    | .free, _, _ => l
    | _, _, _ =>
      { l with
        presence := min (l.presence + 1) 3601
        stuckDue := cfg.limit ≠ 0 && cfg.limit < min (l.presence + 1) 3601 && !l.stuck }) := by
  rcases l with ⟨c, b, p, _, _, _, _, _⟩
  cases c with
  | free => cases b <;> cases p <;> rfl
  | _ => rfl

/-- The event that zero tracking posts, if it posts one. -/
def zeroEvent (s : State) (n : Lane) : Option Event :=
  match trackedReading s n with
  | some r =>
    if trackedZero s n r ≠ askedZero s n r ∧ (s.deck n).zeroMarker = false then
      some (s.event .zeroLimit (some n) .none
        (.limitSide (if (s.zeroBound n : Int) < askedZero s n r then .upper else .lower)))
    else none
  | none => none

theorem trackedEvents_eq (s : State) : trackedEvents s = fun n => (zeroEvent s n).toList := by
  funext n
  unfold trackedEvents zeroEvent movedEvents
  cases trackedReading s n with
  | none => rfl
  | some r =>
    dsimp only
    split_ifs <;> rfl

theorem tickedSite_now : (tickedSite s).now = s.now + 1 := congrArg Clock.siteTime (tickedClock_eq s.clock)

/-- Settles O37: the clock and the visits advance, then each lane, then the link. -/
theorem siteTimeAdvances : Obligations.SiteTimeAdvances := by
  intro s hheld now bound limit sum held tracking aged port
  obtain ⟨hchecks, hcopy⟩ := (tickLanes_stored (tickedSite s)).formed rfl rfl
  have hkeeps := tickLanes_keeps (tickedSite s)
  have hfacts := tickLanes_facts (tickedSite s)
  have hposts := tickLanes_posts (tickedSite s)
  have hadvance := advance_eq (s := s)
  generalize (tickedSite s).eachLane State.tickLane = y at hchecks hcopy hkeeps hfacts hposts hadvance
  refine ⟨_, congrArg Host.Outcome.next ((whileRunning_of_running hheld _).trans hadvance), hchecks, hcopy,
    (hkeeps.clock rfl).trans (tickedClock_eq _), hkeeps.traffic rfl, fun n => ?_, ?_, ?_⟩
  · obtain ⟨hcal, hrest⟩ := Prod.mk.inj (hfacts n)
    obtain ⟨hdeck, hrest⟩ := Prod.mk.inj hrest
    obtain ⟨hloops, hrest⟩ := Prod.mk.inj hrest
    obtain ⟨hreaders, hrest⟩ := Prod.mk.inj hrest
    obtain ⟨hlist, hlane⟩ := Prod.mk.inj hrest
    have hentry := tickedLoop_eq (s.laneSettings n).entryLoop (s.loop n .entry)
    have hclear := tickedLoop_eq (s.laneSettings n).clearLoop (s.loop n .clear)
    refine ⟨?_, ?_, hloops.trans ?_, hreaders, hlist, hlane⟩
    · exact hcal
    · exact hdeck
    · exact congrArg₂ LoopPair.mk hentry hclear
  · exact congrArg (tickedLink s.ret.settings.linkTimeout) (hkeeps.link rfl)
  · rw [trackedEvents_eq, ← List.filterMap_eq_flatMap_toList] at hposts
    refine Eq.trans hposts (congrArg s.eventsAfter (List.filterMap_congr fun n _ => ?_))
    unfold zeroEvent State.event
    rw [tickedSite_now]
    rfl

end Sys2Proof.Proofs
end

section
/-! A header and its check byte: one damaged bit is found and repaired (R187 to R189). -/

namespace Sys2Proof.Proofs
open Sys2Proof Sys2Proof.Machine

/-! ### Bytes joined again -/

theorem joined_extracts {w start low len width : Nat} {v : BitVec w} (h : start = low + len) :
    v.extractLsb' start width ++ v.extractLsb' low len = v.extractLsb' low (width + len) :=
  BitVec.extractLsb'_append_extractLsb'_eq_extractLsb' h

theorem be16_split (v : BitVec 16) : be16 (v.extractLsb' 8 8) (v.extractLsb' 0 8) = v := by
  unfold be16
  rw [joined_extracts (by rfl)]
  exact BitVec.extractLsb'_eq_self

theorem be32_split (v : BitVec 32) :
    be32 (v.extractLsb' 24 8) (v.extractLsb' 16 8) (v.extractLsb' 8 8) (v.extractLsb' 0 8) = v := by
  unfold be32
  rw [joined_extracts (by rfl), joined_extracts (by rfl),
    joined_extracts (by rfl)]
  exact BitVec.extractLsb'_eq_self

theorem be64_split (v : BitVec 64) :
    be64 (v.extractLsb' 56 8) (v.extractLsb' 48 8) (v.extractLsb' 40 8) (v.extractLsb' 32 8) (v.extractLsb' 24 8)
      (v.extractLsb' 16 8) (v.extractLsb' 8 8) (v.extractLsb' 0 8) = v := by
  unfold be64
  rw [joined_extracts (by rfl), joined_extracts (by rfl),
    joined_extracts (by rfl), joined_extracts (by rfl),
    joined_extracts (by rfl), joined_extracts (by rfl),
    joined_extracts (by rfl)]
  exact BitVec.extractLsb'_eq_self

theorem header_split (d : BitVec 24) : d.extractLsb' 16 8 ++ d.extractLsb' 8 8 ++ d.extractLsb' 0 8 = d := by
  rw [joined_extracts (by rfl), joined_extracts (by rfl)]
  exact BitVec.extractLsb'_eq_self

/-! ### The check bits are linear -/

theorem xorCodes_xor (d e : BitVec 24) (cs : List (BitVec 6)) (j : Nat) :
    xorCodes (d ^^^ e) j cs = xorCodes d j cs ^^^ xorCodes e j cs := by
  induction cs generalizing j with
  | nil => exact BitVec.xor_self.symm
  | cons c cs ih =>
    have hbit : (if (d ^^^ e).getLsbD j then c else 0)
        = (if d.getLsbD j then c else 0) ^^^ (if e.getLsbD j then c else 0) := by
      rw [BitVec.getLsbD_xor]
      cases d.getLsbD j <;> cases e.getLsbD j <;> simp
    rw [xorCodes, xorCodes, xorCodes, ih, hbit]
    ac_rfl

theorem checkBits_xor (d e : BitVec 24) : checkBits (d ^^^ e) = checkBits d ^^^ checkBits e :=
    xorCodes_xor d e bitCodes 0

theorem checkByte_setWidth (d : BitVec 24) : (checkByte d).setWidth 6 = checkBits d := by
  simp [checkByte, BitVec.setWidth_setWidth_of_le]

/-- The syndrome of a damaged header is that of its damage. -/
theorem syndrome_damaged (d e : BitVec 24) (f : Byte) :
    syndrome (d ^^^ e) (checkByte d ^^^ f) = f.setWidth 6 ^^^ checkBits e := by
  rw [syndrome, BitVec.setWidth_xor, checkByte_setWidth, checkBits_xor]
  have hcancel : checkBits d ^^^ checkBits d = 0#6 := BitVec.xor_self
  calc checkBits d ^^^ f.setWidth 6 ^^^ (checkBits d ^^^ checkBits e)
      = (checkBits d ^^^ checkBits d) ^^^ (f.setWidth 6 ^^^ checkBits e) := by ac_rfl
    _ = f.setWidth 6 ^^^ checkBits e := by rw [hcancel, BitVec.zero_xor]

theorem judgeHeader_clean (d : BitVec 24) : judgeHeader d (checkByte d) = .clean d := by
  have hzero : syndrome d (checkByte d) = 0 := by
    rw [syndrome, checkByte_setWidth]
    exact BitVec.xor_self
  unfold judgeHeader
  rw [hzero]
  exact if_pos rfl

/-! ### One damaged bit -/

/-- A damage of the check bits alone, or of one bit of the header's contents, by its syndrome. -/
def repairs (x : BitVec 6) (e : BitVec 24) : Bool :=
  x != 0 &&
    if x = 1 ∨ x = 2 ∨ x = 4 ∨ x = 8 ∨ x = 16 ∨ x = 32 then e == 0
    else match damagedBit x 0 bitCodes with
      | some j => e == 1#24 <<< j
      | none => false

theorem judgeHeader_repairs {d e : BitVec 24} {f : Byte} (h : repairs (f.setWidth 6 ^^^ checkBits e) e = true) :
    judgeHeader (d ^^^ e) (checkByte d ^^^ f) = .corrected d := by
  unfold judgeHeader
  rw [syndrome_damaged]
  generalize f.setWidth 6 ^^^ checkBits e = x at h
  rw [repairs, Bool.and_eq_true, bne_iff_ne] at h
  obtain ⟨hne, h⟩ := h
  dsimp only
  rw [if_neg hne]
  by_cases hcheck : x = 1 ∨ x = 2 ∨ x = 4 ∨ x = 8 ∨ x = 16 ∨ x = 32
  · rw [if_pos hcheck, beq_iff_eq] at h
    rw [if_pos hcheck, h]
    exact congrArg Judgement.corrected BitVec.xor_zero
  · rw [if_neg hcheck] at h ⊢
    cases hbit : damagedBit x 0 bitCodes with
    | none => rw [hbit] at h; cases h
    | some j =>
      rw [hbit] at h
      dsimp only at h ⊢
      rw [← beq_iff_eq.mp h, BitVec.xor_assoc, BitVec.xor_self]
      exact congrArg Judgement.corrected BitVec.xor_zero

/-- Each bit of a header, the two unused ones of its check byte apart, is repaired. -/
theorem repairs_bit : ∀ j : Fin 32, j ≠ 6 → j ≠ 7 →
    repairs (((BitVec.twoPow 32 j).extractLsb' 0 8).setWidth 6 ^^^ checkBits ((BitVec.twoPow 32 j).extractLsb' 8 24))
      ((BitVec.twoPow 32 j).extractLsb' 8 24) = true := by
  decide

/-- A header with one bit damaged, as it is judged. -/
theorem judgeHeader_damaged {d : BitVec 24} {a b c k : Byte} {j : Nat} (hd : a ++ b ++ c = d) (hk : k = checkByte d)
    (hj : j < 32) (h6 : j ≠ 6) (h7 : j ≠ 7) :
    let x : BitVec 32 := (a ++ b ++ c ++ k) ^^^ BitVec.twoPow 32 j
    judgeHeader (x.extractLsb' 24 8 ++ x.extractLsb' 16 8 ++ x.extractLsb' 8 8) (x.extractLsb' 0 8) = .corrected d := by
  intro x
  have hdata : x.extractLsb' 8 24 = d ^^^ (BitVec.twoPow 32 j).extractLsb' 8 24 := by
    rw [← hd, BitVec.extractLsb'_xor, BitVec.extractLsb'_append_eq_left]
  have hcheck : x.extractLsb' 0 8 = checkByte d ^^^ (BitVec.twoPow 32 j).extractLsb' 0 8 := by
    rw [← hk, BitVec.extractLsb'_xor, BitVec.extractLsb'_append_eq_of_add_le (Nat.le_refl 8),
      BitVec.extractLsb'_eq_self]
  rw [joined_extracts (by rfl), joined_extracts (by rfl),
    hcheck]
  refine (congrArg (fun y => judgeHeader y _) hdata).trans (judgeHeader_repairs ?_)
  exact repairs_bit ⟨j, hj⟩ (fun h => h6 (congrArg Fin.val h)) (fun h => h7 (congrArg Fin.val h))

/-! ### The fields of a header -/

theorem headerChan_of {chan kind : Nat} (arg : BitVec 16) (h : chan < 8) :
    headerChan (headerOf chan kind arg) = chan := by
  have hfield : (headerOf chan kind arg).extractLsb' 21 3 = BitVec.ofNat 3 chan := by
    unfold headerOf
    rw [BitVec.extractLsb'_append_eq_of_le (by decide)]
    exact BitVec.extractLsb'_append_eq_left
  rw [headerChan, hfield, BitVec.toNat_ofNat]
  exact Nat.mod_eq_of_lt h

theorem headerKind_of {chan kind : Nat} (arg : BitVec 16) (h : kind < 32) :
    headerKind (headerOf chan kind arg) = kind := by
  have hfield : (headerOf chan kind arg).extractLsb' 16 5 = BitVec.ofNat 5 kind := by
    unfold headerOf
    rw [BitVec.extractLsb'_append_eq_of_le (by decide), BitVec.extractLsb'_append_eq_of_add_le (by decide)]
    exact BitVec.extractLsb'_eq_self
  rw [headerKind, hfield, BitVec.toNat_ofNat]
  exact Nat.mod_eq_of_lt h

theorem headerArg_of {chan kind : Nat} (arg : BitVec 16) : headerArg (headerOf chan kind arg) = arg := by
  unfold headerArg headerOf
  rw [BitVec.extractLsb'_append_eq_of_add_le (by decide)]
  exact BitVec.extractLsb'_eq_self

end Sys2Proof.Proofs
end

section
/-! O60: records read back from their bytes (R186 to R189, R202, R204, R205). -/

namespace Sys2Proof.Proofs
open Sys2Proof Sys2Proof.Machine

variable {h : RecHead} {i : Instr} {r : WireRecord} {mv : Nat}

/-! ### Each payload read back -/

theorem body16_split (v : BitVec 16) : body16 (split16 v) = .item v := congrArg Body.item (be16_split v)

theorem body32_split (v : BitVec 32) : body32 (split32 v) = .item v := congrArg Body.item (be32_split v)

theorem bodyToken_split (v : Token) : bodyToken (split64 v) = .item v := congrArg Body.item (be64_split v)

theorem bodyVehicle_payload (i : VehicleItem) : bodyVehicle (vehiclePayloadOf i) = .item i := by
  simp [vehiclePayloadOf, bodyVehicle, split32, split64, be32_split, be64_split]

theorem bodyAccount_payload (i : AccountItem) : bodyAccount (accountPayloadOf i) = .item i := by
  simp [accountPayloadOf, bodyAccount, split32, be32_split]

theorem bodyIdent_payload (i : IdentItem) : bodyIdent (split64 i.token ++ [i.stream, i.kind]) = .item i := by
  simp [bodyIdent, split64, be64_split]

theorem bodyRange_payload (i : RangeItem) : bodyRange (split32 i.max ++ [i.d]) = .item i := by
  simp [bodyRange, split32, be32_split]

theorem bodyReprint_payload (i : ReprintItem) : bodyReprint (split32 i.ticket ++ [i.lane]) = .item i := by
  simp [bodyReprint, split32, be32_split]

theorem bodyStock_payload (i : StockItem) : bodyStock (i.stream :: split32 i.stock) = .item i := by
  simp [bodyStock, split32, be32_split]

theorem bodyVehicleStart_payload (i : VehicleStart) : bodyVehicleStart (split64 i.token ++ [i.single]) = .item i := by
  simp [bodyVehicleStart, split64, be64_split]

theorem bodyVisitStart_payload (i : VisitStart) : bodyVisitStart (split16 i.number ++ [i.single]) = .item i := by
  simp [bodyVisitStart, split16, be16_split]

theorem bodyPlan_toList (v : Vector Byte 16) : bodyPlan v.toList = .item v := by
  rcases v with ⟨⟨l⟩, hl⟩
  match l, hl with
  | [_, _, _, _, _, _, _, _, _, _, _, _, _, _, _, _], _ => rfl

theorem bodySettling_payload (i : SettlingItem) : bodySettling (settlingPayloadOf i) = .item i := by
  simp [settlingPayloadOf, bodySettling, split16, be16_split]

theorem bodyLoop_payload (i : LoopItem) : bodyLoop (loopPayloadOf i) = .item i := by
  simp [loopPayloadOf, bodyLoop, split16, be16_split]

theorem bodyPolicy_payload (i : PolicyItem) : bodyPolicy (policyPayloadOf i) = .item i := by
  simp [policyPayloadOf, bodyPolicy, split16, be16_split]

theorem bodyVehicleTable_payload (i : VehicleTableItem) : bodyVehicleTable (vehicleTablePayloadOf i) = .item i := by
  simp [vehicleTablePayloadOf, bodyVehicleTable, split16, be16_split]

theorem bodyClass_payload (i : ClassItem) : bodyClass (classPayloadOf i) = .item i := by
  simp [classPayloadOf, bodyClass, split16, split32, be16_split, be32_split]

theorem bodyStream_payload (i : StreamItem) : bodyStream (streamPayloadOf i) = .item i := by
  simp [streamPayloadOf, bodyStream, split32, be32_split]

theorem bodyAdmission_payload (i : AdmissionItem) : bodyAdmission (split16 i.timeout ++ split32 i.cap) = .item i := by
  simp [bodyAdmission, split16, split32, be16_split, be32_split]

theorem bodyLink_payload (i : LinkItem) : bodyLink (split16 i.replyLimit ++ [i.timeout]) = .item i := by
  simp [bodyLink, split16, be16_split]

theorem trimPairs_payload (ps : List TrimPair) :
    trimPairs (ps.flatMap fun p => p.cell :: split32 p.trim) = some ps := by
  induction ps with
  | nil => rfl
  | cons p ps ih =>
    rw [List.flatMap_cons, split32, List.cons_append, List.cons_append, List.cons_append, List.cons_append,
      List.cons_append, List.nil_append, trimPairs, ih, be32_split]
    rfl

theorem bodyTrim_payload {ps : List TrimPair} (hlo : 1 ≤ ps.length) (hhi : ps.length ≤ 8) :
    bodyTrim (trimPayloadOf ps) = .item ps := by
  have hlength : (BitVec.ofNat 8 ps.length).toNat = ps.length := by
    rw [BitVec.toNat_ofNat]
    omega
  unfold bodyTrim trimPayloadOf
  dsimp only
  rw [trimPairs_payload, hlength]
  exact if_pos ⟨rfl, hlo, hhi⟩

theorem trimPayloadOf_length (ps : List TrimPair) : (trimPayloadOf ps).length = 1 + 5 * ps.length := by
  have hpairs : (ps.flatMap fun p => p.cell :: split32 p.trim).length = 5 * ps.length := by
    induction ps with
    | nil => rfl
    | cons p ps ih =>
      rw [List.flatMap_cons, List.length_append, ih, List.length_cons]
      simp only [split32, List.length_cons, List.length_nil]
      omega
  rw [trimPayloadOf, List.length_cons, hpairs]
  omega

/-! ### A record decoded -/

/-- The bytes after a record's header, and the argument in it. -/
def recordTail : WireRecord → List Byte
  | .short _ _ => []
  | .long _ payload => payload ++ split16 (checksum payload)

def recordHeader (chan : Nat) : WireRecord → BitVec 24
  | .short kind arg => headerOf chan kind arg
  | .long kind payload => headerOf chan kind (BitVec.ofNat 16 payload.length)

theorem record_bytes (chan : Nat) (r : WireRecord) : r.bytes chan =
    (recordHeader chan r).extractLsb' 16 8 :: (recordHeader chan r).extractLsb' 8 8
      :: (recordHeader chan r).extractLsb' 0 8 :: checkByte (recordHeader chan r) :: recordTail r := by
  cases r <;> rfl

/-- A record whose fields spell a command. -/
def Spells (h : RecHead) (mv : Nat) (i : Instr) : WireRecord → Prop
  | .short kind arg => kind ≤ 9 ∧ decodeShort h kind arg = i
  | .long kind payload =>
    (16 ≤ kind ∧ kind ≤ 24) ∧ (1 ≤ payload.length ∧ payload.length ≤ 1024) ∧ decodeLong h kind payload mv = i

theorem chanNumber_le (c : Chan) : chanNumber c ≤ 4 := by
  cases c with
  | site => exact Nat.zero_le 4
  | lane n => cases n <;> decide

theorem chanOf_chanNumber (c : Chan) : chanOf (chanNumber c) = c := by
  cases c with
  | site => rfl
  | lane n => cases n <;> rfl

theorem headerMarks_good {chan kind : Nat} {arg : BitVec 16} {corrected : Bool} (hchan : chan ≤ 4) (hkind : kind < 32)
    (hhost : hostKind kind = true) :
    headerMarks corrected (headerOf chan kind arg) = ⟨corrected, false, false⟩ := by
  rw [headerMarks, headerKind_of arg hkind, headerChan_of arg (by omega), hhost, decide_eq_false (by omega)]
  rfl

/-- What a whole record of a host decodes to. -/
theorem decodeRecord_host {kind : Nat} {arg : BitVec 16} {payload : List Byte} (hkind : kind < 32)
    (hhost : hostKind kind = true) :
    decodeRecord h.corrected (headerOf (chanNumber h.chan) kind arg) payload false mv =
      if longKind kind then decodeLong h kind payload mv else decodeShort h kind arg := by
  have hchan := chanNumber_le h.chan
  unfold decodeRecord
  dsimp only
  rw [headerMarks_good hchan hkind hhost, headerKind_of arg hkind, headerChan_of arg (by omega), headerArg_of,
    chanOf_chanNumber]
  rfl

theorem afterHeader_spells (hs : Spells h mv i r) :
    afterHeader h.corrected (recordHeader (chanNumber h.chan) r) (recordTail r) mv = .record i [] := by
  cases r with
  | short kind arg =>
    obtain ⟨hkind, hspells⟩ := hs
    have hshort : longKind kind = false := decide_eq_false (by omega)
    have hhost : hostKind kind = true := by simp [hostKind, hkind]
    unfold afterHeader recordHeader
    dsimp only
    rw [headerKind_of arg (by omega), hshort, decodeRecord_host (by omega) hhost, hshort]
    rw [← hspells]
    rfl
  | long kind payload =>
    obtain ⟨⟨hlo, hhi⟩, ⟨hsome, hmost⟩, hspells⟩ := hs
    have hlong : longKind kind = true := decide_eq_true hlo
    have hhost : hostKind kind = true := by simp [hostKind, hlo, hhi]
    have hlength : (BitVec.ofNat 16 payload.length).toNat = payload.length := by
      rw [BitVec.toNat_ofNat]
      omega
    have hsum : (be16 ((checksum payload).extractLsb' 8 8) ((checksum payload).extractLsb' 0 8) != checksum payload)
        = false := by rw [be16_split]; exact bne_self_eq_false _
    unfold afterHeader recordHeader recordTail
    dsimp only
    rw [headerKind_of _ (by omega), hlong, headerArg_of, hlength, if_pos rfl, if_neg (by omega), List.drop_left,
      List.take_left, split16]
    dsimp only
    rw [hsum, decodeRecord_host (by omega) hhost, hlong, if_pos rfl, hspells]

theorem transmission_of_item {bytes : List Byte} {b : Byte} {bs : List Byte} (hbytes : bytes = b :: bs)
    (hitem : nextItem bytes mv = .record i []) : transmission bytes mv = [i, .transmissionEnd none] := by
  subst hbytes
  unfold transmission
  rw [List.length_cons, readTransmission, hitem]
  rfl

/-! ### Every record of a host -/

section
variable {α : Type} {h' : RecHead} {kind code : Nat} {b : Body α} {fields : α → List Byte}

theorem short_spells {arg : BitVec 16} (hr : some (h', WireRecord.short kind arg) = some (h, r)) (hkind : kind ≤ 9)
    (hread : decodeShort h' kind arg = i) : Spells h mv i r := by
  obtain ⟨rfl, rfl⟩ := Prod.mk.inj (Option.some.inj hr)
  exact ⟨hkind, hread⟩

theorem plain_spells (make : Body α → Instr) (hr : (plainBody kind b fields).map (h', ·) = some (h, r))
    (hkind : 16 ≤ kind ∧ kind ≤ 24)
    (hfits : ∀ a, Nat.ble 1 (fields a).length = true ∧ Nat.ble (fields a).length 1024 = true)
    (hread : ∀ a, decodeLong h' kind (fields a) mv = make (.item a)) : Spells h mv (make b) r := by
  cases b with
  | misfit => cases hr
  | item a =>
    obtain ⟨rfl, rfl⟩ := Prod.mk.inj (Option.some.inj hr)
    obtain ⟨hlo, hhi⟩ := hfits a
    exact ⟨hkind, ⟨Nat.le_of_ble_eq_true hlo, Nat.le_of_ble_eq_true hhi⟩, hread a⟩

theorem coded_spells (make : Body α → Instr) (hr : (codedBody kind code b fields).map (h', ·) = some (h, r))
    (hkind : 16 ≤ kind ∧ kind ≤ 24)
    (hread : ∀ a, b = .item a → (fields a).length ≤ 1023
      ∧ decodeLong h' kind (BitVec.ofNat 8 code :: fields a) mv = make (.item a)) : Spells h mv (make b) r := by
  cases b with
  | misfit => cases hr
  | item a =>
    obtain ⟨rfl, rfl⟩ := Prod.mk.inj (Option.some.inj hr)
    obtain ⟨hlength, hdecoded⟩ := hread a rfl
    exact ⟨hkind, ⟨Nat.succ_le_succ (Nat.zero_le _), Nat.succ_le_succ hlength⟩, hdecoded⟩

/-- A payload whose fields stand one by one in its layout, and fit. -/
theorem fixed_spells (make : Body α → Instr) (hr : (codedBody kind code b fields).map (h', ·) = some (h, r))
    (hkind : 16 ≤ kind ∧ kind ≤ 24) (hfits : ∀ a, Nat.ble (fields a).length 1023 = true)
    (hread : ∀ a, decodeLong h' kind (BitVec.ofNat 8 code :: fields a) mv = make (.item a)) : Spells h mv (make b) r :=
  coded_spells make hr hkind fun a _ => ⟨Nat.le_of_ble_eq_true (hfits a), hread a⟩

end

theorem hostRecord_spells (hr : hostRecord i = some (h, r)) (hwf : i.wf = true) : Spells h (carriedMv i) i r := by
  cases i with
  | turn h' => exact short_spells hr (by decide) rfl
  | siteOpen h' => exact short_spells hr (by decide) rfl
  | siteClose h' => exact short_spells hr (by decide) rfl
  | laneOpen h' => exact short_spells hr (by decide) rfl
  | laneClose h' => exact short_spells hr (by decide) rfl
  | laneClear h' => exact short_spells hr (by decide) rfl
  | barrierRaise h' => exact short_spells hr (by decide) rfl
  | barrierLower h' => exact short_spells hr (by decide) rfl
  | barrierReset h' => exact short_spells hr (by decide) rfl
  | approve h' k => exact short_spells hr (by decide) rfl
  | decline h' k => exact short_spells hr (by decide) rfl
  | returnVisit h' k => exact short_spells hr (by decide) rfl
  | zero h' => exact short_spells hr (by decide) rfl
  | day h' => exact short_spells hr (by decide) rfl
  | resetLink h' => exact short_spells hr (by decide) rfl
  | resetLanes h' => exact short_spells hr (by decide) rfl
  | resetAll h' => exact short_spells hr (by decide) rfl
  | time h' b =>
    exact plain_spells (Instr.time h') hr (by decide) (fun _ => ⟨rfl, rfl⟩) fun v =>
      congrArg (Instr.time h') (body32_split v)
  | vehicleWrite h' b =>
    exact fixed_spells (Instr.vehicleWrite h') hr (by decide) (fun _ => rfl) fun v =>
      congrArg (Instr.vehicleWrite h') (bodyVehicle_payload v)
  | vehicleDelete h' b =>
    exact fixed_spells (Instr.vehicleDelete h') hr (by decide) (fun _ => rfl) fun v =>
      congrArg (Instr.vehicleDelete h') (bodyToken_split v)
  | accountWrite h' b =>
    exact fixed_spells (Instr.accountWrite h') hr (by decide) (fun _ => rfl) fun v =>
      congrArg (Instr.accountWrite h') (bodyAccount_payload v)
  | accountPeriodReset h' b =>
    exact fixed_spells (Instr.accountPeriodReset h') hr (by decide) (fun _ => rfl) fun v =>
      congrArg (Instr.accountPeriodReset h') (body16_split v)
  | ident h' b =>
    exact plain_spells (Instr.ident h') hr (by decide) (fun _ => ⟨rfl, rfl⟩) fun v =>
      congrArg (Instr.ident h') (bodyIdent_payload v)
  | zeroCapture h' b => exact fixed_spells (Instr.zeroCapture h') hr (by decide) (fun _ => rfl) fun _ => rfl
  | trim h' b =>
    refine coded_spells (Instr.trim h') hr (by decide) fun ps hb => ?_
    have hcount : 1 ≤ ps.length ∧ ps.length ≤ 8 := by
      simpa [Instr.wf, trimWf, hb] using hwf
    exact ⟨by rw [trimPayloadOf_length]; omega, congrArg (Instr.trim h') (bodyTrim_payload hcount.1 hcount.2)⟩
  | spanCapture h' b =>
    exact fixed_spells (Instr.spanCapture h') hr (by decide) (fun _ => rfl) fun v =>
      congrArg (Instr.spanCapture h') (body32_split v)
  | range h' b =>
    exact fixed_spells (Instr.range h') hr (by decide) (fun _ => rfl) fun v =>
      congrArg (Instr.range h') (bodyRange_payload v)
  | abort h' =>
    obtain ⟨rfl, rfl⟩ := Prod.mk.inj (Option.some.inj hr)
    exact ⟨by decide, by decide, rfl⟩
  | ticketsRelease h' b =>
    exact fixed_spells (Instr.ticketsRelease h') hr (by decide) (fun _ => rfl) fun v =>
      congrArg (Instr.ticketsRelease h') (body32_split v)
  | ticketsReprint h' b =>
    exact fixed_spells (Instr.ticketsReprint h') hr (by decide) (fun _ => rfl) fun v =>
      congrArg (Instr.ticketsReprint h') (bodyReprint_payload v)
  | stock h' b =>
    exact plain_spells (Instr.stock h') hr (by decide) (fun _ => ⟨rfl, rfl⟩) fun v =>
      congrArg (Instr.stock h') (bodyStock_payload v)
  | setupSlotPlan h' b =>
    exact coded_spells (Instr.setupSlotPlan h') hr (by decide) fun v _ =>
      ⟨by rw [Vector.length_toList]; decide, congrArg (Instr.setupSlotPlan h') (bodyPlan_toList v)⟩
  | setupDeckCells h' b => exact fixed_spells (Instr.setupDeckCells h') hr (by decide) (fun _ => rfl) fun _ => rfl
  | setupDeckFilter h' b => exact fixed_spells (Instr.setupDeckFilter h') hr (by decide) (fun _ => rfl) fun _ => rfl
  | setupDeckSettling h' b =>
    exact fixed_spells (Instr.setupDeckSettling h') hr (by decide) (fun _ => rfl) fun v =>
      congrArg (Instr.setupDeckSettling h') (bodySettling_payload v)
  | setupOccupancyLevel h' b =>
    exact fixed_spells (Instr.setupOccupancyLevel h') hr (by decide) (fun _ => rfl) fun v =>
      congrArg (Instr.setupOccupancyLevel h') (body16_split v)
  | setupPartAge h' b =>
    exact fixed_spells (Instr.setupPartAge h') hr (by decide) (fun _ => rfl) fun v =>
      congrArg (Instr.setupPartAge h') (body16_split v)
  | setupLoop h' b =>
    exact fixed_spells (Instr.setupLoop h') hr (by decide) (fun _ => rfl) fun v =>
      congrArg (Instr.setupLoop h') (bodyLoop_payload v)
  | setupBarrier h' b => exact fixed_spells (Instr.setupBarrier h') hr (by decide) (fun _ => rfl) fun _ => rfl
  | setupLanePolicy h' b =>
    exact fixed_spells (Instr.setupLanePolicy h') hr (by decide) (fun _ => rfl) fun v =>
      congrArg (Instr.setupLanePolicy h') (bodyPolicy_payload v)
  | setupWaitingList h' b => exact fixed_spells (Instr.setupWaitingList h') hr (by decide) (fun _ => rfl) fun _ => rfl
  | setupVehicleTable h' b =>
    exact fixed_spells (Instr.setupVehicleTable h') hr (by decide) (fun _ => rfl) fun v =>
      congrArg (Instr.setupVehicleTable h') (bodyVehicleTable_payload v)
  | setupClass h' b =>
    exact fixed_spells (Instr.setupClass h') hr (by decide) (fun _ => rfl) fun v =>
      congrArg (Instr.setupClass h') (bodyClass_payload v)
  | setupStream h' b =>
    exact fixed_spells (Instr.setupStream h') hr (by decide) (fun _ => rfl) fun v =>
      congrArg (Instr.setupStream h') (bodyStream_payload v)
  | setupAdmission h' b =>
    exact fixed_spells (Instr.setupAdmission h') hr (by decide) (fun _ => rfl) fun v =>
      congrArg (Instr.setupAdmission h') (bodyAdmission_payload v)
  | setupPrinter h' b => exact fixed_spells (Instr.setupPrinter h') hr (by decide) (fun _ => rfl) fun _ => rfl
  | setupLink h' b =>
    exact fixed_spells (Instr.setupLink h') hr (by decide) (fun _ => rfl) fun v =>
      congrArg (Instr.setupLink h') (bodyLink_payload v)
  | setupSupply h' b m => exact fixed_spells (Instr.setupSupply h' · m) hr (by decide) (fun _ => rfl) fun _ => rfl
  | readAcquisitionState h' b =>
    exact fixed_spells (Instr.readAcquisitionState h') hr (by decide) (fun _ => rfl) fun _ => rfl
  | readDeckReadings h' b => exact fixed_spells (Instr.readDeckReadings h') hr (by decide) (fun _ => rfl) fun _ => rfl
  | readCaptureState h' b => exact fixed_spells (Instr.readCaptureState h') hr (by decide) (fun _ => rfl) fun _ => rfl
  | readCalibrationState h' b =>
    exact fixed_spells (Instr.readCalibrationState h') hr (by decide) (fun _ => rfl) fun _ => rfl
  | readLaneDevices h' b => exact fixed_spells (Instr.readLaneDevices h') hr (by decide) (fun _ => rfl) fun _ => rfl
  | readLaneState h' b => exact fixed_spells (Instr.readLaneState h') hr (by decide) (fun _ => rfl) fun _ => rfl
  | readWaitingLists h' b => exact fixed_spells (Instr.readWaitingLists h') hr (by decide) (fun _ => rfl) fun _ => rfl
  | readVehicleTable h' b =>
    exact fixed_spells (Instr.readVehicleTable h') hr (by decide) (fun _ => rfl) fun v =>
      congrArg (Instr.readVehicleTable h') (bodyVehicleStart_payload v)
  | readClassTable h' b => exact fixed_spells (Instr.readClassTable h') hr (by decide) (fun _ => rfl) fun _ => rfl
  | readAccountTable h' b => exact fixed_spells (Instr.readAccountTable h') hr (by decide) (fun _ => rfl) fun _ => rfl
  | readVisitTable h' b =>
    exact fixed_spells (Instr.readVisitTable h') hr (by decide) (fun _ => rfl) fun v =>
      congrArg (Instr.readVisitTable h') (bodyVisitStart_payload v)
  | readStreams h' b => exact fixed_spells (Instr.readStreams h') hr (by decide) (fun _ => rfl) fun _ => rfl
  | readJournal h' b =>
    exact fixed_spells (Instr.readJournal h') hr (by decide) (fun _ => rfl) fun v =>
      congrArg (Instr.readJournal h') (body32_split v)
  | readPrinters h' b => exact fixed_spells (Instr.readPrinters h') hr (by decide) (fun _ => rfl) fun _ => rfl
  | readEvents h' b => exact fixed_spells (Instr.readEvents h') hr (by decide) (fun _ => rfl) fun _ => rfl
  | readLink h' b => exact fixed_spells (Instr.readLink h') hr (by decide) (fun _ => rfl) fun _ => rfl
  | readSupply h' b => exact fixed_spells (Instr.readSupply h') hr (by decide) (fun _ => rfl) fun _ => rfl
  | _ => exact absurd hr nofun

/-- Settles O60: a record's fields spell its command, and its header is read, or repaired. -/
theorem recordsReadBack : Obligations.RecordsReadBack := by
  intro i h r hr hwf
  have hafter := afterHeader_spells (hostRecord_spells hr hwf)
  refine ⟨fun hclean => ?_, fun hcorrected a b c k rest hbytes j hj h6 h7 => ?_⟩
  · rw [hclean] at hafter
    refine transmission_of_item (record_bytes ..) ?_
    rw [record_bytes, nextItem, header_split, judgeHeader_clean]
    exact hafter
  · intro x
    rw [hcorrected] at hafter
    rw [record_bytes] at hbytes
    injection hbytes with ha hbytes
    injection hbytes with hb hbytes
    injection hbytes with hc hbytes
    injection hbytes with hk htail
    have hheader : a ++ b ++ c = recordHeader (chanNumber h.chan) r := by rw [← ha, ← hb, ← hc, header_split]
    refine transmission_of_item rfl ?_
    rw [nextItem, judgeHeader_damaged hheader hk.symm hj h6 h7, ← htail]
    exact hafter

end Sys2Proof.Proofs
end
